-- ==== Sys2Proof/Word.lean ====
section
/-! DEFINITION. Words and bytes: the 64-bit register word (R13, Register space) and the byte of images, items and
records (R6). -/
namespace Sys2Proof

/-- A register word: all Varlor registers are 64 bits wide (Scope and Conventions, Registers). -/
abbrev Word := BitVec 64
/-- One byte of an image, item, frame or record. -/
abbrev Byte := BitVec 8
/-- A byte string, lowest offset first. -/
abbrev Bytes := List Byte

end Sys2Proof
end

