-- ==== Sys2Proof/Syntax.lean ====
section
/-! DEFINITION. The commands of the block: one constructor of `Instr` for each row of spec/opcode_table.json, with the
operands the row's rule names. Operand records follow the frame and record tables of the spec; a field that the table
calls reserved, or a check value, is carried where a rule tests it. Node operands are local node numbers unless a
comment says "logical". Rounds and times that a step depends on come from State, not from the operand. -/
namespace Sys2Proof

/-- The header of an SCP request (Table 10.2): `sess` stands for the source address and UDP port (R270). -/
structure ScpHdr where
  sess : Nat
  tag : Nat
  retry : Bool
  more : Bool
  a : Nat
  b : Nat
  /-- The frame arrived under MACsec (R266). -/
  protectedFrame : Bool
  deriving DecidableEq, Repr

/-- A beacon (Table 3.1), without its frame type: `crcOk` is the outcome of its CRC-32C, `reserved` its reserved
bytes read as one number. -/
structure Beacon where
  level : Nat
  kind : Nat
  port : Nat
  portCount : Nat
  flags : Nat
  elementId : Nat
  epoch : Nat
  boundNode : Nat
  usable : Nat
  designed : Nat
  letter : Nat
  mirrorLevel : Nat
  reserved : Nat
  crcOk : Bool
  deriving DecidableEq, Repr

/-- One port record of a probe reply (Table 3.2). -/
structure PortRec where
  link : Nat
  level : Nat
  farPort : Nat
  farKind : Nat
  farEpoch : Nat
  farId : Nat
  beaconErrors : Nat
  deriving DecidableEq, Repr

/-- A data header (Table 15.3) with the payload length in bytes and the outcome of its checks. -/
structure DataFrame where
  flow : Nat
  cupola : Nat
  detour : Bool
  first : Bool
  last : Bool
  receipt : Bool
  source : Nat
  tag : Nat
  index : Nat
  payload : Bytes
  /-- PROTECTED of the start block (R382). -/
  protectedFrame : Bool
  keyPhase : Nat
  counter : Nat
  /-- The key role's generation or epoch under which the tag authenticates; `none`: it authenticates under no key. -/
  tagKey : Option Nat
  deriving DecidableEq, Repr

/-- A fault notice (Table 5.4). `node` is the sender's logical node number. -/
structure Notice where
  cause : Nat
  port : Nat
  node : Nat
  round : Nat
  flow : Nat
  cupola : Nat
  count : Nat
  farId : Nat
  deriving DecidableEq, Repr

/-- A heartbeat (Table 5.3). -/
structure Heartbeat where
  node : Nat
  computeUp : Bool
  computeReset : Bool
  installState : Nat
  round : Nat
  epoch : Nat
  portsUp : Nat
  installId : Nat
  crcOk : Bool
  deriving DecidableEq, Repr

/-- A receipt (Table 4.8). -/
structure Receipt where
  installId : Nat
  node : Nat
  state : Nat
  refusal : Nat
  table : Nat
  epoch : Nat
  bitmap : Nat
  crcOk : Bool
  deriving DecidableEq, Repr

/-- One table descriptor of a manifest (Table 4.7). -/
structure TableDesc where
  code : Nat
  first : Nat
  count : Nat
  crc : Nat
  deriving DecidableEq, Repr

/-- A manifest payload (Table 4.7). -/
structure ManifestP where
  installId : Nat
  kind : Nat
  roundCode : Nat
  epoch : Nat
  actRound : Nat
  node : Nat
  segments : Nat
  roundChange : Bool
  tables : List TableDesc
  deriving DecidableEq, Repr

/-- A table segment frame (Table 4.6): `target` 0xFFFF_FFFF names every agent. -/
structure Segment where
  installId : Nat
  target : Nat
  index : Nat
  route : List Nat
  epoch : Nat
  payload : Bytes
  crcOk : Bool
  deriving DecidableEq, Repr

/-- An ACTIVATE frame (Table 4.11): the held cupolas and the fenced logical nodes. -/
structure ActivateP where
  installId : Nat
  discard : Bool
  round : Nat
  held : List Nat
  fence : List Nat
  deriving DecidableEq, Repr

/-- A failure broadcast (R133): failed logical nodes, failed links as (node, port), REPAIRING cupolas. -/
structure FailBcast where
  nodes : List Nat
  links : List (Nat × Nat)
  cupolas : List Nat
  deriving DecidableEq, Repr

/-- A guardian item (Table 6.4) with its payload: `check` is the carried payload check field, `hdrCheck` the carried header check, and
`reserved` the reserved bits, flags [7:2] lowest, then step [63:48], then the 12 bytes at 0x30 (R157). -/
structure GItem where
  rollback : Bool
  resent : Bool
  fmt : Nat
  group : Nat
  member : Nat
  tensor : Nat
  step : Nat
  offset : Nat
  count : Nat
  check : Nat
  tensorOffset : Nat
  payload : Bytes
  reserved : Nat
  hdrCheck : Nat
  deriving DecidableEq, Repr

/-- A scalar frame (Table 7.10, contribution): values as 64-bit patterns. -/
structure ScalarC where
  cupola : Nat
  op : Nat
  isInt : Bool
  tag : Nat
  node : Nat
  values : List Nat
  crcOk : Bool
  deriving DecidableEq, Repr

/-- The unrounded accumulator a spire sends to the coordinator (R211): per value the exact sum, scaled by 2^1074 for
fp64, with the NaN, +Inf and -Inf marks. -/
structure ScalarAcc where
  spire : Nat
  tag : Nat
  sums : List Int
  nan : List Bool
  pinf : List Bool
  ninf : List Bool
  deriving DecidableEq, Repr

/-- A claim, grant or release frame (Table 14.1). -/
structure ClaimF where
  primary : Bool
  denied : Bool
  epoch : Nat
  elementId : Nat
  round : Nat
  crcOk : Bool
  deriving DecidableEq, Repr

/-- A mirror frame header (Table 14.3) with its payload; `trailerOk` is the outcome of the CRC-64/XZ trailer. -/
structure MirrorF where
  last : Bool
  seq : Nat
  round : Nat
  level : Nat
  payload : Bytes
  trailerOk : Bool
  deriving DecidableEq, Repr

/-- A time word (Table 15.5) as received, with the instants the follower needs (R385): `t1` its own word's transmit
time, `t2` that word's arrival at the far end, `t3` the far end's transmit time, `t4` arrival here; ns. -/
structure TimeW where
  seq : Nat
  state : Nat
  depth : Nat
  t1 : Int
  t2 : Int
  t3 : Int
  t4 : Int
  /-- The word's CRC-32C agrees. -/
  crcOk : Bool
  deriving DecidableEq, Repr

/-- One slot-map delta of a repair (Table 2.21). -/
structure SlotDelta where
  node : Nat
  port : Nat
  slot : Nat
  entry : Nat
  deriving DecidableEq, Repr

/-- One flow delta of a repair (Table 2.21). -/
structure FlowDelta where
  node : Nat
  remove : Bool
  entry : Nat
  deriving DecidableEq, Repr

/-- The assignment that the matching array found (R137): what it moves, and which cupolas it serves. -/
structure Assignment where
  l2p : List Nat
  slots : List SlotDelta
  flows : List FlowDelta
  serves : List Nat
  rowCut : Option Nat
  deriving DecidableEq, Repr

/-- The outcome of a bring-up stage as the hardware measured it (Table 17.2). -/
structure StageResult where
  ok : Bool
  ms : Nat
  /-- Units that failed in the stage (SRAM bank groups, GF lanes, packages or ports, by stage). -/
  failed : List Nat
  deriving DecidableEq, Repr

/-- The commands and events of the block, in the order of spec/opcode_table.json. -/
inductive Instr where
  -- Register access and the Spire Control Protocol
  | registerWrite (sess : Nat) (addr : Nat) (value : Word)
  | scpRead (h : ScpHdr)
  | scpWrite (h : ScpHdr) (words : List Word)
  | mbxPost (h : ScpHdr) (payload : List Word)
  | mbxFetch (h : ScpHdr)
  | planSegment (h : ScpHdr) (payload : Bytes)
  | graphSubmit (h : ScpHdr) (payload : Bytes)
  | ringFetch (h : ScpHdr)
  | telemSubscribe (h : ScpHdr) (payload : Bytes)
  | attest (h : ScpHdr) (nonce : Bytes)
  | graphIds (h : ScpHdr)
  /-- `reason` 0: UDP checksum; 1: zero UDP checksum over IPv4; 2: malformed header (R267). -/
  | scpDatagramDiscard (reason : Nat)
  | sessionExpiry (sess : Nat)
  | retryCacheExpiry (sess : Nat) (tag : Nat)
  | subscriptionLeaseExpiry (slot : Nat)
  | admissionHello (h : ScpHdr) (payload : Bytes)
  | admissionFetch (h : ScpHdr)
  | admissionFinish (h : ScpHdr) (fragment : Bytes)
  | admissionTimeout (sess : Nat)
  -- Plan
  | loadBegin
  | verify
  | verifyComplete
  | activate
  | abort
  | discard
  -- Power, pace and internal repair
  /-- The handshakes that each engine's pace monitor counted in the window, engine codes 1 to 5 in order. -/
  | paceWindow (counts : List Nat)
  | junctionTemperatureThreshold (deciC : Nat)
  | paceDeficit (engine : Nat)
  | fallbackApply (engine : Nat)
  | bankGroupMigrate (physical : Nat)
  | gfLaneRetire (physical : Nat)
  /-- `region` 0 FOLD, 1 GRAPH, 2 SENTINEL, 3 BELFRY_STAGE, 4 plan store or steward region; the items whose buffers or
  descriptors lay on the lost lines: group IDs for FOLD, resident indices for GRAPH, group IDs for SENTINEL. -/
  | sramUncorrectable (physical : Nat) (region : Nat) (owners : List Nat)
  | packageFailure (package : Nat)
  -- Slots, beacons and discovery
  | slotStart (node : Nat) (port : Nat) (slot : Nat)
  | beaconReceive (node : Nat) (port : Nat) (b : Beacon)
  | identityUnknown (node : Nat) (port : Nat)
  | neighbourSilent (node : Nat) (port : Nat)
  | probe (node : Nat) (ingress : Nat) (route : List Nat)
  | probeReply (route : List Nat) (b : Beacon) (ports : List PortRec)
  | probeTimeout (route : List Nat)
  | settleEnd
  | walkComplete
  | matchingComplete
  | bindingResolveComplete (a : Assignment)
  | rescan
  | portTrained (node : Nat) (port : Nat)
  | portLossOfLock (node : Nat) (port : Nat)
  -- Frames and items at an agent
  | frameArrive (node : Nat) (ingress : Nat) (f : DataFrame)
  | itemInject (node : Nat) (flow : Nat) (cupola : Nat) (tag : Nat) (window : Nat) (payload : Bytes)
  | itemWindowExpiry (node : Nat) (tag : Nat)
  | deliveryReceipt (node : Nat) (flow : Nat) (tag : Nat)
  | receiptTimeout (node : Nat) (tag : Nat)
  | drainBoundExpiry (node : Nat) (flow : Nat)
  | quiesceFlow
  | resumeFlow
  | quiesceDrained
  | fenceNode
  | retryHeld
  -- Installs
  | manifest (node : Nat) (m : ManifestP)
  | tableSegment (node : Nat) (seg : Segment)
  | receipt (r : Receipt)
  | installCollectionEnd
  | retransmissionPassEnd
  | commitPoint
  | installReportDeadline
  | activateFrame (node : Nat) (a : ActivateP)
  | activateDiscard (node : Nat) (a : ActivateP)
  | bankSwitch (node : Nat)
  | installActivation
  | completionInstallStart
  | singleAgentInstallStart (node : Nat)
  -- Cupolas
  | carve (cupola : Nat) (job : Nat)
  | carveStart (cupola : Nat)
  | carveWaitExpiry (cupola : Nat)
  | carveFilterWrite (cupola : Nat)
  | carveRewrite (cupola : Nat)
  /-- `refused`: the agent answered the write with an error (no free entry, R400; key-slot write not authenticated, R334). -/
  | filterConfirm (cupola : Nat) (node : Nat) (refused : Bool)
  | carveConfirmDeadline (cupola : Nat)
  | carveRound (cupola : Nat)
  | filterActivation (node : Nat)
  | retire (cupola : Nat) (job : Nat)
  | retireAdmissionStop (cupola : Nat)
  | retireDrainEnd (cupola : Nat)
  | retireRound (cupola : Nat)
  | retireVacant (cupola : Nat)
  | retryRepair
  -- Failures and repair
  | heartbeatReceive (hb : Heartbeat)
  | faultNotice (n : Notice)
  | failureDetection
  | failureClassification
  | failureBroadcast (node : Nat) (b : FailBcast)
  | installTreeRebuild
  | deferredClassification
  | repairSelect
  | repairInstallStart
  /-- `a` is the matching array's result, `none` where no conflict-free assignment exists; `us` its duration. -/
  | resolveComplete (a : Option Assignment) (us : Nat)
  | resetCompute (logical : Nat)
  | resetFull (logical : Nat)
  | resetGrant
  | repCancelReset
  | failNode (logical : Nat)
  -- The guardian
  | delta (it : GItem)
  | gend (it : GItem)
  | sample (it : GItem)
  | shard (it : GItem)
  | undo (it : GItem)
  | regionWritten (group : Nat) (region : Nat)
  | lentAck (group : Nat) (lane : Nat) (region : Nat)
  | lendingInAccumulation (spire : Nat) (group : Nat) (lane : Nat) (region : Nat) (acc : Bytes)
  | lentBlockRequest (spire : Nat) (group : Nat) (lane : Nat) (region : Nat)
  | laneLossReport (spire : Nat) (group : Nat) (lane : Nat)
  | directFoldSwitch
  | foldedReport (spire : Nat) (job : Nat) (step : Nat) (groups : List Nat) (hold : Bool)
  | sealRecord (job : Nat) (step : Nat)
  | sealAck (node : Nat) (step : Nat)
  | rollbackDone (node : Nat) (step : Nat)
  | guardianWordRepost
  | ackTimeout (group : Nat) (member : Nat) (type : Nat)
  | rollbackFoldStart (group : Nat)
  | disableGroup (group : Nat)
  | disableGroupSettle (group : Nat)
  | enableGroup (group : Nat)
  | releaseSeal
  | rollbackJob
  -- Graphs and services
  | taskStart (index : Nat)
  | notifyRetry (index : Nat)
  | windowClose (index : Nat)
  | taskEnd (index : Nat)
  | cancelTask
  | cancelGraph
  | disableExport
  | enableExport
  | disableImport
  | enableImport
  | functionAdmissionStop (function : Nat) (index : Nat)
  | functionDrainEnd (function : Nat) (index : Nat)
  | functionDisabled (function : Nat) (index : Nat)
  | graphRingTailWrite (value : Word)
  | scalarContribution (c : ScalarC)
  | scalarAccumulator (a : ScalarAcc)
  | scalarResult (tag : Nat) (values : List Nat) (flags : Nat)
  | forwardedRecord (record : Bytes)
  | roceAck (qp : Nat) (psn : Nat)
  | roceNak (qp : Nat) (psn : Nat)
  | roceRnrNak (qp : Nat) (psn : Nat)
  | roceRemoteAccessNak (qp : Nat) (psn : Nat)
  | roceAckTimeout (qp : Nat)
  | roceReadResponse (qp : Nat) (psn : Nat) (data : Bytes)
  | roceRequestDiscard
  | congestionNotification (qp : Nat)
  | ecnRateIncrease (qp : Nat)
  | ethQpWordWrite (word : Nat) (value : Word)
  | statsWaitEnd (group : Nat)
  | clearSuspect
  -- Check channels
  | attach (channel : Nat)
  | suspend (channel : Nat)
  | chkResume (channel : Nat)
  | detach (channel : Nat)
  | chkDisable (channel : Nat)
  | chkEnable (channel : Nat)
  | chkValueWrite (bytesReg : Bool) (channel : Nat) (value : Word)
  /-- A unit of the channel's stream ends: its data, the check value it carries, whether a parity lane outside L
  confirms the data as received (R261, order 1) and, for a resent unit, that it is one. -/
  | checkUnit (channel : Nat) (data : Bytes) (carried : Nat) (parity : Option Bool) (resent : Bool) (noSource : Bool)
  -- Mailboxes
  | hostWordTake (index : Nat)
  | mbxHinWrite (index : Nat) (value : Word)
  | mbxHoutTake (mask : Word)
  | agentMailboxPoll
  | mailboxStall (party : Nat) (node : Nat) (index : Nat)
  -- Twin
  | hello (level : Nat) (letter : Nat) (pairState : Nat) (claimEpoch : Nat)
  | syncReq
  | syncDone (round : Nat)
  | mismatch (round : Nat)
  | selftestRun (pass : Bool)
  | selftest (pass : Bool) (round : Nat)
  | mismatchOutcome
  | switchReq (drill : Bool) (hard : Bool)
  | switchAck (round : Nat)
  | switchRefuse (reason : Nat)
  | mirrorNak (seq : Nat)
  | handoverDone (regions : Nat)
  | powerLoss
  | feed (a : Nat) (b : Nat)
  | twinEnrol (slot : Nat)
  | mirrorInput (f : MirrorF)
  | endOfRound (f : MirrorF) (digest : Word)
  | snapshot (f : MirrorF) (imagesVerified : Bool) (agrees : Bool)
  | checkpoint (f : MirrorF) (channel : Nat) (value : Word) (bytes : Word)
  | parity (f : MirrorF) (group : Nat) (lane : Nat) (region : Nat)
  | mirrorRecord (f : MirrorF)
  | activeSilence (round : Nat)
  | claim (node : Nat) (port : Nat) (c : ClaimF)
  | grant (node : Nat) (g : ClaimF)
  | release (node : Nat) (port : Nat) (r : ClaimF)
  | claimRetry
  | takeoverAct
  | startingTimeout
  | switch
  | drill (hard : Bool)
  | resync
  | twinCancel
  | clearCapture
  | autoReturn
  | switchRound
  | switchRoundTimeout
  | drillReturn
  | feedStateChange (feed : Nat) (mv : Nat)
  | powerFail
  | feedCurrentLimit (ma : Nat)
  -- Lantern
  | timeWordSend (node : Option Nat) (port : Nat)
  | timeWord (node : Option Nat) (port : Nat) (w : TimeW)
  | holdoverEntry
  | holdoverLimit
  | referenceStart (floors : List Nat)
  | floorWrite
  | ppsInEdge (ns : Nat)
  | ppsInLost
  | setTod (mode : Nat) (session : Nat)
  | stopSlew (session : Nat)
  | slewComplete
  | lantNowNsRead (ns : Nat) (frac : Nat)
  | ptpSync
  | ptpAnnounce
  | ptpDelayReq (supported : Bool)
  -- Belfry
  | belfryEvent (source : Nat) (instance_ : Nat) (value : Int)
  | cellClose (source : Nat) (instance_ : Nat)
  | flush
  | recordFlashWrite (ok : Bool)
  | freeze
  | thaw
  | autoThaw
  | mergeDone
  | belfrySentinelEngage (cause : Nat)
  | belfSentRead (index : Nat)
  | belfAlarmClear (source : Nat) (value : Word)
  | belfReadSelWrite (value : Word)
  | belfReadWordAdvance
  | repeatBoundary
  | tracePeriod
  | telemetrySend (sub : Nat) (cls : Nat)
  | telemetryShed (sub : Nat) (cls : Nat)
  | agentFrameShed (node : Nat) (cls : Nat)
  | agentShedRead
  | operatingTimeWrite
  -- Keystone
  | enrol
  | removeTenant
  | removeForce
  | keyReq (operation : Nat) (index : Nat)
  | keyDone (index : Nat)
  | keyFail (reason : Nat) (index : Nat)
  | rekeyDue (node : Nat) (port : Nat) (direction : Nat) (epoch : Nat)
  | entropyFail
  | keyRotationLoad (job : Nat)
  | keyRotationCheck (job : Nat)
  | removalAdmissionStop
  | removalDrainEnd
  | removalKeyErase
  | forcedRekeyConfirm (node : Nat) (port : Nat)
  | peerForceRekeyRequest (spire : Nat) (node : Nat) (port : Nat)
  | keyRetireTimeout (node : Nat)
  | ringWaitEnd
  | scrubComplete
  | removalDone
  | debugAccess
  | keySlotWrite (node : Nat) (word : Word)
  | keyPromote (node : Nat) (slot : Nat)
  | hopRekey (node : Nat) (port : Nat)
  | forceRekey (node : Nat) (port : Nat)
  | lateMemoryExpiry (node : Nat) (cupola : Nat)
  -- Agent domains and registers
  | linkDomainWatchdog (node : Nat)
  | linkDomainReset (node : Nat) (kind : Nat)
  | computeFatal (node : Nat)
  | computeInReset (node : Nat) (afterFatal : Bool)
  | computeUp (node : Nat) (usable : Nat) (designed : Nat)
  | grantComputeReset (node : Nat)
  | grantFullReset (node : Nat)
  | agQuiesceFlow (node : Nat) (flow : Nat)
  | agResumeFlow (node : Nat) (flow : Nat)
  | agFilterWrite (node : Nat) (index : Nat) (value : Word)
  | agMbxInWrite (node : Nat) (index : Nat) (value : Word)
  | agMbxOutTake (node : Nat) (mask : Nat)
  | agEpochWrite (node : Nat) (value : Word)
  | agTreeWrite (node : Nat) (value : Word)
  | agAllowWrite (node : Nat) (value : Word)
  | agCfgCoarse (node : Nat) (value : Word)
  | agTblWordAdvance (node : Nat)
  | elementPost (node : Nat) (index : Nat) (value : Word)
  | elementTake (node : Nat) (index : Nat)
  -- Bring-up, resets, update
  | standbyRailUp (slotId : Nat) (letter : Nat)
  | strapChange
  | enableAssert
  | enableDeassert
  | bringupStageComplete (r : StageResult)
  | serviceReset (force : Bool)
  | fullReset (force : Bool) (fullTest : Bool)
  | cancelReset
  | quietRoundFound
  | resetWaitExpiry
  | stewardWatchdog
  | serviceRestore
  | fwVerify
  | fwApply
  | fwAbandon
  | fwCommit
  | licInstall
  | pwrStageDataWrite (index : Nat) (value : Word)
  | pwrStageSelWrite (value : Word)
  | memRetrain (channel : Nat) (ok : Bool)
  | memPeriodicRetrain (channel : Nat) (ok : Bool)
  | portRetrain (port : Nat) (force : Bool)
  | portDisable (port : Nat)
  | portEnable (port : Nat)
  | portAutoRetrain (port : Nat) (ok : Bool)
  | junctionTrip (deciC : Nat)
  | ethCfgWrite (value : Word)
  | ethLinkChange (up : Bool)
  | osfpModuleEvent (inserted : Bool) (watts : Nat)
  | twinCapWordAdvance
  | i3cEntdaa (address : Nat)
  | i3cPrivateWrite (index : Nat)
  | i3cPrivateRead
  | remoteAccessReply (sess : Nat) (tag : Nat) (status : Nat) (words : List Word)
  | remoteAccessTimeout (sess : Nat) (tag : Nat)
  | flapHoldClear
  | agPortDarkWrite (node : Nat) (port : Nat) (dark : Bool)
  | railFault (rail : Nat) (mv : Nat)
  | partnerLost
  | partnerResetNotice (kind : Nat) (epoch : Nat)
  | roundClose
  | mkaSecured
  | neighbourDiscoveryRequest (spireAddress : Bool)
  | pfcFrame (pause : Nat)
  | memberLossReport (spire : Nat) (job : Nat) (step : Nat)
  | jobRollbackOrder (job : Nat) (step : Nat)
  | installPeerReport (spire : Nat) (prepared : Bool) (stragglers : Nat) (held : List Nat)
  deriving DecidableEq, Repr

end Sys2Proof
end

