-- ==== Sys2Proof/Decode.lean ====
section
/-! DEFINITION. The table of commands gives no row any bits (each row lists no fields), so no word spells a command. -/
namespace Sys2Proof

/-- The command that a word of `nbits` bits spells by the bits of the opcode table: no row has bits, so none. -/
def decodeTableWord (_nbits _w : Nat) : Option Instr := none

end Sys2Proof
end

