-- ==== Sys2Proof/Machine/Codec.lean ====
section
/-! DEFINITION. Bytes and check values: little-endian fields (R6), the three polynomials of Table 9.1 with their running
values (R250, R251), as structural recursions that the kernel evaluates. -/
namespace Sys2Proof.Machine

/-- `n` bytes of a number, little-endian (R6). -/
def leBytes : Nat → Nat → Bytes
  | 0, _ => []
  | n + 1, v => BitVec.ofNat 8 v :: leBytes n (v / 256)

/-- The number that bytes spell, little-endian (R6). -/
def leNat : Bytes → Nat
  | [] => 0
  | b :: bs => b.toNat + 256 * leNat bs

/-- The little-endian number of `n` bytes at an offset; bytes beyond the end read as zero. -/
def field (bs : Bytes) (off n : Nat) : Nat := leNat ((bs.drop off).take n)

/-- Zero bytes. -/
def zeros (n : Nat) : Bytes := List.replicate n 0

/-- The bytes zero-filled or cut to a length. -/
def fit (n : Nat) (bs : Bytes) : Bytes := (bs ++ zeros (n - bs.length)).take n

/-- Bytes XOR bytes; the shorter is continued with zeros. -/
def xorBytes : Bytes → Bytes → Bytes
  | [], bs => bs
  | as, [] => as
  | a :: as, b :: bs => (a ^^^ b) :: xorBytes as bs

/-- One of the three polynomials of a channel (Table 9.1). -/
structure Poly where
  width : Nat
  /-- The polynomial, bit-reversed where input and output are reflected. -/
  poly : Nat
  reflected : Bool
  init : Nat
  final : Nat
  deriving DecidableEq, Repr

/-- CRC-32C (Table 9.1, POLY 0); 0x82F63B78 is 0x1EDC6F41 reversed. -/
def Poly.crc32c : Poly := ⟨32, 0x82F63B78, true, 0xFFFFFFFF, 0xFFFFFFFF⟩
/-- CRC-64/XZ (Table 9.1, POLY 1); 0xC96C5795D7870F42 is 0x42F0E1EBA9EA3693 reversed. -/
def Poly.crc64xz : Poly := ⟨64, 0xC96C5795D7870F42, true, 0xFFFFFFFFFFFFFFFF, 0xFFFFFFFFFFFFFFFF⟩
/-- CRC-16/T10-DIF (Table 9.1, POLY 2). -/
def Poly.crc16 : Poly := ⟨16, 0x8BB7, false, 0, 0⟩

/-- The polynomial that CHK_CFG.POLY selects. -/
def Poly.ofCode (c : Nat) : Poly := if c = 0 then .crc32c else if c = 1 then .crc64xz else .crc16

/-- One bit step of a reflected register, and of an unreflected one. -/
def Poly.step (p : Poly) (r : Nat) : Nat :=
  if p.reflected then
    if r % 2 = 1 then Nat.xor (r / 2) p.poly else r / 2
  else
    if r / 2 ^ (p.width - 1) % 2 = 1 then Nat.xor (2 * r % 2 ^ p.width) p.poly else 2 * r % 2 ^ p.width

/-- `n` bit steps. -/
def Poly.steps (p : Poly) : Nat → Nat → Nat
  | 0, r => r
  | n + 1, r => Poly.steps p n (p.step r)

/-- The running value after one more byte (R251). -/
def Poly.byte (p : Poly) (r : Nat) (b : Byte) : Nat :=
  p.steps 8 (if p.reflected then Nat.xor r b.toNat else Nat.xor r (b.toNat * 2 ^ (p.width - 8)))

/-- The running value after more bytes (R251). -/
def Poly.run (p : Poly) (r : Nat) (bs : Bytes) : Nat := bs.foldl p.byte r

/-- The check value of a unit from its running value (R251). -/
def Poly.finish (p : Poly) (r : Nat) : Nat := Nat.xor r p.final

/-- The check value of bytes as one unit. -/
def Poly.check (p : Poly) (bs : Bytes) : Nat := p.finish (p.run p.init bs)

/-- CRC-32C of bytes. -/
def crc32c (bs : Bytes) : Nat := Poly.crc32c.check bs

/-- CRC-64/XZ of bytes. -/
def crc64 (bs : Bytes) : Nat := Poly.crc64xz.check bs

/-- ⌈a / b⌉. -/
def ceilDiv (a b : Nat) : Nat := (a + b - 1) / b

/-- A number saturating at a width. -/
def sat (bits v : Nat) : Nat := min v (2 ^ bits - 1)

/-- A signed number as a two's-complement field of `bits` bits. -/
def toField (bits : Nat) (v : Int) : Nat := (v % (2 ^ bits : Nat)).toNat

/-- A two's-complement field of `bits` bits as a signed number. -/
def ofField (bits v : Nat) : Int := if v < 2 ^ (bits - 1) then (v : Int) else (v : Int) - (2 ^ bits : Nat)

/-- Replace the elements that satisfy `p`. -/
def updWhere {α : Type} (p : α → Bool) (f : α → α) (l : List α) : List α := l.map (fun x => if p x then f x else x)

/-- An element once, at the end. -/
def addOnce {α : Type} [BEq α] (x : α) (l : List α) : List α := if l.contains x then l else l ++ [x]

/-- The union of two lists without repeats. -/
def unionL {α : Type} [BEq α] (a b : List α) : List α := b.foldl (fun acc x => addOnce x acc) a

/-- The value of a key in an association list. -/
def lookupD (l : List (Nat × Nat)) (k d : Nat) : Nat :=
  match l.find? (fun e => e.1 == k) with
  | some e => e.2
  | none => d

/-- An association list with a key set. -/
def setKey {α : Type} (l : List (Nat × α)) (k : Nat) (v : α) : List (Nat × α) := (l.filter (fun e => e.1 != k)) ++ [(k, v)]

end Sys2Proof.Machine
end

