-- ==== Sys2Proof/Config.lean ====
section
/-! DEFINITION. What one module fixes: the values its fuses, pins, flash and boot image give it, and the free values the
spec leaves open. A constant with a body is a DESIGN CHOICE of this model (notes/assumptions/1.md); an opaque constant
has no value that a proof could use. -/
namespace Sys2Proof.Config

/-- IDENT_ID: the fused element ID of the module (DESIGN CHOICE, log entry 1). -/
def elementId : Nat := 0x4810_0000_0000_0000_0000_0000_0000_0001
/-- A word of the element ID, low word first. -/
def elementWord (i : Nat) : Nat := elementId / 2 ^ (64 * i) % 2 ^ 64
/-- MODULE_LETTER pin: 0 for module A. -/
def letter : Nat := 0
/-- SLOT_ID pins. -/
def slotId : Nat := 0
/-- Fused installation ID. -/
def installation : Nat := 1
/-- ETH_ADDR word 11: the MAC address that is derived from the element ID; its low 48 bits here. -/
def macAddress : Nat := elementId % 2 ^ 48
/-- The spire number at the first start (R458). -/
def spire : Nat := 0
/-- No spire number has been written at the first start (R458, IDENT_SITE.SPIRE_SET). -/
def spireSet : Nat := 0
/-- The licence installed at manufacture: code 3 is the ordering code X (Table 17.7). -/
def licCode : Nat := 3
/-- Every feature bit of IDENT_LIC. -/
def licFeatures : Nat := 0x3F
def licAgents : Nat := 384
def licPorts : Nat := 48
def pairFeatures : Nat := 0x3F
def licSequence : Nat := 1
/-- Licences in flash (PWR_LIC_STATUS.COUNT). -/
def licCount : Nat := 1
def fwSlot : Nat := 0
def fwCommitted : Nat := 1
def fwOtherValid : Nat := 0
def fwSecurity : Nat := 1
def fwVersion : Nat := 1
/-- The Varlor epoch counter after the first standby-rail rise (R283). -/
def mbxEpoch : Nat := 1
/-- The fabric-time floor in flash (R291). -/
def lantFloor : Nat := 0
/-- Operating time (R308). -/
def opTime : Nat := 0
/-- Power cycles, the first start counted (R308). -/
def powerCycles : Nat := 1
/-- Belfry slots used. -/
def belfUsed : Nat := 0
/-- KEY_TENANT.EPOCH in flash. -/
def tenantEpoch : Nat := 0
/-- The memory generation, the first start counted (R341). -/
def memGeneration : Nat := 1
/-- Enrolment slots: none enrolled in a module that has had no enrolment. -/
def slotKind (_ : Nat) : Nat := 0
def slotTenant (_ : Nat) : Nat := 0
def slotSequence (_ : Nat) : Nat := 0
def slotDigest (_ : Nat) : Nat := 0
/-- The fused element ID of the agent of a local node, by word (DESIGN CHOICE). -/
def agentId (node i : Nat) : Nat := if i = 0 then node + 1 else 0x9000_0000_0000_0000
/-- AG_IDENT.KIND, fused: 1 accelerator, 2 switch, by the numbering of the reference plan (R23): local nodes 0 to 271 are
accelerators, and those above them cross-connects and edge switches. -/
def agentKind (node : Nat) : Nat := if node < 272 then 1 else 2
/-- AG_IDENT.PORTS, fused: an edge switch uses 16 ports, an accelerator at least five (Table 1.2). -/
def agentPorts (node : Nat) : Nat := if node < 272 then 8 else 16
def agentRelayKib : Nat := 1024
def agentImplementer : Nat := 0
/-- BELF_ETH_BUDGET reset rates, alarm, export and trace in order (Table of chapter 12). -/
def ethBudget (i : Nat) : Nat := if i = 0 then 256000 else if i = 1 then 100000000 else 4000000

-- Free values: nothing in this model knows what they are

/-- A value that the spec leaves open, by the number of the draw (State.free counts the draws; log entry 2). -/
opaque freeValue : Nat → Nat

/-- SLH-DSA-SHAKE-256s verification of a signature by a public key over bytes: the spec names the algorithm and does not
give it, so its outcome is open (log entry 3). -/
opaque signatureOk : List Byte → List Byte → List Byte → Bool

/-- The payload of a NaN that the block forms in a format (by its mantissa width): the spec says that the result is NaN
and not which one (log entry 4). -/
opaque nanPayload : Nat → Nat

/-- |log2(a / b)| of two fp64 patterns as an fp64 pattern: the spec does not say how the logarithm is rounded (R243, log
entry 4). Zero terms are not given to it. -/
opaque log2Ratio : Nat → Nat → Nat

/-- The square root of an fp64 pattern: the spec does not say how it is rounded (R241, log entry 4). -/
opaque sqrt64 : Nat → Nat

/-- AES-256-GCM decryption of a chunk under the binding key of a package (R221, R342), `none` where its tag fails: the
spec names the cipher and does not give it (log entry 5). -/
opaque chunkPlain : List Byte → List Byte → Option (List Byte)

/-- The handshakes that an engine's pace monitor is to count in one 16 µs window when it has work, from its engine code and
the declared rate (R31): the spec does not say how many handshakes a rate makes (log entry 2). -/
opaque paceTarget : Nat → Nat → Nat

/-- A control decision (kind, target logical node, sequence, value) as the digest of R364 covers it: the spec names what is
covered and its order, and gives no bytes (log entry 7). -/
opaque decisionBytes : Nat → Nat → Nat → Nat → List Byte

-- What the keystone holds and the spec does not give (R328 to R345, log entry 6)

/-- The installation secret fuse (R328, Table 13.1). -/
opaque installationSecret : List Byte

/-- The vendor root and licence key digest fuses (Tables 13.1 and 17.6, R434). -/
opaque vendorRootDigest : List Byte
opaque licenceKeyDigest : List Byte

/-- The device public key (R343). -/
opaque deviceKey : List Byte

/-- SHAKE256 of the firmware image of the shipment, by slot (Table 13.5). -/
opaque firmwareMeasure : Nat → List Byte

/-- The licence installed at manufacture, as bytes (Table 13.5). -/
opaque licenceBytes : List Byte

/-- The keystone measurement from the enrolment table and the flags byte: the ROM version and the public fuse digests are
the module's own (Table 13.5). -/
opaque keystoneMeasure : List Byte → Nat → List Byte

/-- The device key's signature over the body of a report, and the vendor root key's over the body of the device certificate
(R343). -/
opaque deviceSignature : List Byte → List Byte
opaque vendorSignature : List Byte → List Byte

/-- ML-KEM-1024 encapsulation to a host's key with the randomness of a draw (R345): the ciphertext and the shared
secret. -/
opaque kemCiphertext : List Byte → Nat → List Byte
opaque kemSecret : List Byte → Nat → List Byte

end Sys2Proof.Config
end

