-- ==== Sys2Proof/Machine/Sources.lean ====
section
/-! DEFINITION. Belfry sources (R306, R309): the source code of an event is block index × 32 + event bit; the reset
severity and alarm enable of each source are those that the owning chapter gives the event, and 3 and 0 otherwise. -/
namespace Sys2Proof.Machine.Source

/-- R306: the source code of bit `bit` of the EVENT register of block `block` (18 for agents). -/
def code (block bit : Nat) : Nat := block * 32 + bit

/-- The sources whose owning rule gives a severity or an alarm: (source, severity, alarm enable). -/
def table : List (Nat × Nat × Nat) :=
  [(code 2 4, 6, 1),     -- DISC DUPLICATE_ID, R80
   (code 4 4, 7, 1),     -- CUP JOB_HELD, R145
   (code 4 7, 6, 0),     -- CUP ISOLATION, Table 5.5
   (code 6 3, 5, 1),     -- GRD EXPOSED, R182
   (code 6 9, 3, 1),     -- GRD DIRECT_FOLD, R164
   (code 10 0, 4, 1),    -- MBX STALL, R282
   (code 11 2, 3, 1),    -- LANT FREE, R299
   (code 11 3, 3, 1),    -- LANT TIME_CONFLICT, R298
   (code 12 4, 7, 1),    -- BELF SENTINEL, R318
   (code 13 8, 6, 1),    -- KEY ENTROPY_FAIL, R330
   (code 14 3, 6, 1),    -- TWIN UNATTRIBUTED, Table 14.6
   (code 14 4, 7, 1),    -- TWIN SELFTEST_FAIL, Table 14.6
   (code 14 7, 3, 1),    -- TWIN LEVEL_MISMATCH, R44
   (code 14 13, 4, 1),   -- TWIN FEED_CHANGE, R375
   (code 15 0, 4, 1)]    -- PWR DEFICIT, R36

/-- The reset severity of a source (R309). -/
def severity (src : Nat) : Nat :=
  match table.find? (fun e => e.1 == src) with
  | some (_, sev, _) => sev
  | none => 3

/-- The reset alarm enable of a source (R309). -/
def alarm (src : Nat) : Nat :=
  match table.find? (fun e => e.1 == src) with
  | some (_, _, al) => al
  | none => 0

end Sys2Proof.Machine.Source
end

