-- ==== Sys2Proof/Machine/Regs.lean ====
section
/-! DEFINITION. The architectural registers: every register of the tables of spec/01 to spec/18 is a constructor of
`Reg`, with its base address (Table 1.9, R12, R45), its array extent, the access masks of its fields (R13) and its reset
word, and every field is a constant of type `Fld` named after the register and the field. Agent registers (AG_) carry
their offset in the agent's window (R46). All array strides are 8 bytes. -/
namespace Sys2Proof.Machine

/-- The registers, under the manual's own names. -/
inductive Reg where
  | PLAN_CTRL
  | PLAN_STATUS
  | PLAN_LOAD_LEN
  | PLAN_ACT_ROUND
  | PLAN_EARLIEST
  | PLAN_EPOCH
  | PLAN_ERR
  | PLAN_ERR_OFFSET
  | PLAN_DEFICIT
  | PLAN_SRAM_DEFICIT
  | PLAN_MODE_EVAL
  | PLAN_CAPACITY
  | PLAN_DIGEST
  | PLAN_RATE_EXCESS
  | DISC_CTRL
  | DISC_CFG
  | DISC_STATUS
  | DISC_SUMMARY
  | DISC_VIABLE
  | DISC_EVENT
  | DISC_NODE
  | DISC_CENSUS
  | DISC_NODE_ID
  | DISC_EXTRA
  | DISC_ANOM
  | BELL_CTRL
  | BELL_ARG
  | BELL_CFG
  | BELL_STATUS
  | BELL_ROUND
  | BELL_ROUND_BASE
  | BELL_ACT_ROUND
  | BELL_EST
  | BELL_EVENT
  | BELL_QUIESCE
  | BELL_COUNT
  | BELL_HELD
  | BELL_AGENT
  | CUP_CTRL
  | CUP_NONCE
  | CUP_STATUS
  | CUP_EVENT
  | CUP_ERR
  | CUP_ENTRY
  | CUP_JOB
  | REP_CTRL
  | REP_CFG
  | REP_STATUS
  | REP_EST
  | REP_EVENT
  | REP_RESET
  | REP_LOG_HEAD
  | REP_COUNT
  | REP_SPARE
  | REP_LOG
  | GRD_CTRL
  | GRD_ARG
  | GRD_CFG
  | GRD_STATUS
  | GRD_EVENT
  | GRD_FOLD_NEED
  | GRD_FOLD_DIRECT
  | GRD_SPILL
  | GRD_COUNT
  | GRD_GROUP
  | GRD_GROUP_STEP
  | GRD_GROUP_PROG
  | GRAPH_CTRL
  | GRAPH_ARG
  | GRAPH_STATUS
  | GRAPH_RING_CFG
  | GRAPH_RING_HEAD
  | GRAPH_RING_TAIL
  | GRAPH_RING_RESERVED
  | GRAPH_ERR
  | GRAPH_EVENT
  | GRAPH_ECN
  | GRAPH_ECN_RATE
  | GRAPH_TASK_SEL
  | GRAPH_TASK_WORD
  | GRAPH_COUNT
  | SEN_CTRL
  | SEN_ARG
  | SEN_STATUS
  | SEN_EVENT
  | SEN_HOLD
  | SEN_HOLD_STEP
  | SEN_SEL
  | SEN_STAT
  | SEN_SUSPECT
  | SEN_COUNT
  | CHK_CTRL
  | CHK_STATUS
  | CHK_EVENT
  | CHK_COUNT
  | CHK_CFG
  | CHK_STATE
  | CHK_VALUE
  | CHK_BYTES
  | CHK_CKPT_VALUE
  | CHK_CKPT_BYTES
  | MBX_CFG
  | MBX_EPOCH
  | MBX_HOST_EPOCH
  | MBX_HIN_FULL
  | MBX_HOUT_FULL
  | MBX_EVENT
  | MBX_STALL
  | MBX_TWIN
  | MBX_KEY
  | MBX_HIN
  | MBX_HOUT
  | MBX_RELAY
  | MBX_COUNT
  | ETH_CFG
  | ETH_STATUS
  | ETH_EVENT
  | ETH_ADDR
  | ETH_SUB
  | ETH_QP_SEL
  | ETH_QP_WORD
  | ETH_COUNT
  | LANT_CTRL
  | LANT_TOD_ARG
  | LANT_CFG
  | LANT_STATUS
  | LANT_NOW_NS
  | LANT_NOW_FRAC
  | LANT_NOW_TOD
  | LANT_OFFSET
  | LANT_OFFSET_TARGET
  | LANT_UTC
  | LANT_ROUND_BASE_TIME
  | LANT_PARENT
  | LANT_HOLDOVER
  | LANT_FLOOR
  | LANT_EVENT
  | LANT_COUNT
  | BELF_CTRL
  | BELF_CFG
  | BELF_STATUS
  | BELF_STAMP
  | BELF_CYCLE
  | BELF_EVENT
  | BELF_FREEZE
  | BELF_USED
  | BELF_SHARE
  | BELF_ETH_BUDGET
  | BELF_TRACE
  | BELF_READ_SEL
  | BELF_OVERFLOW
  | BELF_SHED
  | BELF_SENT
  | BELF_ALARM
  | BELF_READ_WORD
  | KEY_CTRL
  | KEY_CFG
  | KEY_STATUS
  | KEY_TENANT
  | KEY_EVENT
  | KEY_REMOVE
  | KEY_MEM
  | KEY_SPAN
  | KEY_ENROL_STAGE
  | KEY_SLOT_INFO
  | KEY_SLOT_SEQ
  | KEY_SLOT_DIGEST
  | KEY_COUNT
  | TWIN_CTRL
  | TWIN_CFG
  | TWIN_STATUS
  | TWIN_EVENT
  | TWIN_CMP
  | TWIN_DIGEST
  | TWIN_HANDOVER
  | TWIN_FEED
  | TWIN_CAP_INFO
  | TWIN_CAP_SEL
  | TWIN_COUNT
  | TWIN_CAP_WORD
  | AG_ID
  | AG_IDENT
  | AG_CENSUS
  | AG_NODE
  | AG_STATUS
  | AG_EVENT
  | AG_FAULT
  | AG_CTRL
  | AG_CFG
  | AG_TREE
  | AG_ALLOW
  | AG_EPOCH
  | AG_MBX_FULL
  | AG_MBX_IN
  | AG_MBX_OUT
  | AG_INSTALL
  | AG_ACT_ROUND
  | AG_INSTALL_MAP
  | AG_MANAGER
  | AG_LANT
  | AG_COUNT
  | AG_PORT
  | AG_PORT_CFG
  | AG_PORT_FAR
  | AG_FILTER
  | AG_KEY_WRITE
  | AG_KEY_INFO
  | AG_TBL_SEL
  | AG_TBL_WORD
  | PWR_CTRL
  | PWR_CFG
  | PWR_SITE
  | PWR_STATUS
  | PWR_EVENT
  | PWR_STAGE_MS
  | PWR_RAIL
  | PWR_PACE
  | PWR_STAGE_SEL
  | PWR_FW_STATUS
  | PWR_LIC_STATUS
  | PWR_STAGE_DATA
  | IDENT_ID
  | IDENT_PART
  | IDENT_SITE
  | IDENT_LIC
  | IDENT_FW
  | IDENT_INTERNAL
  | PORT_CTRL
  | PORT_EVENT
  | PORT_STATUS
  deriving DecidableEq, Repr

namespace Reg

/-- The address of the register (of element 0 of an array), R12. -/
def base : Reg → Nat
  | .PLAN_CTRL => 0x100000
  | .PLAN_STATUS => 0x100008
  | .PLAN_LOAD_LEN => 0x100010
  | .PLAN_ACT_ROUND => 0x100018
  | .PLAN_EARLIEST => 0x100020
  | .PLAN_EPOCH => 0x100028
  | .PLAN_ERR => 0x100030
  | .PLAN_ERR_OFFSET => 0x100038
  | .PLAN_DEFICIT => 0x100040
  | .PLAN_SRAM_DEFICIT => 0x100048
  | .PLAN_MODE_EVAL => 0x100050
  | .PLAN_CAPACITY => 0x100070
  | .PLAN_DIGEST => 0x100078
  | .PLAN_RATE_EXCESS => 0x100098
  | .DISC_CTRL => 0x200000
  | .DISC_CFG => 0x200008
  | .DISC_STATUS => 0x200010
  | .DISC_SUMMARY => 0x200018
  | .DISC_VIABLE => 0x200020
  | .DISC_EVENT => 0x200028
  | .DISC_NODE => 0x201000
  | .DISC_CENSUS => 0x203000
  | .DISC_NODE_ID => 0x205000
  | .DISC_EXTRA => 0x209000
  | .DISC_ANOM => 0x20a000
  | .BELL_CTRL => 0x300000
  | .BELL_ARG => 0x300008
  | .BELL_CFG => 0x300010
  | .BELL_STATUS => 0x300018
  | .BELL_ROUND => 0x300020
  | .BELL_ROUND_BASE => 0x300028
  | .BELL_ACT_ROUND => 0x300030
  | .BELL_EST => 0x300038
  | .BELL_EVENT => 0x300040
  | .BELL_QUIESCE => 0x300048
  | .BELL_COUNT => 0x300080
  | .BELL_HELD => 0x300100
  | .BELL_AGENT => 0x301000
  | .CUP_CTRL => 0x400000
  | .CUP_NONCE => 0x400008
  | .CUP_STATUS => 0x400010
  | .CUP_EVENT => 0x400018
  | .CUP_ERR => 0x400020
  | .CUP_ENTRY => 0x401000
  | .CUP_JOB => 0x409000
  | .REP_CTRL => 0x500000
  | .REP_CFG => 0x500008
  | .REP_STATUS => 0x500010
  | .REP_EST => 0x500018
  | .REP_EVENT => 0x500020
  | .REP_RESET => 0x500028
  | .REP_LOG_HEAD => 0x500030
  | .REP_COUNT => 0x500080
  | .REP_SPARE => 0x500100
  | .REP_LOG => 0x501000
  | .GRD_CTRL => 0x600000
  | .GRD_ARG => 0x600008
  | .GRD_CFG => 0x600010
  | .GRD_STATUS => 0x600018
  | .GRD_EVENT => 0x600020
  | .GRD_FOLD_NEED => 0x600028
  | .GRD_FOLD_DIRECT => 0x600030
  | .GRD_SPILL => 0x600038
  | .GRD_COUNT => 0x600080
  | .GRD_GROUP => 0x601000
  | .GRD_GROUP_STEP => 0x601800
  | .GRD_GROUP_PROG => 0x602000
  | .GRAPH_CTRL => 0x700000
  | .GRAPH_ARG => 0x700008
  | .GRAPH_STATUS => 0x700010
  | .GRAPH_RING_CFG => 0x700018
  | .GRAPH_RING_HEAD => 0x700020
  | .GRAPH_RING_TAIL => 0x700028
  | .GRAPH_RING_RESERVED => 0x700030
  | .GRAPH_ERR => 0x700038
  | .GRAPH_EVENT => 0x700040
  | .GRAPH_ECN => 0x700048
  | .GRAPH_ECN_RATE => 0x700050
  | .GRAPH_TASK_SEL => 0x700058
  | .GRAPH_TASK_WORD => 0x700080
  | .GRAPH_COUNT => 0x700100
  | .SEN_CTRL => 0x800000
  | .SEN_ARG => 0x800008
  | .SEN_STATUS => 0x800010
  | .SEN_EVENT => 0x800018
  | .SEN_HOLD => 0x800020
  | .SEN_HOLD_STEP => 0x800030
  | .SEN_SEL => 0x800028
  | .SEN_STAT => 0x800100
  | .SEN_SUSPECT => 0x800300
  | .SEN_COUNT => 0x800400
  | .CHK_CTRL => 0x900000
  | .CHK_STATUS => 0x900008
  | .CHK_EVENT => 0x900010
  | .CHK_COUNT => 0x900080
  | .CHK_CFG => 0x901000
  | .CHK_STATE => 0x901400
  | .CHK_VALUE => 0x901800
  | .CHK_BYTES => 0x901c00
  | .CHK_CKPT_VALUE => 0x902000
  | .CHK_CKPT_BYTES => 0x902400
  | .MBX_CFG => 0xa00000
  | .MBX_EPOCH => 0xa00008
  | .MBX_HOST_EPOCH => 0xa00010
  | .MBX_HIN_FULL => 0xa00018
  | .MBX_HOUT_FULL => 0xa00020
  | .MBX_EVENT => 0xa00028
  | .MBX_STALL => 0xa00030
  | .MBX_TWIN => 0xa00038
  | .MBX_KEY => 0xa00040
  | .MBX_HIN => 0xa00100
  | .MBX_HOUT => 0xa00200
  | .MBX_RELAY => 0xa00300
  | .MBX_COUNT => 0xa00400
  | .ETH_CFG => 0x1000000
  | .ETH_STATUS => 0x1000008
  | .ETH_EVENT => 0x1000010
  | .ETH_ADDR => 0x1000040
  | .ETH_SUB => 0x1000100
  | .ETH_QP_SEL => 0x1000200
  | .ETH_QP_WORD => 0x1000208
  | .ETH_COUNT => 0x1000300
  | .LANT_CTRL => 0xb00000
  | .LANT_TOD_ARG => 0xb00008
  | .LANT_CFG => 0xb00010
  | .LANT_STATUS => 0xb00018
  | .LANT_NOW_NS => 0xb00020
  | .LANT_NOW_FRAC => 0xb00028
  | .LANT_NOW_TOD => 0xb00030
  | .LANT_OFFSET => 0xb00038
  | .LANT_OFFSET_TARGET => 0xb00040
  | .LANT_UTC => 0xb00048
  | .LANT_ROUND_BASE_TIME => 0xb00050
  | .LANT_PARENT => 0xb00058
  | .LANT_HOLDOVER => 0xb00060
  | .LANT_FLOOR => 0xb00068
  | .LANT_EVENT => 0xb00070
  | .LANT_COUNT => 0xb00080
  | .BELF_CTRL => 0xc00000
  | .BELF_CFG => 0xc00008
  | .BELF_STATUS => 0xc00010
  | .BELF_STAMP => 0xc00018
  | .BELF_CYCLE => 0xc00020
  | .BELF_EVENT => 0xc00028
  | .BELF_FREEZE => 0xc00030
  | .BELF_USED => 0xc00038
  | .BELF_SHARE => 0xc00040
  | .BELF_ETH_BUDGET => 0xc00048
  | .BELF_TRACE => 0xc00060
  | .BELF_READ_SEL => 0xc00068
  | .BELF_OVERFLOW => 0xc00080
  | .BELF_SHED => 0xc000c0
  | .BELF_SENT => 0xc00200
  | .BELF_ALARM => 0xc01000
  | .BELF_READ_WORD => 0xc08000
  | .KEY_CTRL => 0xd00000
  | .KEY_CFG => 0xd00008
  | .KEY_STATUS => 0xd00010
  | .KEY_TENANT => 0xd00018
  | .KEY_EVENT => 0xd00020
  | .KEY_REMOVE => 0xd00028
  | .KEY_MEM => 0xd00030
  | .KEY_SPAN => 0xd00038
  | .KEY_ENROL_STAGE => 0xd00100
  | .KEY_SLOT_INFO => 0xd00200
  | .KEY_SLOT_SEQ => 0xd00240
  | .KEY_SLOT_DIGEST => 0xd00280
  | .KEY_COUNT => 0xd00400
  | .TWIN_CTRL => 0xe00000
  | .TWIN_CFG => 0xe00008
  | .TWIN_STATUS => 0xe00010
  | .TWIN_EVENT => 0xe00018
  | .TWIN_CMP => 0xe00020
  | .TWIN_DIGEST => 0xe00028
  | .TWIN_HANDOVER => 0xe00038
  | .TWIN_FEED => 0xe00040
  | .TWIN_CAP_INFO => 0xe00050
  | .TWIN_CAP_SEL => 0xe00070
  | .TWIN_COUNT => 0xe00080
  | .TWIN_CAP_WORD => 0xe01000
  | .AG_ID => 0x0
  | .AG_IDENT => 0x10
  | .AG_CENSUS => 0x18
  | .AG_NODE => 0x20
  | .AG_STATUS => 0x28
  | .AG_EVENT => 0x30
  | .AG_FAULT => 0x38
  | .AG_CTRL => 0x40
  | .AG_CFG => 0x48
  | .AG_TREE => 0x50
  | .AG_ALLOW => 0x58
  | .AG_EPOCH => 0x60
  | .AG_MBX_FULL => 0x68
  | .AG_MBX_IN => 0x70
  | .AG_MBX_OUT => 0x80
  | .AG_INSTALL => 0x90
  | .AG_ACT_ROUND => 0x98
  | .AG_INSTALL_MAP => 0xa0
  | .AG_MANAGER => 0xb0
  | .AG_LANT => 0xb8
  | .AG_COUNT => 0x100
  | .AG_PORT => 0x200
  | .AG_PORT_CFG => 0x280
  | .AG_PORT_FAR => 0x300
  | .AG_FILTER => 0x400
  | .AG_KEY_WRITE => 0x600
  | .AG_KEY_INFO => 0x680
  | .AG_TBL_SEL => 0x1000
  | .AG_TBL_WORD => 0x2000
  | .PWR_CTRL => 0xf00000
  | .PWR_CFG => 0xf00008
  | .PWR_SITE => 0xf00010
  | .PWR_STATUS => 0xf00018
  | .PWR_EVENT => 0xf00020
  | .PWR_STAGE_MS => 0xf00080
  | .PWR_RAIL => 0xf00100
  | .PWR_PACE => 0xf00180
  | .PWR_STAGE_SEL => 0xf00200
  | .PWR_FW_STATUS => 0xf00208
  | .PWR_LIC_STATUS => 0xf00210
  | .PWR_STAGE_DATA => 0xf01000
  | .IDENT_ID => 0x0
  | .IDENT_PART => 0x10
  | .IDENT_SITE => 0x18
  | .IDENT_LIC => 0x20
  | .IDENT_FW => 0x28
  | .IDENT_INTERNAL => 0x30
  | .PORT_CTRL => 0x1100000
  | .PORT_EVENT => 0x1100008
  | .PORT_STATUS => 0x1101000

/-- The first index of an array register. -/
def first : Reg → Nat
  | .PWR_PACE => 1
  | _ => 0

/-- The last index of an array register, 0 for a single register (R12). -/
def last : Reg → Nat
  | .PLAN_MODE_EVAL => 3
  | .PLAN_DIGEST => 3
  | .DISC_NODE => 1023
  | .DISC_CENSUS => 1023
  | .DISC_NODE_ID => 2047
  | .DISC_EXTRA => 191
  | .DISC_ANOM => 511
  | .BELL_COUNT => 7
  | .BELL_HELD => 63
  | .BELL_AGENT => 1023
  | .CUP_ENTRY => 4095
  | .CUP_JOB => 4095
  | .REP_COUNT => 7
  | .REP_SPARE => 15
  | .REP_LOG => 511
  | .GRD_COUNT => 10
  | .GRD_GROUP => 255
  | .GRD_GROUP_STEP => 255
  | .GRD_GROUP_PROG => 255
  | .GRAPH_TASK_WORD => 15
  | .GRAPH_COUNT => 7
  | .SEN_STAT => 63
  | .SEN_SUSPECT => 15
  | .SEN_COUNT => 7
  | .CHK_COUNT => 7
  | .CHK_CFG => 127
  | .CHK_STATE => 127
  | .CHK_VALUE => 127
  | .CHK_BYTES => 127
  | .CHK_CKPT_VALUE => 127
  | .CHK_CKPT_BYTES => 127
  | .MBX_HIN => 31
  | .MBX_HOUT => 31
  | .MBX_RELAY => 31
  | .MBX_COUNT => 7
  | .ETH_ADDR => 11
  | .ETH_SUB => 7
  | .ETH_QP_WORD => 5
  | .ETH_COUNT => 7
  | .LANT_COUNT => 7
  | .BELF_ETH_BUDGET => 2
  | .BELF_OVERFLOW => 7
  | .BELF_SHED => 7
  | .BELF_SENT => 63
  | .BELF_ALARM => 607
  | .BELF_READ_WORD => 1023
  | .KEY_SPAN => 1
  | .KEY_ENROL_STAGE => 15
  | .KEY_SLOT_INFO => 7
  | .KEY_SLOT_SEQ => 7
  | .KEY_SLOT_DIGEST => 31
  | .KEY_COUNT => 7
  | .TWIN_DIGEST => 1
  | .TWIN_FEED => 1
  | .TWIN_CAP_INFO => 3
  | .TWIN_COUNT => 7
  | .TWIN_CAP_WORD => 1023
  | .AG_ID => 1
  | .AG_MBX_IN => 1
  | .AG_MBX_OUT => 1
  | .AG_INSTALL_MAP => 1
  | .AG_COUNT => 15
  | .AG_PORT => 15
  | .AG_PORT_CFG => 15
  | .AG_PORT_FAR => 31
  | .AG_FILTER => 63
  | .AG_KEY_WRITE => 11
  | .AG_KEY_INFO => 127
  | .AG_TBL_WORD => 511
  | .PWR_STAGE_MS => 11
  | .PWR_RAIL => 8
  | .PWR_PACE => 5
  | .PWR_STAGE_DATA => 1023
  | .IDENT_ID => 1
  | .PORT_STATUS => 47
  | _ => 0

/-- The register sits in the window of an agent (R46). -/
def isAgent : Reg → Bool
  | .AG_ID
  | .AG_IDENT
  | .AG_CENSUS
  | .AG_NODE
  | .AG_STATUS
  | .AG_EVENT
  | .AG_FAULT
  | .AG_CTRL
  | .AG_CFG
  | .AG_TREE
  | .AG_ALLOW
  | .AG_EPOCH
  | .AG_MBX_FULL
  | .AG_MBX_IN
  | .AG_MBX_OUT
  | .AG_INSTALL
  | .AG_ACT_ROUND
  | .AG_INSTALL_MAP
  | .AG_MANAGER
  | .AG_LANT
  | .AG_COUNT
  | .AG_PORT
  | .AG_PORT_CFG
  | .AG_PORT_FAR
  | .AG_FILTER
  | .AG_KEY_WRITE
  | .AG_KEY_INFO
  | .AG_TBL_SEL
  | .AG_TBL_WORD => true
  | _ => false

/-- The bits of RW fields (R13). -/
def rwMask : Reg → Nat
  | .PLAN_LOAD_LEN => 0x1fffffff
  | .PLAN_ACT_ROUND => 0xffffffffffff
  | .DISC_CFG => 0xfffffffff
  | .BELL_ARG => 0xffffffff
  | .BELL_CFG => 0xfff
  | .CUP_NONCE => 0xffffffffffffffff
  | .REP_CFG => 0xf
  | .GRD_ARG => 0xffffffff
  | .GRD_CFG => 0xffff0003
  | .GRAPH_ARG => 0xffffffff
  | .GRAPH_RING_TAIL => 0xffffffff
  | .GRAPH_ECN => 0xffffffffffff000f
  | .GRAPH_ECN_RATE => 0xffffffffffffffff
  | .GRAPH_TASK_SEL => 0xffffffff
  | .SEN_ARG => 0xffffffff
  | .SEN_SEL => 0xffff1fff
  | .CHK_CFG => 0xffffffff0f1f
  | .CHK_VALUE => 0xffffffffffffffff
  | .CHK_BYTES => 0xffffffffffffffff
  | .MBX_CFG => 0xffff
  | .MBX_HOST_EPOCH => 0xff
  | .MBX_RELAY => 0x1ffffffff
  | .ETH_CFG => 0xffffffff0003
  | .ETH_ADDR => 0xffffffffffffffff
  | .ETH_QP_SEL => 0x3f
  | .ETH_QP_WORD => 0xffffffffffffffff
  | .LANT_TOD_ARG => 0xffffffffffffffff
  | .LANT_CFG => 0xffffffff3ff7
  | .LANT_UTC => 0x7ffff
  | .BELF_CFG => 0xffffffffffff
  | .BELF_SHARE => 0x1fff1fff1fff
  | .BELF_ETH_BUDGET => 0xffffffffffffffff
  | .BELF_TRACE => 0x7ffff
  | .BELF_READ_SEL => 0x3ffff
  | .BELF_ALARM => 0x1e
  | .KEY_CFG => 0xffff
  | .KEY_SPAN => 0xffffffffffffffff
  | .KEY_ENROL_STAGE => 0xffffffffffffffff
  | .TWIN_CFG => 0xffffffffffff0001
  | .TWIN_CAP_SEL => 0x3fff03
  | .AG_TREE => 0xffffffff001f
  | .AG_ALLOW => 0xfffffffffffffff
  | .AG_EPOCH => 0xff00
  | .AG_PORT_CFG => 0x3f03
  | .AG_FILTER => 0xffffffffffffffff
  | .AG_TBL_SEL => 0xffff01ff
  | .PWR_CFG => 0xffffffffff03
  | .PWR_SITE => 0x7f
  | .PWR_STAGE_SEL => 0xffffff03
  | _ => 0

/-- The bits of W1C fields (R13). -/
def w1cMask : Reg → Nat
  | .DISC_EVENT => 0x3f
  | .BELL_EVENT => 0xff
  | .CUP_EVENT => 0x1ff
  | .REP_EVENT => 0x3ff
  | .GRD_EVENT => 0x1fff
  | .GRAPH_EVENT => 0xff
  | .SEN_EVENT => 0xff
  | .CHK_EVENT => 0x3f
  | .MBX_HOUT_FULL => 0xffffffff
  | .MBX_EVENT => 0x7f
  | .ETH_EVENT => 0x7f
  | .LANT_EVENT => 0xff
  | .BELF_EVENT => 0x7f
  | .BELF_ALARM => 0x1
  | .KEY_EVENT => 0x1ff
  | .TWIN_EVENT => 0x7fff
  | .AG_EVENT => 0x3ff
  | .AG_MBX_FULL => 0x300
  | .PWR_EVENT => 0x1fff
  | .PORT_EVENT => 0xf
  | _ => 0

/-- The bits of W1S fields (R13). -/
def w1sMask : Reg → Nat
  | .AG_CFG => 0x1
  | .AG_PORT_CFG => 0x4
  | _ => 0

/-- The bits of WO fields (R13). -/
def woMask : Reg → Nat
  | .PLAN_CTRL => 0xf
  | .DISC_CTRL => 0xf
  | .BELL_CTRL => 0xf
  | .CUP_CTRL => 0xffffffffffff000f
  | .REP_CTRL => 0xffffffff000f
  | .GRD_CTRL => 0xff000f
  | .GRAPH_CTRL => 0xf
  | .SEN_CTRL => 0xf
  | .CHK_CTRL => 0x7f0f
  | .MBX_HIN => 0xffffffffffffffff
  | .LANT_CTRL => 0x3f
  | .BELF_CTRL => 0xf
  | .KEY_CTRL => 0xf
  | .TWIN_CTRL => 0x1f
  | .AG_CTRL => 0xffff000f
  | .AG_MBX_IN => 0xffffffffffffffff
  | .AG_KEY_WRITE => 0xffffffffffffffff
  | .PWR_CTRL => 0xff003f
  | .PWR_STAGE_DATA => 0xffffffffffffffff
  | .PORT_CTRL => 0x3f1f
  | _ => 0

/-- The bits a read returns: every field but WO and reserved ones (R13, R14). -/
def readMask : Reg → Nat
  | .PLAN_CTRL => 0x0
  | .PLAN_STATUS => 0x1ff
  | .PLAN_LOAD_LEN => 0x1fffffff
  | .PLAN_ACT_ROUND => 0xffffffffffff
  | .PLAN_EARLIEST => 0xffffffffffff
  | .PLAN_ERR => 0xffffffffffff00ff
  | .PLAN_ERR_OFFSET => 0xffffffff
  | .PLAN_CAPACITY => 0xffffffffffff
  | .DISC_CTRL => 0x0
  | .DISC_CFG => 0xfffffffff
  | .DISC_STATUS => 0xffffffffffff001f
  | .DISC_SUMMARY => 0xfffffffffffffff
  | .DISC_VIABLE => 0xffffffffff007f
  | .DISC_EVENT => 0x3f
  | .DISC_NODE => 0xffffffff0007ffff
  | .BELL_CTRL => 0x0
  | .BELL_ARG => 0xffffffff
  | .BELL_CFG => 0xfff
  | .BELL_STATUS => 0xfffffffff1fff
  | .BELL_ROUND => 0xffffffffffff
  | .BELL_ROUND_BASE => 0xffffffffffff
  | .BELL_ACT_ROUND => 0xffffffffffff
  | .BELL_EVENT => 0xff
  | .BELL_QUIESCE => 0x3ffff
  | .BELL_AGENT => 0x7ffffff07
  | .CUP_CTRL => 0x0
  | .CUP_STATUS => 0x7fffffffff3f
  | .CUP_EVENT => 0x1ff
  | .CUP_ERR => 0xffff00ff
  | .CUP_ENTRY => 0x1ff1f1f7f
  | .CUP_JOB => 0xffffffffffff
  | .REP_CTRL => 0x0
  | .REP_CFG => 0xf
  | .REP_STATUS => 0x3ffffff001f
  | .REP_EVENT => 0x3ff
  | .REP_RESET => 0xffffffff00ff
  | .REP_LOG_HEAD => 0xffffffffff
  | .GRD_CTRL => 0x0
  | .GRD_ARG => 0xffffffff
  | .GRD_CFG => 0xffff0003
  | .GRD_STATUS => 0x3fffffffff
  | .GRD_EVENT => 0x1fff
  | .GRD_GROUP => 0xfffff1ff
  | .GRD_GROUP_STEP => 0xffffffffffff
  | .GRD_GROUP_PROG => 0xffffffffffff
  | .GRAPH_CTRL => 0x0
  | .GRAPH_ARG => 0xffffffff
  | .GRAPH_STATUS => 0x3fffffffff
  | .GRAPH_RING_CFG => 0x1ffffffff001f
  | .GRAPH_RING_HEAD => 0xffffffff
  | .GRAPH_RING_TAIL => 0xffffffff
  | .GRAPH_RING_RESERVED => 0xffffffff
  | .GRAPH_ERR => 0xffffffffffff00ff
  | .GRAPH_EVENT => 0xff
  | .GRAPH_ECN => 0xffffffffffff000f
  | .GRAPH_TASK_SEL => 0xffffffff
  | .SEN_CTRL => 0x0
  | .SEN_ARG => 0xffffffff
  | .SEN_STATUS => 0x3ffffffffff
  | .SEN_EVENT => 0xff
  | .SEN_HOLD_STEP => 0xffffffffffff
  | .SEN_SEL => 0xffff1fff
  | .CHK_CTRL => 0x0
  | .CHK_STATUS => 0xffffffff
  | .CHK_EVENT => 0x3f
  | .CHK_CFG => 0xffffffff0f1f
  | .CHK_STATE => 0xffffffff000f
  | .MBX_CFG => 0xffff
  | .MBX_EPOCH => 0xffffff
  | .MBX_HOST_EPOCH => 0xff
  | .MBX_HIN_FULL => 0xffffffff
  | .MBX_HOUT_FULL => 0xffffffff
  | .MBX_EVENT => 0x7f
  | .MBX_STALL => 0xffffffff1f07
  | .MBX_TWIN => 0xffff
  | .MBX_KEY => 0xff
  | .MBX_HIN => 0x0
  | .MBX_RELAY => 0x1ffffffff
  | .ETH_CFG => 0xffffffff0003
  | .ETH_STATUS => 0xffffff1f
  | .ETH_EVENT => 0x7f
  | .ETH_SUB => 0xffffffffffff0007
  | .ETH_QP_SEL => 0x3f
  | .LANT_CTRL => 0x0
  | .LANT_CFG => 0xffffffff3ff7
  | .LANT_STATUS => 0xf7fff
  | .LANT_NOW_FRAC => 0xffff
  | .LANT_UTC => 0x7ffff
  | .LANT_EVENT => 0xff
  | .BELF_CTRL => 0x0
  | .BELF_CFG => 0xffffffffffff
  | .BELF_STATUS => 0xffffffffff1f
  | .BELF_STAMP => 0xffffffffffff
  | .BELF_CYCLE => 0xffffffff
  | .BELF_EVENT => 0x7f
  | .BELF_FREEZE => 0xffffffffffff
  | .BELF_USED => 0x1ffffff
  | .BELF_SHARE => 0x1fff1fff1fff
  | .BELF_TRACE => 0x7ffff
  | .BELF_READ_SEL => 0x3ffff
  | .BELF_OVERFLOW => 0xffffffffffff
  | .BELF_ALARM => 0xffffffffffffff1f
  | .KEY_CTRL => 0x0
  | .KEY_CFG => 0xffff
  | .KEY_STATUS => 0xf0fff
  | .KEY_EVENT => 0x1ff
  | .KEY_MEM => 0x3fffffffffff
  | .KEY_SLOT_INFO => 0xffffffff00000103
  | .TWIN_CTRL => 0x0
  | .TWIN_CFG => 0xffffffffffff0001
  | .TWIN_STATUS => 0xffffffff007fffff
  | .TWIN_EVENT => 0x7fff
  | .TWIN_CMP => 0x1ffffffffffff
  | .TWIN_FEED => 0x3ffff0001ffff
  | .TWIN_CAP_INFO => 0x3ffffffffffff
  | .TWIN_CAP_SEL => 0x3fff03
  | .AG_IDENT => 0xffffffff00011ff3
  | .AG_STATUS => 0xffffffff00ff
  | .AG_EVENT => 0x3ff
  | .AG_CTRL => 0x0
  | .AG_CFG => 0x1
  | .AG_TREE => 0xffffffff001f
  | .AG_ALLOW => 0xfffffffffffffff
  | .AG_EPOCH => 0xffff
  | .AG_MBX_FULL => 0xff0303
  | .AG_MBX_IN => 0x0
  | .AG_INSTALL => 0xffffffff0377
  | .AG_ACT_ROUND => 0xffffffffffff
  | .AG_MANAGER => 0xffffffff000001f3
  | .AG_LANT => 0xffffffff000ffff7
  | .AG_PORT => 0x3ffffff001ffff7
  | .AG_PORT_CFG => 0x3f07
  | .AG_KEY_WRITE => 0x0
  | .AG_KEY_INFO => 0xffffffffffff0001
  | .AG_TBL_SEL => 0xffff01ff
  | .PWR_CTRL => 0x0
  | .PWR_CFG => 0xffffffffff03
  | .PWR_SITE => 0x7f
  | .PWR_STATUS => 0xfff03ff0fff
  | .PWR_EVENT => 0x1fff
  | .PWR_STAGE_MS => 0xffffffff
  | .PWR_RAIL => 0x3ffffffffffff
  | .PWR_PACE => 0xffffffff0001ffff
  | .PWR_STAGE_SEL => 0xffffff03
  | .PWR_FW_STATUS => 0xffffffff000000f7
  | .PWR_LIC_STATUS => 0x1ff
  | .PWR_STAGE_DATA => 0x0
  | .IDENT_PART => 0x7fffffffff
  | .IDENT_SITE => 0xffffffffff
  | .IDENT_LIC => 0xffffffff3fffffff
  | .IDENT_FW => 0xffffffffffffff07
  | .IDENT_INTERNAL => 0x1fffffff
  | .PORT_CTRL => 0x0
  | .PORT_EVENT => 0xf
  | .PORT_STATUS => 0xffffffff000f1fff
  | _ => 0xffffffffffffffff

/-- The word a register holds after reset: the reset column of its table. A value the table takes from flash, fuses,
pins or the boot image is a constant of Config. `node` and `idx` select the agent and the array element. -/
def resetWord (r : Reg) (node idx : Nat) : Nat :=
  match r with
  | .PLAN_CAPACITY => 0x1e001000
  | .DISC_CFG => 0x304000010
  | .BELL_CFG => 0x138
  | .BELL_STATUS => 0xa
  | .CUP_ENTRY => 0x7
  | .REP_CFG => 0x4
  | .GRD_CFG => 0x400001
  | .GRAPH_ECN => 0x3e800370001
  | .GRAPH_ECN_RATE => 0x30d4000000064
  | .MBX_CFG => 0x40
  | .MBX_EPOCH => Config.mbxEpoch
  | .ETH_CFG => 0xbac224000000
  | .LANT_CFG => 0x108080000320
  | .LANT_FLOOR => Config.lantFloor
  | .BELF_CFG => 0x100400003c
  | .BELF_STAMP => Config.opTime
  | .BELF_CYCLE => Config.powerCycles
  | .BELF_USED => Config.belfUsed
  | .BELF_SHARE => 0x2000000010
  | .BELF_ETH_BUDGET => Config.ethBudget idx
  | .BELF_TRACE => 0x40000
  | .BELF_ALARM => Source.alarm idx * 0x2 + Source.severity idx * 0x4
  | .KEY_CFG => 0x1000
  | .KEY_TENANT => Config.tenantEpoch * 0x100000000
  | .KEY_MEM => Config.memGeneration
  | .KEY_SLOT_INFO => Config.slotKind idx + Config.slotTenant idx * 0x100000000
  | .KEY_SLOT_SEQ => Config.slotSequence idx
  | .KEY_SLOT_DIGEST => Config.slotDigest idx
  | .TWIN_CFG => 0x400010000001
  | .TWIN_STATUS => 0x100 + Config.letter * 0x40
  | .AG_ID => Config.agentId node idx
  | .AG_IDENT => Config.agentKind node + 1 * 0x10 + Config.agentPorts node * 0x100 + 1 * 0x10000 + Config.agentRelayKib * 0x100000000 + Config.agentImplementer * 0x1000000000000
  | .AG_NODE => 0xffffffff
  | .AG_ALLOW => 0x10
  | .AG_PORT_CFG => 0x2000
  | .AG_TBL_SEL => 0x1
  | .PWR_CFG => 0x100001e00
  | .PWR_SITE => Config.spire
  | .PWR_STATUS => 0x2d00100
  | .PWR_LIC_STATUS => Config.licCount * 0x10
  | .IDENT_ID => Config.elementWord idx
  | .IDENT_PART => 0x432112ca + Config.letter * 0x100000000 + Config.slotId * 0x200000000
  | .IDENT_SITE => Config.installation + Config.spire * 0x100000000 + Config.spireSet * 0x8000000000
  | .IDENT_LIC => Config.licCode + Config.licFeatures * 0x4 + Config.licAgents * 0x100 + Config.licPorts * 0x40000 + Config.pairFeatures * 0x1000000 + Config.licSequence * 0x100000000
  | .IDENT_FW => 0x100 + Config.fwSlot + Config.fwCommitted * 0x2 + Config.fwOtherValid * 0x4 + Config.fwSecurity * 0x10000 + Config.fwVersion * 0x100000000
  | .IDENT_INTERNAL => 0x10220460
  | .CHK_CFG => if idx < 96 then 1 else 0
  | .ETH_QP_WORD => if idx = 0 then 0xFFFF01C0 else if idx = 1 then node else 0
  | .ETH_ADDR => if idx = 11 then Config.macAddress else 0
  | _ => 0

/-- Part 0 of the list of all registers. -/
def all0 : List Reg :=
  [.PLAN_CTRL, .PLAN_STATUS, .PLAN_LOAD_LEN, .PLAN_ACT_ROUND, .PLAN_EARLIEST,
   .PLAN_EPOCH, .PLAN_ERR, .PLAN_ERR_OFFSET, .PLAN_DEFICIT, .PLAN_SRAM_DEFICIT,
   .PLAN_MODE_EVAL, .PLAN_CAPACITY, .PLAN_DIGEST, .PLAN_RATE_EXCESS, .DISC_CTRL,
   .DISC_CFG, .DISC_STATUS, .DISC_SUMMARY, .DISC_VIABLE, .DISC_EVENT,
   .DISC_NODE, .DISC_CENSUS, .DISC_NODE_ID, .DISC_EXTRA, .DISC_ANOM,
   .BELL_CTRL, .BELL_ARG, .BELL_CFG, .BELL_STATUS, .BELL_ROUND,
   .BELL_ROUND_BASE, .BELL_ACT_ROUND, .BELL_EST, .BELL_EVENT, .BELL_QUIESCE,
   .BELL_COUNT, .BELL_HELD, .BELL_AGENT, .CUP_CTRL, .CUP_NONCE,
   .CUP_STATUS, .CUP_EVENT, .CUP_ERR, .CUP_ENTRY, .CUP_JOB,
   .REP_CTRL, .REP_CFG, .REP_STATUS, .REP_EST, .REP_EVENT,
   .REP_RESET, .REP_LOG_HEAD, .REP_COUNT, .REP_SPARE, .REP_LOG,
   .GRD_CTRL, .GRD_ARG, .GRD_CFG, .GRD_STATUS, .GRD_EVENT]
/-- Part 1 of the list of all registers. -/
def all1 : List Reg :=
  [.GRD_FOLD_NEED, .GRD_FOLD_DIRECT, .GRD_SPILL, .GRD_COUNT, .GRD_GROUP,
   .GRD_GROUP_STEP, .GRD_GROUP_PROG, .GRAPH_CTRL, .GRAPH_ARG, .GRAPH_STATUS,
   .GRAPH_RING_CFG, .GRAPH_RING_HEAD, .GRAPH_RING_TAIL, .GRAPH_RING_RESERVED, .GRAPH_ERR,
   .GRAPH_EVENT, .GRAPH_ECN, .GRAPH_ECN_RATE, .GRAPH_TASK_SEL, .GRAPH_TASK_WORD,
   .GRAPH_COUNT, .SEN_CTRL, .SEN_ARG, .SEN_STATUS, .SEN_EVENT,
   .SEN_HOLD, .SEN_HOLD_STEP, .SEN_SEL, .SEN_STAT, .SEN_SUSPECT,
   .SEN_COUNT, .CHK_CTRL, .CHK_STATUS, .CHK_EVENT, .CHK_COUNT,
   .CHK_CFG, .CHK_STATE, .CHK_VALUE, .CHK_BYTES, .CHK_CKPT_VALUE,
   .CHK_CKPT_BYTES, .MBX_CFG, .MBX_EPOCH, .MBX_HOST_EPOCH, .MBX_HIN_FULL,
   .MBX_HOUT_FULL, .MBX_EVENT, .MBX_STALL, .MBX_TWIN, .MBX_KEY,
   .MBX_HIN, .MBX_HOUT, .MBX_RELAY, .MBX_COUNT, .ETH_CFG,
   .ETH_STATUS, .ETH_EVENT, .ETH_ADDR, .ETH_SUB, .ETH_QP_SEL]
/-- Part 2 of the list of all registers. -/
def all2 : List Reg :=
  [.ETH_QP_WORD, .ETH_COUNT, .LANT_CTRL, .LANT_TOD_ARG, .LANT_CFG,
   .LANT_STATUS, .LANT_NOW_NS, .LANT_NOW_FRAC, .LANT_NOW_TOD, .LANT_OFFSET,
   .LANT_OFFSET_TARGET, .LANT_UTC, .LANT_ROUND_BASE_TIME, .LANT_PARENT, .LANT_HOLDOVER,
   .LANT_FLOOR, .LANT_EVENT, .LANT_COUNT, .BELF_CTRL, .BELF_CFG,
   .BELF_STATUS, .BELF_STAMP, .BELF_CYCLE, .BELF_EVENT, .BELF_FREEZE,
   .BELF_USED, .BELF_SHARE, .BELF_ETH_BUDGET, .BELF_TRACE, .BELF_READ_SEL,
   .BELF_OVERFLOW, .BELF_SHED, .BELF_SENT, .BELF_ALARM, .BELF_READ_WORD,
   .KEY_CTRL, .KEY_CFG, .KEY_STATUS, .KEY_TENANT, .KEY_EVENT,
   .KEY_REMOVE, .KEY_MEM, .KEY_SPAN, .KEY_ENROL_STAGE, .KEY_SLOT_INFO,
   .KEY_SLOT_SEQ, .KEY_SLOT_DIGEST, .KEY_COUNT, .TWIN_CTRL, .TWIN_CFG,
   .TWIN_STATUS, .TWIN_EVENT, .TWIN_CMP, .TWIN_DIGEST, .TWIN_HANDOVER,
   .TWIN_FEED, .TWIN_CAP_INFO, .TWIN_CAP_SEL, .TWIN_COUNT, .TWIN_CAP_WORD]
/-- Part 3 of the list of all registers. -/
def all3 : List Reg :=
  [.AG_ID, .AG_IDENT, .AG_CENSUS, .AG_NODE, .AG_STATUS,
   .AG_EVENT, .AG_FAULT, .AG_CTRL, .AG_CFG, .AG_TREE,
   .AG_ALLOW, .AG_EPOCH, .AG_MBX_FULL, .AG_MBX_IN, .AG_MBX_OUT,
   .AG_INSTALL, .AG_ACT_ROUND, .AG_INSTALL_MAP, .AG_MANAGER, .AG_LANT,
   .AG_COUNT, .AG_PORT, .AG_PORT_CFG, .AG_PORT_FAR, .AG_FILTER,
   .AG_KEY_WRITE, .AG_KEY_INFO, .AG_TBL_SEL, .AG_TBL_WORD, .PWR_CTRL,
   .PWR_CFG, .PWR_SITE, .PWR_STATUS, .PWR_EVENT, .PWR_STAGE_MS,
   .PWR_RAIL, .PWR_PACE, .PWR_STAGE_SEL, .PWR_FW_STATUS, .PWR_LIC_STATUS,
   .PWR_STAGE_DATA, .IDENT_ID, .IDENT_PART, .IDENT_SITE, .IDENT_LIC,
   .IDENT_FW, .IDENT_INTERNAL, .PORT_CTRL, .PORT_EVENT, .PORT_STATUS]
/-- Every register. -/
def all : List Reg := all0 ++ all1 ++ all2 ++ all3

end Reg

/-- A field of a register: the register, its low bit and its width (R6). -/
structure Fld where
  reg : Reg
  lo : Nat
  len : Nat
  deriving DecidableEq, Repr

namespace F

abbrev PLAN_CTRL_CMD : Fld := ⟨.PLAN_CTRL, 0, 4⟩
abbrev PLAN_STATUS_STAGED_STATE : Fld := ⟨.PLAN_STATUS, 0, 3⟩
abbrev PLAN_STATUS_CUR_VALID : Fld := ⟨.PLAN_STATUS, 3, 1⟩
abbrev PLAN_STATUS_STANDBY_AGREE : Fld := ⟨.PLAN_STATUS, 4, 1⟩
abbrev PLAN_STATUS_SHORT : Fld := ⟨.PLAN_STATUS, 5, 1⟩
abbrev PLAN_STATUS_CANCEL_REASON : Fld := ⟨.PLAN_STATUS, 6, 3⟩
abbrev PLAN_LOAD_LEN_LEN : Fld := ⟨.PLAN_LOAD_LEN, 0, 29⟩
abbrev PLAN_ACT_ROUND_ROUND : Fld := ⟨.PLAN_ACT_ROUND, 0, 48⟩
abbrev PLAN_EARLIEST_ROUND : Fld := ⟨.PLAN_EARLIEST, 0, 48⟩
abbrev PLAN_EPOCH_CURRENT : Fld := ⟨.PLAN_EPOCH, 0, 32⟩
abbrev PLAN_EPOCH_STAGED : Fld := ⟨.PLAN_EPOCH, 32, 32⟩
abbrev PLAN_ERR_CODE : Fld := ⟨.PLAN_ERR, 0, 8⟩
abbrev PLAN_ERR_SECTION : Fld := ⟨.PLAN_ERR, 16, 16⟩
abbrev PLAN_ERR_ITEM : Fld := ⟨.PLAN_ERR, 32, 32⟩
abbrev PLAN_ERR_OFFSET_OFFSET : Fld := ⟨.PLAN_ERR_OFFSET, 0, 32⟩
abbrev PLAN_DEFICIT_BYTES : Fld := ⟨.PLAN_DEFICIT, 0, 64⟩
abbrev PLAN_SRAM_DEFICIT_BYTES : Fld := ⟨.PLAN_SRAM_DEFICIT, 0, 64⟩
abbrev PLAN_MODE_EVAL_SHORTFALL : Fld := ⟨.PLAN_MODE_EVAL, 0, 63⟩
abbrev PLAN_MODE_EVAL_DECLARED : Fld := ⟨.PLAN_MODE_EVAL, 63, 1⟩
abbrev PLAN_CAPACITY_DRAM_GIB : Fld := ⟨.PLAN_CAPACITY, 0, 16⟩
abbrev PLAN_CAPACITY_SRAM_MIB : Fld := ⟨.PLAN_CAPACITY, 16, 16⟩
abbrev PLAN_CAPACITY_MARGIN_LEFT_GIB : Fld := ⟨.PLAN_CAPACITY, 32, 16⟩
abbrev PLAN_DIGEST_DIGEST : Fld := ⟨.PLAN_DIGEST, 0, 64⟩
abbrev PLAN_RATE_EXCESS_EXCESS : Fld := ⟨.PLAN_RATE_EXCESS, 0, 64⟩
abbrev DISC_CTRL_CMD : Fld := ⟨.DISC_CTRL, 0, 4⟩
abbrev DISC_CFG_SETTLE : Fld := ⟨.DISC_CFG, 0, 16⟩
abbrev DISC_CFG_LIMIT : Fld := ⟨.DISC_CFG, 16, 16⟩
abbrev DISC_CFG_PROBE_RETRY : Fld := ⟨.DISC_CFG, 32, 4⟩
abbrev DISC_STATUS_STATE : Fld := ⟨.DISC_STATUS, 0, 3⟩
abbrev DISC_STATUS_VIABLE : Fld := ⟨.DISC_STATUS, 3, 1⟩
abbrev DISC_STATUS_INCREMENTAL : Fld := ⟨.DISC_STATUS, 4, 1⟩
abbrev DISC_STATUS_BOUND_ROUND : Fld := ⟨.DISC_STATUS, 16, 48⟩
abbrev DISC_SUMMARY_BOUND : Fld := ⟨.DISC_SUMMARY, 0, 10⟩
abbrev DISC_SUMMARY_SUBSTITUTED : Fld := ⟨.DISC_SUMMARY, 10, 10⟩
abbrev DISC_SUMMARY_MISSING : Fld := ⟨.DISC_SUMMARY, 20, 10⟩
abbrev DISC_SUMMARY_EXTRA : Fld := ⟨.DISC_SUMMARY, 30, 10⟩
abbrev DISC_SUMMARY_FENCED : Fld := ⟨.DISC_SUMMARY, 40, 10⟩
abbrev DISC_SUMMARY_DARK_LINKS : Fld := ⟨.DISC_SUMMARY, 50, 10⟩
abbrev DISC_VIABLE_FAILED : Fld := ⟨.DISC_VIABLE, 0, 7⟩
abbrev DISC_VIABLE_ACTIVE : Fld := ⟨.DISC_VIABLE, 16, 16⟩
abbrev DISC_VIABLE_ROWS : Fld := ⟨.DISC_VIABLE, 32, 8⟩
abbrev DISC_VIABLE_COLS : Fld := ⟨.DISC_VIABLE, 40, 8⟩
abbrev DISC_VIABLE_EDGE : Fld := ⟨.DISC_VIABLE, 48, 8⟩
abbrev DISC_EVENT_BINDING_CHANGED : Fld := ⟨.DISC_EVENT, 0, 1⟩
abbrev DISC_EVENT_NEW_ANOMALY : Fld := ⟨.DISC_EVENT, 1, 1⟩
abbrev DISC_EVENT_NOT_VIABLE : Fld := ⟨.DISC_EVENT, 2, 1⟩
abbrev DISC_EVENT_CENSUS_CHANGE : Fld := ⟨.DISC_EVENT, 3, 1⟩
abbrev DISC_EVENT_DUPLICATE_ID : Fld := ⟨.DISC_EVENT, 4, 1⟩
abbrev DISC_EVENT_OVERFLOW : Fld := ⟨.DISC_EVENT, 5, 1⟩
abbrev DISC_NODE_CLASS : Fld := ⟨.DISC_NODE, 0, 4⟩
abbrev DISC_NODE_KIND : Fld := ⟨.DISC_NODE, 4, 4⟩
abbrev DISC_NODE_LEVEL : Fld := ⟨.DISC_NODE, 8, 4⟩
abbrev DISC_NODE_DARK : Fld := ⟨.DISC_NODE, 12, 4⟩
abbrev DISC_NODE_TRANSIT_ONLY : Fld := ⟨.DISC_NODE, 16, 1⟩
abbrev DISC_NODE_EPOCH_FOREIGN : Fld := ⟨.DISC_NODE, 17, 1⟩
abbrev DISC_NODE_PINNED_MISMATCH : Fld := ⟨.DISC_NODE, 18, 1⟩
abbrev DISC_NODE_SUBST_BY : Fld := ⟨.DISC_NODE, 32, 32⟩
abbrev DISC_CENSUS_USABLE : Fld := ⟨.DISC_CENSUS, 0, 32⟩
abbrev DISC_CENSUS_DESIGNED : Fld := ⟨.DISC_CENSUS, 32, 32⟩
abbrev DISC_NODE_ID_ID : Fld := ⟨.DISC_NODE_ID, 0, 64⟩
abbrev DISC_EXTRA_WORD : Fld := ⟨.DISC_EXTRA, 0, 64⟩
abbrev DISC_ANOM_WORD : Fld := ⟨.DISC_ANOM, 0, 64⟩
abbrev BELL_CTRL_CMD : Fld := ⟨.BELL_CTRL, 0, 4⟩
abbrev BELL_ARG_ARG : Fld := ⟨.BELL_ARG, 0, 32⟩
abbrev BELL_CFG_TABLE_SHARE : Fld := ⟨.BELL_CFG, 0, 4⟩
abbrev BELL_CFG_RETX_PASSES : Fld := ⟨.BELL_CFG, 4, 4⟩
abbrev BELL_CFG_REPAIR_PASSES : Fld := ⟨.BELL_CFG, 8, 4⟩
abbrev BELL_STATUS_ROUND_CODE : Fld := ⟨.BELL_STATUS, 0, 4⟩
abbrev BELL_STATUS_INSTALL_STATE : Fld := ⟨.BELL_STATUS, 4, 3⟩
abbrev BELL_STATUS_HELD : Fld := ⟨.BELL_STATUS, 7, 1⟩
abbrev BELL_STATUS_KIND : Fld := ⟨.BELL_STATUS, 8, 2⟩
abbrev BELL_STATUS_PASS : Fld := ⟨.BELL_STATUS, 10, 3⟩
abbrev BELL_STATUS_INSTALL_ID : Fld := ⟨.BELL_STATUS, 16, 16⟩
abbrev BELL_STATUS_PREPARED : Fld := ⟨.BELL_STATUS, 32, 10⟩
abbrev BELL_STATUS_EXPECTED : Fld := ⟨.BELL_STATUS, 42, 10⟩
abbrev BELL_ROUND_ROUND : Fld := ⟨.BELL_ROUND, 0, 48⟩
abbrev BELL_ROUND_BASE_N_BASE : Fld := ⟨.BELL_ROUND_BASE, 0, 48⟩
abbrev BELL_ACT_ROUND_ROUND : Fld := ⟨.BELL_ACT_ROUND, 0, 48⟩
abbrev BELL_EST_LOAD : Fld := ⟨.BELL_EST, 0, 16⟩
abbrev BELL_EST_DEPTH : Fld := ⟨.BELL_EST, 16, 8⟩
abbrev BELL_EST_GAP_US : Fld := ⟨.BELL_EST, 24, 16⟩
abbrev BELL_EST_H : Fld := ⟨.BELL_EST, 40, 8⟩
abbrev BELL_EST_E : Fld := ⟨.BELL_EST, 48, 16⟩
abbrev BELL_EVENT_INSTALL_DONE : Fld := ⟨.BELL_EVENT, 0, 1⟩
abbrev BELL_EVENT_INSTALL_CANCELLED : Fld := ⟨.BELL_EVENT, 1, 1⟩
abbrev BELL_EVENT_STRAGGLER : Fld := ⟨.BELL_EVENT, 2, 1⟩
abbrev BELL_EVENT_REFUSED : Fld := ⟨.BELL_EVENT, 3, 1⟩
abbrev BELL_EVENT_MISSED_ACTIVATE : Fld := ⟨.BELL_EVENT, 4, 1⟩
abbrev BELL_EVENT_RELAY_OVERFLOW : Fld := ⟨.BELL_EVENT, 5, 1⟩
abbrev BELL_EVENT_UNKNOWN_FLOW : Fld := ⟨.BELL_EVENT, 6, 1⟩
abbrev BELL_EVENT_DRAIN_EXCEEDED : Fld := ⟨.BELL_EVENT, 7, 1⟩
abbrev BELL_QUIESCE_FLOW : Fld := ⟨.BELL_QUIESCE, 0, 16⟩
abbrev BELL_QUIESCE_PENDING : Fld := ⟨.BELL_QUIESCE, 16, 1⟩
abbrev BELL_QUIESCE_QUIESCED : Fld := ⟨.BELL_QUIESCE, 17, 1⟩
abbrev BELL_COUNT_COUNT : Fld := ⟨.BELL_COUNT, 0, 64⟩
abbrev BELL_HELD_HELD : Fld := ⟨.BELL_HELD, 0, 64⟩
abbrev BELL_AGENT_STATE : Fld := ⟨.BELL_AGENT, 0, 3⟩
abbrev BELL_AGENT_REFUSAL : Fld := ⟨.BELL_AGENT, 8, 8⟩
abbrev BELL_AGENT_MISSING : Fld := ⟨.BELL_AGENT, 16, 8⟩
abbrev BELL_AGENT_SEGMENTS : Fld := ⟨.BELL_AGENT, 24, 8⟩
abbrev BELL_AGENT_STRAGGLER : Fld := ⟨.BELL_AGENT, 32, 1⟩
abbrev BELL_AGENT_FENCED : Fld := ⟨.BELL_AGENT, 33, 1⟩
abbrev BELL_AGENT_MISSED_ACTIVATE : Fld := ⟨.BELL_AGENT, 34, 1⟩
abbrev CUP_CTRL_CMD : Fld := ⟨.CUP_CTRL, 0, 4⟩
abbrev CUP_CTRL_CUPOLA : Fld := ⟨.CUP_CTRL, 16, 16⟩
abbrev CUP_CTRL_JOB : Fld := ⟨.CUP_CTRL, 32, 32⟩
abbrev CUP_NONCE_NONCE : Fld := ⟨.CUP_NONCE, 0, 64⟩
abbrev CUP_STATUS_OPS : Fld := ⟨.CUP_STATUS, 0, 6⟩
abbrev CUP_STATUS_ACTIVE : Fld := ⟨.CUP_STATUS, 8, 13⟩
abbrev CUP_STATUS_HELD : Fld := ⟨.CUP_STATUS, 21, 13⟩
abbrev CUP_STATUS_UNBUILT : Fld := ⟨.CUP_STATUS, 34, 13⟩
abbrev CUP_EVENT_CARVED : Fld := ⟨.CUP_EVENT, 0, 1⟩
abbrev CUP_EVENT_RETIRED : Fld := ⟨.CUP_EVENT, 1, 1⟩
abbrev CUP_EVENT_REPAIR_STARTED : Fld := ⟨.CUP_EVENT, 2, 1⟩
abbrev CUP_EVENT_REPAIRED : Fld := ⟨.CUP_EVENT, 3, 1⟩
abbrev CUP_EVENT_JOB_HELD : Fld := ⟨.CUP_EVENT, 4, 1⟩
abbrev CUP_EVENT_SHRUNK : Fld := ⟨.CUP_EVENT, 5, 1⟩
abbrev CUP_EVENT_WRAP_OPEN : Fld := ⟨.CUP_EVENT, 6, 1⟩
abbrev CUP_EVENT_ISOLATION : Fld := ⟨.CUP_EVENT, 7, 1⟩
abbrev CUP_EVENT_REFUSED : Fld := ⟨.CUP_EVENT, 8, 1⟩
abbrev CUP_ERR_CODE : Fld := ⟨.CUP_ERR, 0, 8⟩
abbrev CUP_ERR_CUPOLA : Fld := ⟨.CUP_ERR, 16, 16⟩
abbrev CUP_ENTRY_STATE : Fld := ⟨.CUP_ENTRY, 0, 3⟩
abbrev CUP_ENTRY_SHRUNK : Fld := ⟨.CUP_ENTRY, 3, 1⟩
abbrev CUP_ENTRY_ROW_WRAP_OPEN : Fld := ⟨.CUP_ENTRY, 4, 1⟩
abbrev CUP_ENTRY_COL_WRAP_OPEN : Fld := ⟨.CUP_ENTRY, 5, 1⟩
abbrev CUP_ENTRY_INSTALL_HELD : Fld := ⟨.CUP_ENTRY, 6, 1⟩
abbrev CUP_ENTRY_ROWS : Fld := ⟨.CUP_ENTRY, 8, 5⟩
abbrev CUP_ENTRY_COLS : Fld := ⟨.CUP_ENTRY, 16, 5⟩
abbrev CUP_ENTRY_MEMBERS : Fld := ⟨.CUP_ENTRY, 24, 9⟩
abbrev CUP_JOB_JOB : Fld := ⟨.CUP_JOB, 0, 32⟩
abbrev CUP_JOB_TEMPLATE : Fld := ⟨.CUP_JOB, 32, 16⟩
abbrev REP_CTRL_CMD : Fld := ⟨.REP_CTRL, 0, 4⟩
abbrev REP_CTRL_NODE : Fld := ⟨.REP_CTRL, 16, 32⟩
abbrev REP_CFG_FLAP_LIMIT : Fld := ⟨.REP_CFG, 0, 4⟩
abbrev REP_STATUS_ENGINE : Fld := ⟨.REP_STATUS, 0, 3⟩
abbrev REP_STATUS_PENDING : Fld := ⟨.REP_STATUS, 3, 1⟩
abbrev REP_STATUS_SLOW_DETECT : Fld := ⟨.REP_STATUS, 4, 1⟩
abbrev REP_STATUS_BATCH : Fld := ⟨.REP_STATUS, 16, 16⟩
abbrev REP_STATUS_SPARES_FREE : Fld := ⟨.REP_STATUS, 32, 10⟩
abbrev REP_EST_E : Fld := ⟨.REP_EST, 0, 16⟩
abbrev REP_EST_BOUND : Fld := ⟨.REP_EST, 16, 16⟩
abbrev REP_EST_RESOLVE_US : Fld := ⟨.REP_EST, 32, 32⟩
abbrev REP_EVENT_FAULT : Fld := ⟨.REP_EVENT, 0, 1⟩
abbrev REP_EVENT_PRECOMPILED : Fld := ⟨.REP_EVENT, 1, 1⟩
abbrev REP_EVENT_RESOLVED : Fld := ⟨.REP_EVENT, 2, 1⟩
abbrev REP_EVENT_RESOLVE_FAILED : Fld := ⟨.REP_EVENT, 3, 1⟩
abbrev REP_EVENT_ROW_CUT : Fld := ⟨.REP_EVENT, 4, 1⟩
abbrev REP_EVENT_SPARES_EXHAUSTED : Fld := ⟨.REP_EVENT, 5, 1⟩
abbrev REP_EVENT_RESET_GRANTED : Fld := ⟨.REP_EVENT, 6, 1⟩
abbrev REP_EVENT_RESET_REFUSED : Fld := ⟨.REP_EVENT, 7, 1⟩
abbrev REP_EVENT_FLAP_HOLD : Fld := ⟨.REP_EVENT, 8, 1⟩
abbrev REP_EVENT_UNWARNED_RESET : Fld := ⟨.REP_EVENT, 9, 1⟩
abbrev REP_RESET_STATE : Fld := ⟨.REP_RESET, 0, 3⟩
abbrev REP_RESET_FULL : Fld := ⟨.REP_RESET, 3, 1⟩
abbrev REP_RESET_REASON : Fld := ⟨.REP_RESET, 4, 4⟩
abbrev REP_RESET_NODE : Fld := ⟨.REP_RESET, 16, 32⟩
abbrev REP_LOG_HEAD_NEXT : Fld := ⟨.REP_LOG_HEAD, 0, 8⟩
abbrev REP_LOG_HEAD_WRAPS : Fld := ⟨.REP_LOG_HEAD, 8, 32⟩
abbrev REP_COUNT_COUNT : Fld := ⟨.REP_COUNT, 0, 64⟩
abbrev REP_SPARE_FREE : Fld := ⟨.REP_SPARE, 0, 64⟩
abbrev REP_LOG_WORD : Fld := ⟨.REP_LOG, 0, 64⟩
abbrev GRD_CTRL_CMD : Fld := ⟨.GRD_CTRL, 0, 4⟩
abbrev GRD_CTRL_GROUP : Fld := ⟨.GRD_CTRL, 16, 8⟩
abbrev GRD_ARG_JOB : Fld := ⟨.GRD_ARG, 0, 32⟩
abbrev GRD_CFG_RESEND_LIMIT : Fld := ⟨.GRD_CFG, 0, 2⟩
abbrev GRD_CFG_ACK_LIMIT : Fld := ⟨.GRD_CFG, 16, 16⟩
abbrev GRD_STATUS_GROUPS : Fld := ⟨.GRD_STATUS, 0, 9⟩
abbrev GRD_STATUS_PROTECTED : Fld := ⟨.GRD_STATUS, 9, 9⟩
abbrev GRD_STATUS_EXPOSED : Fld := ⟨.GRD_STATUS, 18, 9⟩
abbrev GRD_STATUS_HELD : Fld := ⟨.GRD_STATUS, 27, 9⟩
abbrev GRD_STATUS_DIRECT_ANY : Fld := ⟨.GRD_STATUS, 36, 1⟩
abbrev GRD_STATUS_SPILLING : Fld := ⟨.GRD_STATUS, 37, 1⟩
abbrev GRD_EVENT_SEALED : Fld := ⟨.GRD_EVENT, 0, 1⟩
abbrev GRD_EVENT_ROLLBACK : Fld := ⟨.GRD_EVENT, 1, 1⟩
abbrev GRD_EVENT_MEMBER_LOST : Fld := ⟨.GRD_EVENT, 2, 1⟩
abbrev GRD_EVENT_EXPOSED : Fld := ⟨.GRD_EVENT, 3, 1⟩
abbrev GRD_EVENT_REGENERATED : Fld := ⟨.GRD_EVENT, 4, 1⟩
abbrev GRD_EVENT_RECONSTRUCTED : Fld := ⟨.GRD_EVENT, 5, 1⟩
abbrev GRD_EVENT_HELD : Fld := ⟨.GRD_EVENT, 6, 1⟩
abbrev GRD_EVENT_CHECK_RETRY : Fld := ⟨.GRD_EVENT, 7, 1⟩
abbrev GRD_EVENT_SPILL_EXHAUSTED : Fld := ⟨.GRD_EVENT, 8, 1⟩
abbrev GRD_EVENT_DIRECT_FOLD : Fld := ⟨.GRD_EVENT, 9, 1⟩
abbrev GRD_EVENT_ACK_TIMEOUT : Fld := ⟨.GRD_EVENT, 10, 1⟩
abbrev GRD_EVENT_LANE_LOST : Fld := ⟨.GRD_EVENT, 11, 1⟩
abbrev GRD_EVENT_DISABLED : Fld := ⟨.GRD_EVENT, 12, 1⟩
abbrev GRD_FOLD_NEED_BYTES : Fld := ⟨.GRD_FOLD_NEED, 0, 64⟩
abbrev GRD_FOLD_DIRECT_BYTES : Fld := ⟨.GRD_FOLD_DIRECT, 0, 64⟩
abbrev GRD_SPILL_BYTES : Fld := ⟨.GRD_SPILL, 0, 64⟩
abbrev GRD_COUNT_COUNT : Fld := ⟨.GRD_COUNT, 0, 64⟩
abbrev GRD_GROUP_STATE : Fld := ⟨.GRD_GROUP, 0, 3⟩
abbrev GRD_GROUP_PHASE : Fld := ⟨.GRD_GROUP, 3, 3⟩
abbrev GRD_GROUP_LANES : Fld := ⟨.GRD_GROUP, 6, 2⟩
abbrev GRD_GROUP_DIRECT : Fld := ⟨.GRD_GROUP, 8, 1⟩
abbrev GRD_GROUP_REASON : Fld := ⟨.GRD_GROUP, 12, 4⟩
abbrev GRD_GROUP_LOST : Fld := ⟨.GRD_GROUP, 16, 16⟩
abbrev GRD_GROUP_STEP_RECOVERY : Fld := ⟨.GRD_GROUP_STEP, 0, 48⟩
abbrev GRD_GROUP_PROG_WATERMARK : Fld := ⟨.GRD_GROUP_PROG, 0, 32⟩
abbrev GRD_GROUP_PROG_ENDS : Fld := ⟨.GRD_GROUP_PROG, 32, 16⟩
abbrev GRAPH_CTRL_CMD : Fld := ⟨.GRAPH_CTRL, 0, 4⟩
abbrev GRAPH_ARG_ARG : Fld := ⟨.GRAPH_ARG, 0, 32⟩
abbrev GRAPH_STATUS_RESIDENT : Fld := ⟨.GRAPH_STATUS, 0, 17⟩
abbrev GRAPH_STATUS_RUNNING : Fld := ⟨.GRAPH_STATUS, 17, 17⟩
abbrev GRAPH_STATUS_EXPORT : Fld := ⟨.GRAPH_STATUS, 34, 2⟩
abbrev GRAPH_STATUS_IMPORT : Fld := ⟨.GRAPH_STATUS, 36, 2⟩
abbrev GRAPH_RING_CFG_CAP_LOG2 : Fld := ⟨.GRAPH_RING_CFG, 0, 5⟩
abbrev GRAPH_RING_CFG_EPOCH : Fld := ⟨.GRAPH_RING_CFG, 16, 32⟩
abbrev GRAPH_RING_CFG_JOURNALLED : Fld := ⟨.GRAPH_RING_CFG, 48, 1⟩
abbrev GRAPH_RING_HEAD_HEAD : Fld := ⟨.GRAPH_RING_HEAD, 0, 32⟩
abbrev GRAPH_RING_TAIL_TAIL : Fld := ⟨.GRAPH_RING_TAIL, 0, 32⟩
abbrev GRAPH_RING_RESERVED_RESERVED : Fld := ⟨.GRAPH_RING_RESERVED, 0, 32⟩
abbrev GRAPH_ERR_CODE : Fld := ⟨.GRAPH_ERR, 0, 8⟩
abbrev GRAPH_ERR_INDEX : Fld := ⟨.GRAPH_ERR, 16, 16⟩
abbrev GRAPH_ERR_TAG : Fld := ⟨.GRAPH_ERR, 32, 32⟩
abbrev GRAPH_EVENT_REFUSED : Fld := ⟨.GRAPH_EVENT, 0, 1⟩
abbrev GRAPH_EVENT_POLICY : Fld := ⟨.GRAPH_EVENT, 1, 1⟩
abbrev GRAPH_EVENT_RESTART : Fld := ⟨.GRAPH_EVENT, 2, 1⟩
abbrev GRAPH_EVENT_RING_LOST : Fld := ⟨.GRAPH_EVENT, 3, 1⟩
abbrev GRAPH_EVENT_SCALAR_DISCARD : Fld := ⟨.GRAPH_EVENT, 4, 1⟩
abbrev GRAPH_EVENT_QP_ERROR : Fld := ⟨.GRAPH_EVENT, 5, 1⟩
abbrev GRAPH_EVENT_EXPORT_DISABLED : Fld := ⟨.GRAPH_EVENT, 6, 1⟩
abbrev GRAPH_EVENT_IMPORT_DISABLED : Fld := ⟨.GRAPH_EVENT, 7, 1⟩
abbrev GRAPH_ECN_DEC_SHIFT : Fld := ⟨.GRAPH_ECN, 0, 4⟩
abbrev GRAPH_ECN_INC_PERIOD : Fld := ⟨.GRAPH_ECN, 16, 16⟩
abbrev GRAPH_ECN_INC_STEP : Fld := ⟨.GRAPH_ECN, 32, 32⟩
abbrev GRAPH_ECN_RATE_MIN_RATE : Fld := ⟨.GRAPH_ECN_RATE, 0, 32⟩
abbrev GRAPH_ECN_RATE_MAX_RATE : Fld := ⟨.GRAPH_ECN_RATE, 32, 32⟩
abbrev GRAPH_TASK_SEL_ITEM : Fld := ⟨.GRAPH_TASK_SEL, 0, 32⟩
abbrev GRAPH_TASK_WORD_WORD : Fld := ⟨.GRAPH_TASK_WORD, 0, 64⟩
abbrev GRAPH_COUNT_COUNT : Fld := ⟨.GRAPH_COUNT, 0, 64⟩
abbrev SEN_CTRL_CMD : Fld := ⟨.SEN_CTRL, 0, 4⟩
abbrev SEN_ARG_NODE : Fld := ⟨.SEN_ARG, 0, 32⟩
abbrev SEN_STATUS_RULES : Fld := ⟨.SEN_STATUS, 0, 16⟩
abbrev SEN_STATUS_TENSORS : Fld := ⟨.SEN_STATUS, 16, 16⟩
abbrev SEN_STATUS_SUSPECTS : Fld := ⟨.SEN_STATUS, 32, 9⟩
abbrev SEN_STATUS_HOLDING : Fld := ⟨.SEN_STATUS, 41, 1⟩
abbrev SEN_EVENT_TRIGGER : Fld := ⟨.SEN_EVENT, 0, 1⟩
abbrev SEN_EVENT_HOLD : Fld := ⟨.SEN_EVENT, 1, 1⟩
abbrev SEN_EVENT_SUSPECT : Fld := ⟨.SEN_EVENT, 2, 1⟩
abbrev SEN_EVENT_LATE_HOLD : Fld := ⟨.SEN_EVENT, 3, 1⟩
abbrev SEN_EVENT_INCOMPLETE : Fld := ⟨.SEN_EVENT, 4, 1⟩
abbrev SEN_EVENT_SAMPLE_MISSING : Fld := ⟨.SEN_EVENT, 5, 1⟩
abbrev SEN_EVENT_SUMMARY_MISMATCH : Fld := ⟨.SEN_EVENT, 6, 1⟩
abbrev SEN_EVENT_TAG_MISMATCH : Fld := ⟨.SEN_EVENT, 7, 1⟩
abbrev SEN_HOLD_JOB : Fld := ⟨.SEN_HOLD, 0, 32⟩
abbrev SEN_HOLD_STEP_LOW : Fld := ⟨.SEN_HOLD, 32, 32⟩
abbrev SEN_HOLD_STEP_STEP : Fld := ⟨.SEN_HOLD_STEP, 0, 48⟩
abbrev SEN_SEL_GROUP : Fld := ⟨.SEN_SEL, 0, 8⟩
abbrev SEN_SEL_MEMBER : Fld := ⟨.SEN_SEL, 8, 4⟩
abbrev SEN_SEL_LAST : Fld := ⟨.SEN_SEL, 12, 1⟩
abbrev SEN_SEL_TENSOR : Fld := ⟨.SEN_SEL, 16, 16⟩
abbrev SEN_STAT_WORD : Fld := ⟨.SEN_STAT, 0, 64⟩
abbrev SEN_SUSPECT_MARK : Fld := ⟨.SEN_SUSPECT, 0, 64⟩
abbrev SEN_COUNT_COUNT : Fld := ⟨.SEN_COUNT, 0, 64⟩
abbrev CHK_CTRL_CMD : Fld := ⟨.CHK_CTRL, 0, 4⟩
abbrev CHK_CTRL_CHANNEL : Fld := ⟨.CHK_CTRL, 8, 7⟩
abbrev CHK_STATUS_ATTACHED : Fld := ⟨.CHK_STATUS, 0, 6⟩
abbrev CHK_STATUS_SUSPENDED : Fld := ⟨.CHK_STATUS, 6, 6⟩
abbrev CHK_STATUS_DISABLED : Fld := ⟨.CHK_STATUS, 12, 6⟩
abbrev CHK_STATUS_PROVISIONAL : Fld := ⟨.CHK_STATUS, 18, 14⟩
abbrev CHK_EVENT_MISMATCH : Fld := ⟨.CHK_EVENT, 0, 1⟩
abbrev CHK_EVENT_CHECKVALUE_ONLY : Fld := ⟨.CHK_EVENT, 1, 1⟩
abbrev CHK_EVENT_CHECK_FAILED : Fld := ⟨.CHK_EVENT, 2, 1⟩
abbrev CHK_EVENT_CORRECTED : Fld := ⟨.CHK_EVENT, 3, 1⟩
abbrev CHK_EVENT_TAKEOVER_SUSPEND : Fld := ⟨.CHK_EVENT, 4, 1⟩
abbrev CHK_EVENT_DISABLED : Fld := ⟨.CHK_EVENT, 5, 1⟩
abbrev CHK_COUNT_COUNT : Fld := ⟨.CHK_COUNT, 0, 64⟩
abbrev CHK_CFG_POLY : Fld := ⟨.CHK_CFG, 0, 2⟩
abbrev CHK_CFG_MODE : Fld := ⟨.CHK_CFG, 2, 2⟩
abbrev CHK_CFG_STREAM : Fld := ⟨.CHK_CFG, 4, 1⟩
abbrev CHK_CFG_TAP : Fld := ⟨.CHK_CFG, 8, 4⟩
abbrev CHK_CFG_SELECTOR : Fld := ⟨.CHK_CFG, 16, 32⟩
abbrev CHK_STATE_STATE : Fld := ⟨.CHK_STATE, 0, 3⟩
abbrev CHK_STATE_PROVISIONAL : Fld := ⟨.CHK_STATE, 3, 1⟩
abbrev CHK_STATE_MISMATCHES : Fld := ⟨.CHK_STATE, 16, 32⟩
abbrev CHK_VALUE_VALUE : Fld := ⟨.CHK_VALUE, 0, 64⟩
abbrev CHK_BYTES_BYTES : Fld := ⟨.CHK_BYTES, 0, 64⟩
abbrev CHK_CKPT_VALUE_VALUE : Fld := ⟨.CHK_CKPT_VALUE, 0, 64⟩
abbrev CHK_CKPT_BYTES_BYTES : Fld := ⟨.CHK_CKPT_BYTES, 0, 64⟩
abbrev MBX_CFG_STALL : Fld := ⟨.MBX_CFG, 0, 16⟩
abbrev MBX_EPOCH_EPOCH : Fld := ⟨.MBX_EPOCH, 0, 8⟩
abbrev MBX_EPOCH_TWIN_EPOCH : Fld := ⟨.MBX_EPOCH, 8, 8⟩
abbrev MBX_EPOCH_KEY_EPOCH : Fld := ⟨.MBX_EPOCH, 16, 8⟩
abbrev MBX_HOST_EPOCH_EPOCH : Fld := ⟨.MBX_HOST_EPOCH, 0, 8⟩
abbrev MBX_HIN_FULL_FULL : Fld := ⟨.MBX_HIN_FULL, 0, 32⟩
abbrev MBX_HOUT_FULL_FULL : Fld := ⟨.MBX_HOUT_FULL, 0, 32⟩
abbrev MBX_EVENT_STALL : Fld := ⟨.MBX_EVENT, 0, 1⟩
abbrev MBX_EVENT_FULL_REJECT : Fld := ⟨.MBX_EVENT, 1, 1⟩
abbrev MBX_EVENT_STALE : Fld := ⟨.MBX_EVENT, 2, 1⟩
abbrev MBX_EVENT_UNKNOWN_TYPE : Fld := ⟨.MBX_EVENT, 3, 1⟩
abbrev MBX_EVENT_HOST_RESET : Fld := ⟨.MBX_EVENT, 4, 1⟩
abbrev MBX_EVENT_TWIN_RESET : Fld := ⟨.MBX_EVENT, 5, 1⟩
abbrev MBX_EVENT_AGENT_RESET : Fld := ⟨.MBX_EVENT, 6, 1⟩
abbrev MBX_STALL_PARTY : Fld := ⟨.MBX_STALL, 0, 3⟩
abbrev MBX_STALL_INDEX : Fld := ⟨.MBX_STALL, 8, 5⟩
abbrev MBX_STALL_NODE : Fld := ⟨.MBX_STALL, 16, 32⟩
abbrev MBX_TWIN_IN_FULL : Fld := ⟨.MBX_TWIN, 0, 8⟩
abbrev MBX_TWIN_OUT_FULL : Fld := ⟨.MBX_TWIN, 8, 8⟩
abbrev MBX_KEY_IN_FULL : Fld := ⟨.MBX_KEY, 0, 4⟩
abbrev MBX_KEY_OUT_FULL : Fld := ⟨.MBX_KEY, 4, 4⟩
abbrev MBX_HIN_WORD : Fld := ⟨.MBX_HIN, 0, 64⟩
abbrev MBX_HOUT_WORD : Fld := ⟨.MBX_HOUT, 0, 64⟩
abbrev MBX_RELAY_NODE : Fld := ⟨.MBX_RELAY, 0, 32⟩
abbrev MBX_RELAY_ENABLE : Fld := ⟨.MBX_RELAY, 32, 1⟩
abbrev MBX_COUNT_COUNT : Fld := ⟨.MBX_COUNT, 0, 64⟩
abbrev ETH_CFG_SPEED : Fld := ⟨.ETH_CFG, 0, 1⟩
abbrev ETH_CFG_MACSEC : Fld := ⟨.ETH_CFG, 1, 1⟩
abbrev ETH_CFG_MTU : Fld := ⟨.ETH_CFG, 16, 16⟩
abbrev ETH_CFG_SCP_PORT : Fld := ⟨.ETH_CFG, 32, 16⟩
abbrev ETH_STATUS_LINK : Fld := ⟨.ETH_STATUS, 0, 1⟩
abbrev ETH_STATUS_FALLBACK : Fld := ⟨.ETH_STATUS, 1, 1⟩
abbrev ETH_STATUS_SECURED : Fld := ⟨.ETH_STATUS, 2, 1⟩
abbrev ETH_STATUS_ADMITTED : Fld := ⟨.ETH_STATUS, 3, 1⟩
abbrev ETH_STATUS_SPIRE_ADDR : Fld := ⟨.ETH_STATUS, 4, 1⟩
abbrev ETH_STATUS_SESSIONS : Fld := ⟨.ETH_STATUS, 8, 8⟩
abbrev ETH_STATUS_SUBS : Fld := ⟨.ETH_STATUS, 16, 8⟩
abbrev ETH_STATUS_QPS : Fld := ⟨.ETH_STATUS, 24, 8⟩
abbrev ETH_EVENT_LINK_DOWN : Fld := ⟨.ETH_EVENT, 0, 1⟩
abbrev ETH_EVENT_LINK_UP : Fld := ⟨.ETH_EVENT, 1, 1⟩
abbrev ETH_EVENT_UNPROTECTED : Fld := ⟨.ETH_EVENT, 2, 1⟩
abbrev ETH_EVENT_BUSY : Fld := ⟨.ETH_EVENT, 3, 1⟩
abbrev ETH_EVENT_SUB_EXPIRED : Fld := ⟨.ETH_EVENT, 4, 1⟩
abbrev ETH_EVENT_DISCARD : Fld := ⟨.ETH_EVENT, 5, 1⟩
abbrev ETH_EVENT_FEC_UNCORRECTABLE : Fld := ⟨.ETH_EVENT, 6, 1⟩
abbrev ETH_ADDR_WORD : Fld := ⟨.ETH_ADDR, 0, 64⟩
abbrev ETH_SUB_CLASSES : Fld := ⟨.ETH_SUB, 0, 3⟩
abbrev ETH_SUB_PORT : Fld := ⟨.ETH_SUB, 16, 16⟩
abbrev ETH_SUB_LEFT : Fld := ⟨.ETH_SUB, 32, 32⟩
abbrev ETH_QP_SEL_QP : Fld := ⟨.ETH_QP_SEL, 0, 6⟩
abbrev ETH_QP_WORD_WORD : Fld := ⟨.ETH_QP_WORD, 0, 64⟩
abbrev ETH_COUNT_COUNT : Fld := ⟨.ETH_COUNT, 0, 64⟩
abbrev LANT_CTRL_CMD : Fld := ⟨.LANT_CTRL, 0, 4⟩
abbrev LANT_CTRL_MODE : Fld := ⟨.LANT_CTRL, 4, 2⟩
abbrev LANT_TOD_ARG_VALUE : Fld := ⟨.LANT_TOD_ARG, 0, 64⟩
abbrev LANT_CFG_PPS_IN_EN : Fld := ⟨.LANT_CFG, 0, 1⟩
abbrev LANT_CFG_PPS_OUT_SRC : Fld := ⟨.LANT_CFG, 1, 1⟩
abbrev LANT_CFG_PTP_EN : Fld := ⟨.LANT_CFG, 2, 1⟩
abbrev LANT_CFG_SLEW_PPM : Fld := ⟨.LANT_CFG, 4, 10⟩
abbrev LANT_CFG_PTP_DOMAIN : Fld := ⟨.LANT_CFG, 16, 8⟩
abbrev LANT_CFG_PRIORITY1 : Fld := ⟨.LANT_CFG, 24, 8⟩
abbrev LANT_CFG_PRIORITY2 : Fld := ⟨.LANT_CFG, 32, 8⟩
abbrev LANT_CFG_LOG_SYNC : Fld := ⟨.LANT_CFG, 40, 4⟩
abbrev LANT_CFG_LOG_ANNOUNCE : Fld := ⟨.LANT_CFG, 44, 4⟩
abbrev LANT_STATUS_STATE : Fld := ⟨.LANT_STATUS, 0, 3⟩
abbrev LANT_STATUS_TOD_VALID : Fld := ⟨.LANT_STATUS, 3, 1⟩
abbrev LANT_STATUS_SLEWING : Fld := ⟨.LANT_STATUS, 4, 1⟩
abbrev LANT_STATUS_PPS_IN : Fld := ⟨.LANT_STATUS, 5, 2⟩
abbrev LANT_STATUS_PARENT_TWIN : Fld := ⟨.LANT_STATUS, 7, 1⟩
abbrev LANT_STATUS_PARENT_SPIRE : Fld := ⟨.LANT_STATUS, 8, 7⟩
abbrev LANT_STATUS_DEPTH : Fld := ⟨.LANT_STATUS, 16, 4⟩
abbrev LANT_NOW_NS_NS : Fld := ⟨.LANT_NOW_NS, 0, 64⟩
abbrev LANT_NOW_FRAC_FRAC : Fld := ⟨.LANT_NOW_FRAC, 0, 16⟩
abbrev LANT_NOW_TOD_NS : Fld := ⟨.LANT_NOW_TOD, 0, 64⟩
abbrev LANT_OFFSET_OFFSET : Fld := ⟨.LANT_OFFSET, 0, 64⟩
abbrev LANT_OFFSET_TARGET_TARGET : Fld := ⟨.LANT_OFFSET_TARGET, 0, 64⟩
abbrev LANT_UTC_UTC_OFFSET : Fld := ⟨.LANT_UTC, 0, 16⟩
abbrev LANT_UTC_VALID : Fld := ⟨.LANT_UTC, 16, 1⟩
abbrev LANT_UTC_LEAP61 : Fld := ⟨.LANT_UTC, 17, 1⟩
abbrev LANT_UTC_LEAP59 : Fld := ⟨.LANT_UTC, 18, 1⟩
abbrev LANT_ROUND_BASE_TIME_T_BASE : Fld := ⟨.LANT_ROUND_BASE_TIME, 0, 64⟩
abbrev LANT_PARENT_OFFSET : Fld := ⟨.LANT_PARENT, 0, 32⟩
abbrev LANT_PARENT_DELAY : Fld := ⟨.LANT_PARENT, 32, 32⟩
abbrev LANT_HOLDOVER_SECONDS : Fld := ⟨.LANT_HOLDOVER, 0, 32⟩
abbrev LANT_HOLDOVER_BOUND_NS : Fld := ⟨.LANT_HOLDOVER, 32, 32⟩
abbrev LANT_FLOOR_FLOOR : Fld := ⟨.LANT_FLOOR, 0, 64⟩
abbrev LANT_EVENT_STATE_CHANGE : Fld := ⟨.LANT_EVENT, 0, 1⟩
abbrev LANT_EVENT_HOLDOVER : Fld := ⟨.LANT_EVENT, 1, 1⟩
abbrev LANT_EVENT_FREE : Fld := ⟨.LANT_EVENT, 2, 1⟩
abbrev LANT_EVENT_TIME_CONFLICT : Fld := ⟨.LANT_EVENT, 3, 1⟩
abbrev LANT_EVENT_PPS_IN_LOST : Fld := ⟨.LANT_EVENT, 4, 1⟩
abbrev LANT_EVENT_TOD_SET : Fld := ⟨.LANT_EVENT, 5, 1⟩
abbrev LANT_EVENT_SLEW_DONE : Fld := ⟨.LANT_EVENT, 6, 1⟩
abbrev LANT_EVENT_INTERSPIRE_FAIL : Fld := ⟨.LANT_EVENT, 7, 1⟩
abbrev LANT_COUNT_COUNT : Fld := ⟨.LANT_COUNT, 0, 64⟩
abbrev BELF_CTRL_CMD : Fld := ⟨.BELF_CTRL, 0, 4⟩
abbrev BELF_CFG_INTERVAL : Fld := ⟨.BELF_CFG, 0, 16⟩
abbrev BELF_CFG_REPEAT : Fld := ⟨.BELF_CFG, 16, 16⟩
abbrev BELF_CFG_TRACE_PERIOD : Fld := ⟨.BELF_CFG, 32, 16⟩
abbrev BELF_STATUS_STATE : Fld := ⟨.BELF_STATUS, 0, 3⟩
abbrev BELF_STATUS_FLASH_READABLE : Fld := ⟨.BELF_STATUS, 3, 1⟩
abbrev BELF_STATUS_AUTO_THAWED : Fld := ⟨.BELF_STATUS, 4, 1⟩
abbrev BELF_STATUS_OPEN_CELLS : Fld := ⟨.BELF_STATUS, 8, 20⟩
abbrev BELF_STATUS_QUEUED : Fld := ⟨.BELF_STATUS, 28, 20⟩
abbrev BELF_STAMP_OP_TIME : Fld := ⟨.BELF_STAMP, 0, 48⟩
abbrev BELF_CYCLE_POWER_CYCLES : Fld := ⟨.BELF_CYCLE, 0, 32⟩
abbrev BELF_EVENT_OVERFLOW : Fld := ⟨.BELF_EVENT, 0, 1⟩
abbrev BELF_EVENT_SHED : Fld := ⟨.BELF_EVENT, 1, 1⟩
abbrev BELF_EVENT_FROZEN_FULL : Fld := ⟨.BELF_EVENT, 2, 1⟩
abbrev BELF_EVENT_AUTO_THAW : Fld := ⟨.BELF_EVENT, 3, 1⟩
abbrev BELF_EVENT_SENTINEL : Fld := ⟨.BELF_EVENT, 4, 1⟩
abbrev BELF_EVENT_UNCLEAN_START : Fld := ⟨.BELF_EVENT, 5, 1⟩
abbrev BELF_EVENT_VOTE_CORRECTED : Fld := ⟨.BELF_EVENT, 6, 1⟩
abbrev BELF_FREEZE_START : Fld := ⟨.BELF_FREEZE, 0, 48⟩
abbrev BELF_USED_SLOTS : Fld := ⟨.BELF_USED, 0, 25⟩
abbrev BELF_SHARE_ALARM : Fld := ⟨.BELF_SHARE, 0, 13⟩
abbrev BELF_SHARE_EXPORT : Fld := ⟨.BELF_SHARE, 16, 13⟩
abbrev BELF_SHARE_TRACE : Fld := ⟨.BELF_SHARE, 32, 13⟩
abbrev BELF_ETH_BUDGET_RATE : Fld := ⟨.BELF_ETH_BUDGET, 0, 64⟩
abbrev BELF_TRACE_BLOCKS : Fld := ⟨.BELF_TRACE, 0, 18⟩
abbrev BELF_TRACE_AGENTS : Fld := ⟨.BELF_TRACE, 18, 1⟩
abbrev BELF_READ_SEL_WINDOW : Fld := ⟨.BELF_READ_SEL, 0, 18⟩
abbrev BELF_OVERFLOW_RECORDS : Fld := ⟨.BELF_OVERFLOW, 0, 32⟩
abbrev BELF_OVERFLOW_LAST_SOURCE : Fld := ⟨.BELF_OVERFLOW, 32, 16⟩
abbrev BELF_SHED_COUNT : Fld := ⟨.BELF_SHED, 0, 64⟩
abbrev BELF_SENT_WORD : Fld := ⟨.BELF_SENT, 0, 64⟩
abbrev BELF_ALARM_LATCHED : Fld := ⟨.BELF_ALARM, 0, 1⟩
abbrev BELF_ALARM_ALARM : Fld := ⟨.BELF_ALARM, 1, 1⟩
abbrev BELF_ALARM_SEV : Fld := ⟨.BELF_ALARM, 2, 3⟩
abbrev BELF_ALARM_COUNT : Fld := ⟨.BELF_ALARM, 8, 24⟩
abbrev BELF_ALARM_FIRST : Fld := ⟨.BELF_ALARM, 32, 32⟩
abbrev BELF_READ_WORD_WORD : Fld := ⟨.BELF_READ_WORD, 0, 64⟩
abbrev KEY_CTRL_CMD : Fld := ⟨.KEY_CTRL, 0, 4⟩
abbrev KEY_CFG_RING_WAIT : Fld := ⟨.KEY_CFG, 0, 16⟩
abbrev KEY_STATUS_CONFIDENTIAL : Fld := ⟨.KEY_STATUS, 0, 1⟩
abbrev KEY_STATUS_DEBUG_LOCKED : Fld := ⟨.KEY_STATUS, 1, 1⟩
abbrev KEY_STATUS_DEBUG_TAINT : Fld := ⟨.KEY_STATUS, 2, 1⟩
abbrev KEY_STATUS_TENANT_BOUND : Fld := ⟨.KEY_STATUS, 3, 1⟩
abbrev KEY_STATUS_ATTEST_STATE : Fld := ⟨.KEY_STATUS, 4, 3⟩
abbrev KEY_STATUS_REMOVE_STEP : Fld := ⟨.KEY_STATUS, 7, 4⟩
abbrev KEY_STATUS_ENTROPY_OK : Fld := ⟨.KEY_STATUS, 11, 1⟩
abbrev KEY_STATUS_ENROLLED : Fld := ⟨.KEY_STATUS, 16, 4⟩
abbrev KEY_TENANT_TAG : Fld := ⟨.KEY_TENANT, 0, 32⟩
abbrev KEY_TENANT_EPOCH : Fld := ⟨.KEY_TENANT, 32, 32⟩
abbrev KEY_EVENT_ENROLLED : Fld := ⟨.KEY_EVENT, 0, 1⟩
abbrev KEY_EVENT_ENROL_REFUSED : Fld := ⟨.KEY_EVENT, 1, 1⟩
abbrev KEY_EVENT_ADMITTED : Fld := ⟨.KEY_EVENT, 2, 1⟩
abbrev KEY_EVENT_ADMISSION_FAILED : Fld := ⟨.KEY_EVENT, 3, 1⟩
abbrev KEY_EVENT_REMOVAL_DONE : Fld := ⟨.KEY_EVENT, 4, 1⟩
abbrev KEY_EVENT_KEY_LATE : Fld := ⟨.KEY_EVENT, 5, 1⟩
abbrev KEY_EVENT_REKEY_STALL : Fld := ⟨.KEY_EVENT, 6, 1⟩
abbrev KEY_EVENT_DEBUG_TAINT : Fld := ⟨.KEY_EVENT, 7, 1⟩
abbrev KEY_EVENT_ENTROPY_FAIL : Fld := ⟨.KEY_EVENT, 8, 1⟩
abbrev KEY_REMOVE_START : Fld := ⟨.KEY_REMOVE, 0, 48⟩
abbrev KEY_REMOVE_DISCARDED : Fld := ⟨.KEY_REMOVE, 48, 16⟩
abbrev KEY_MEM_GENERATION : Fld := ⟨.KEY_MEM, 0, 32⟩
abbrev KEY_MEM_SCRUB_GIB : Fld := ⟨.KEY_MEM, 32, 13⟩
abbrev KEY_MEM_SCRUBBING : Fld := ⟨.KEY_MEM, 45, 1⟩
abbrev KEY_SPAN_MASK : Fld := ⟨.KEY_SPAN, 0, 64⟩
abbrev KEY_ENROL_STAGE_WORD : Fld := ⟨.KEY_ENROL_STAGE, 0, 64⟩
abbrev KEY_SLOT_INFO_KIND : Fld := ⟨.KEY_SLOT_INFO, 0, 2⟩
abbrev KEY_SLOT_INFO_AGREE : Fld := ⟨.KEY_SLOT_INFO, 8, 1⟩
abbrev KEY_SLOT_INFO_TENANT : Fld := ⟨.KEY_SLOT_INFO, 32, 32⟩
abbrev KEY_SLOT_SEQ_SEQUENCE : Fld := ⟨.KEY_SLOT_SEQ, 0, 64⟩
abbrev KEY_SLOT_DIGEST_WORD : Fld := ⟨.KEY_SLOT_DIGEST, 0, 64⟩
abbrev KEY_COUNT_COUNT : Fld := ⟨.KEY_COUNT, 0, 64⟩
abbrev TWIN_CTRL_CMD : Fld := ⟨.TWIN_CTRL, 0, 4⟩
abbrev TWIN_CTRL_HARD : Fld := ⟨.TWIN_CTRL, 4, 1⟩
abbrev TWIN_CFG_AUTO_RETURN : Fld := ⟨.TWIN_CFG, 0, 1⟩
abbrev TWIN_CFG_RETURN_DELAY : Fld := ⟨.TWIN_CFG, 16, 16⟩
abbrev TWIN_CFG_DRILL_ROUNDS : Fld := ⟨.TWIN_CFG, 32, 32⟩
abbrev TWIN_STATUS_STATE : Fld := ⟨.TWIN_STATUS, 0, 3⟩
abbrev TWIN_STATUS_PARTNER_STATE : Fld := ⟨.TWIN_STATUS, 3, 3⟩
abbrev TWIN_STATUS_LETTER : Fld := ⟨.TWIN_STATUS, 6, 1⟩
abbrev TWIN_STATUS_PARTNER_SEEN : Fld := ⟨.TWIN_STATUS, 7, 1⟩
abbrev TWIN_STATUS_MIRROR_LEVEL : Fld := ⟨.TWIN_STATUS, 8, 4⟩
abbrev TWIN_STATUS_PARTNER_LEVEL : Fld := ⟨.TWIN_STATUS, 12, 4⟩
abbrev TWIN_STATUS_TWIN_PORTS : Fld := ⟨.TWIN_STATUS, 16, 4⟩
abbrev TWIN_STATUS_HANDOVER : Fld := ⟨.TWIN_STATUS, 20, 1⟩
abbrev TWIN_STATUS_SWITCH_PENDING : Fld := ⟨.TWIN_STATUS, 21, 1⟩
abbrev TWIN_STATUS_DRILL : Fld := ⟨.TWIN_STATUS, 22, 1⟩
abbrev TWIN_STATUS_CLAIM_EPOCH : Fld := ⟨.TWIN_STATUS, 32, 32⟩
abbrev TWIN_EVENT_TAKEOVER : Fld := ⟨.TWIN_EVENT, 0, 1⟩
abbrev TWIN_EVENT_RETURNED : Fld := ⟨.TWIN_EVENT, 1, 1⟩
abbrev TWIN_EVENT_MISMATCH : Fld := ⟨.TWIN_EVENT, 2, 1⟩
abbrev TWIN_EVENT_UNATTRIBUTED : Fld := ⟨.TWIN_EVENT, 3, 1⟩
abbrev TWIN_EVENT_SELFTEST_FAIL : Fld := ⟨.TWIN_EVENT, 4, 1⟩
abbrev TWIN_EVENT_MIRROR_LOSS : Fld := ⟨.TWIN_EVENT, 5, 1⟩
abbrev TWIN_EVENT_SYNCED : Fld := ⟨.TWIN_EVENT, 6, 1⟩
abbrev TWIN_EVENT_LEVEL_MISMATCH : Fld := ⟨.TWIN_EVENT, 7, 1⟩
abbrev TWIN_EVENT_CLAIM_DENIED : Fld := ⟨.TWIN_EVENT, 8, 1⟩
abbrev TWIN_EVENT_YIELDED : Fld := ⟨.TWIN_EVENT, 9, 1⟩
abbrev TWIN_EVENT_SWITCH_REFUSED : Fld := ⟨.TWIN_EVENT, 10, 1⟩
abbrev TWIN_EVENT_DRILL_DONE : Fld := ⟨.TWIN_EVENT, 11, 1⟩
abbrev TWIN_EVENT_DRILL_FAILED : Fld := ⟨.TWIN_EVENT, 12, 1⟩
abbrev TWIN_EVENT_FEED_CHANGE : Fld := ⟨.TWIN_EVENT, 13, 1⟩
abbrev TWIN_EVENT_CAPTURE_LOST : Fld := ⟨.TWIN_EVENT, 14, 1⟩
abbrev TWIN_CMP_ROUND : Fld := ⟨.TWIN_CMP, 0, 48⟩
abbrev TWIN_CMP_AGREE : Fld := ⟨.TWIN_CMP, 48, 1⟩
abbrev TWIN_DIGEST_DIGEST : Fld := ⟨.TWIN_DIGEST, 0, 64⟩
abbrev TWIN_HANDOVER_COPIED_MIB : Fld := ⟨.TWIN_HANDOVER, 0, 44⟩
abbrev TWIN_HANDOVER_DIRTY : Fld := ⟨.TWIN_HANDOVER, 44, 20⟩
abbrev TWIN_FEED_MV : Fld := ⟨.TWIN_FEED, 0, 17⟩
abbrev TWIN_FEED_MA : Fld := ⟨.TWIN_FEED, 32, 16⟩
abbrev TWIN_FEED_STATE : Fld := ⟨.TWIN_FEED, 48, 2⟩
abbrev TWIN_CAP_INFO_ROUND : Fld := ⟨.TWIN_CAP_INFO, 0, 48⟩
abbrev TWIN_CAP_INFO_VALID : Fld := ⟨.TWIN_CAP_INFO, 48, 1⟩
abbrev TWIN_CAP_INFO_OVERFLOW : Fld := ⟨.TWIN_CAP_INFO, 49, 1⟩
abbrev TWIN_CAP_SEL_CAPTURE : Fld := ⟨.TWIN_CAP_SEL, 0, 2⟩
abbrev TWIN_CAP_SEL_WINDOW : Fld := ⟨.TWIN_CAP_SEL, 8, 14⟩
abbrev TWIN_COUNT_COUNT : Fld := ⟨.TWIN_COUNT, 0, 64⟩
abbrev TWIN_CAP_WORD_WORD : Fld := ⟨.TWIN_CAP_WORD, 0, 64⟩
abbrev AG_ID_ID : Fld := ⟨.AG_ID, 0, 64⟩
abbrev AG_IDENT_KIND : Fld := ⟨.AG_IDENT, 0, 2⟩
abbrev AG_IDENT_LEVEL : Fld := ⟨.AG_IDENT, 4, 4⟩
abbrev AG_IDENT_PORTS : Fld := ⟨.AG_IDENT, 8, 5⟩
abbrev AG_IDENT_KEY_PROG : Fld := ⟨.AG_IDENT, 16, 1⟩
abbrev AG_IDENT_RELAY_KIB : Fld := ⟨.AG_IDENT, 32, 16⟩
abbrev AG_IDENT_IMPLEMENTER : Fld := ⟨.AG_IDENT, 48, 16⟩
abbrev AG_CENSUS_USABLE : Fld := ⟨.AG_CENSUS, 0, 32⟩
abbrev AG_CENSUS_DESIGNED : Fld := ⟨.AG_CENSUS, 32, 32⟩
abbrev AG_NODE_NODE : Fld := ⟨.AG_NODE, 0, 32⟩
abbrev AG_NODE_EPOCH : Fld := ⟨.AG_NODE, 32, 32⟩
abbrev AG_STATUS_COMPUTE_UP : Fld := ⟨.AG_STATUS, 0, 1⟩
abbrev AG_STATUS_COMPUTE_RESET : Fld := ⟨.AG_STATUS, 1, 1⟩
abbrev AG_STATUS_WATCHDOG : Fld := ⟨.AG_STATUS, 2, 1⟩
abbrev AG_STATUS_COARSE : Fld := ⟨.AG_STATUS, 3, 1⟩
abbrev AG_STATUS_ROUND_CODE : Fld := ⟨.AG_STATUS, 4, 4⟩
abbrev AG_STATUS_PORTS_UP : Fld := ⟨.AG_STATUS, 16, 16⟩
abbrev AG_STATUS_QUIESCED : Fld := ⟨.AG_STATUS, 32, 16⟩
abbrev AG_EVENT_UNKNOWN_FLOW : Fld := ⟨.AG_EVENT, 0, 1⟩
abbrev AG_EVENT_RELAY_OVERFLOW : Fld := ⟨.AG_EVENT, 1, 1⟩
abbrev AG_EVENT_DRAIN_EXCEEDED : Fld := ⟨.AG_EVENT, 2, 1⟩
abbrev AG_EVENT_ISOLATION : Fld := ⟨.AG_EVENT, 3, 1⟩
abbrev AG_EVENT_TAG_FAIL : Fld := ⟨.AG_EVENT, 4, 1⟩
abbrev AG_EVENT_KEY_REFUSED : Fld := ⟨.AG_EVENT, 5, 1⟩
abbrev AG_EVENT_REKEY_STALL : Fld := ⟨.AG_EVENT, 6, 1⟩
abbrev AG_EVENT_STALE_WORD : Fld := ⟨.AG_EVENT, 7, 1⟩
abbrev AG_EVENT_REFUSED : Fld := ⟨.AG_EVENT, 8, 1⟩
abbrev AG_EVENT_ENTRY_RETIRED : Fld := ⟨.AG_EVENT, 9, 1⟩
abbrev AG_FAULT_CAUSE : Fld := ⟨.AG_FAULT, 0, 8⟩
abbrev AG_FAULT_PORT : Fld := ⟨.AG_FAULT, 8, 8⟩
abbrev AG_FAULT_FLOW : Fld := ⟨.AG_FAULT, 16, 16⟩
abbrev AG_FAULT_CUPOLA : Fld := ⟨.AG_FAULT, 32, 16⟩
abbrev AG_FAULT_COUNT : Fld := ⟨.AG_FAULT, 48, 16⟩
abbrev AG_CTRL_CMD : Fld := ⟨.AG_CTRL, 0, 4⟩
abbrev AG_CTRL_FLOW : Fld := ⟨.AG_CTRL, 16, 16⟩
abbrev AG_CFG_COARSE : Fld := ⟨.AG_CFG, 0, 1⟩
abbrev AG_TREE_UPLINK : Fld := ⟨.AG_TREE, 0, 4⟩
abbrev AG_TREE_UP_VALID : Fld := ⟨.AG_TREE, 4, 1⟩
abbrev AG_TREE_DOWN : Fld := ⟨.AG_TREE, 16, 16⟩
abbrev AG_TREE_VARLOR_FACING : Fld := ⟨.AG_TREE, 32, 16⟩
abbrev AG_ALLOW_ALARM : Fld := ⟨.AG_ALLOW, 0, 20⟩
abbrev AG_ALLOW_EXPORT : Fld := ⟨.AG_ALLOW, 20, 20⟩
abbrev AG_ALLOW_TRACE : Fld := ⟨.AG_ALLOW, 40, 20⟩
abbrev AG_EPOCH_ELEMENT : Fld := ⟨.AG_EPOCH, 0, 8⟩
abbrev AG_EPOCH_MANAGER : Fld := ⟨.AG_EPOCH, 8, 8⟩
abbrev AG_MBX_FULL_IN_FULL : Fld := ⟨.AG_MBX_FULL, 0, 2⟩
abbrev AG_MBX_FULL_OUT_FULL : Fld := ⟨.AG_MBX_FULL, 8, 2⟩
abbrev AG_MBX_FULL_QUEUED : Fld := ⟨.AG_MBX_FULL, 16, 8⟩
abbrev AG_MBX_IN_WORD : Fld := ⟨.AG_MBX_IN, 0, 64⟩
abbrev AG_MBX_OUT_WORD : Fld := ⟨.AG_MBX_OUT, 0, 64⟩
abbrev AG_INSTALL_STATE : Fld := ⟨.AG_INSTALL, 0, 3⟩
abbrev AG_INSTALL_REFUSAL : Fld := ⟨.AG_INSTALL, 4, 3⟩
abbrev AG_INSTALL_KIND : Fld := ⟨.AG_INSTALL, 8, 2⟩
abbrev AG_INSTALL_TABLE : Fld := ⟨.AG_INSTALL, 16, 8⟩
abbrev AG_INSTALL_SEGMENTS : Fld := ⟨.AG_INSTALL, 24, 8⟩
abbrev AG_INSTALL_INSTALL_ID : Fld := ⟨.AG_INSTALL, 32, 16⟩
abbrev AG_ACT_ROUND_ROUND : Fld := ⟨.AG_ACT_ROUND, 0, 48⟩
abbrev AG_INSTALL_MAP_MAP : Fld := ⟨.AG_INSTALL_MAP, 0, 64⟩
abbrev AG_MANAGER_VALID : Fld := ⟨.AG_MANAGER, 0, 1⟩
abbrev AG_MANAGER_LETTER : Fld := ⟨.AG_MANAGER, 1, 1⟩
abbrev AG_MANAGER_PORT : Fld := ⟨.AG_MANAGER, 4, 4⟩
abbrev AG_MANAGER_RELEASED : Fld := ⟨.AG_MANAGER, 8, 1⟩
abbrev AG_MANAGER_CLAIM_EPOCH : Fld := ⟨.AG_MANAGER, 32, 32⟩
abbrev AG_LANT_STATE : Fld := ⟨.AG_LANT, 0, 3⟩
abbrev AG_LANT_PARENT_PORT : Fld := ⟨.AG_LANT, 4, 4⟩
abbrev AG_LANT_DEPTH : Fld := ⟨.AG_LANT, 8, 4⟩
abbrev AG_LANT_HOLDOVER : Fld := ⟨.AG_LANT, 12, 8⟩
abbrev AG_LANT_OFFSET : Fld := ⟨.AG_LANT, 32, 16⟩
abbrev AG_LANT_DELAY : Fld := ⟨.AG_LANT, 48, 16⟩
abbrev AG_COUNT_COUNT : Fld := ⟨.AG_COUNT, 0, 64⟩
abbrev AG_PORT_STATE : Fld := ⟨.AG_PORT, 0, 3⟩
abbrev AG_PORT_LEVEL : Fld := ⟨.AG_PORT, 4, 4⟩
abbrev AG_PORT_FAR_PORT : Fld := ⟨.AG_PORT, 8, 8⟩
abbrev AG_PORT_FAR_KIND : Fld := ⟨.AG_PORT, 16, 4⟩
abbrev AG_PORT_INTERSPIRE : Fld := ⟨.AG_PORT, 20, 1⟩
abbrev AG_PORT_BEACON_ERR : Fld := ⟨.AG_PORT, 32, 16⟩
abbrev AG_PORT_SHIFT : Fld := ⟨.AG_PORT, 48, 10⟩
abbrev AG_PORT_CFG_DARK : Fld := ⟨.AG_PORT_CFG, 0, 1⟩
abbrev AG_PORT_CFG_KEYED : Fld := ⟨.AG_PORT_CFG, 1, 1⟩
abbrev AG_PORT_CFG_FORCE_REKEY : Fld := ⟨.AG_PORT_CFG, 2, 1⟩
abbrev AG_PORT_CFG_REKEY_EXP : Fld := ⟨.AG_PORT_CFG, 8, 6⟩
abbrev AG_PORT_FAR_ID : Fld := ⟨.AG_PORT_FAR, 0, 64⟩
abbrev AG_FILTER_ROUND : Fld := ⟨.AG_FILTER, 0, 48⟩
abbrev AG_FILTER_CUPOLA : Fld := ⟨.AG_FILTER, 48, 16⟩
abbrev AG_KEY_WRITE_WORD : Fld := ⟨.AG_KEY_WRITE, 0, 64⟩
abbrev AG_KEY_INFO_LOADED : Fld := ⟨.AG_KEY_INFO, 0, 1⟩
abbrev AG_KEY_INFO_CUPOLA : Fld := ⟨.AG_KEY_INFO, 16, 16⟩
abbrev AG_KEY_INFO_EPOCH : Fld := ⟨.AG_KEY_INFO, 32, 32⟩
abbrev AG_TBL_SEL_TABLE : Fld := ⟨.AG_TBL_SEL, 0, 8⟩
abbrev AG_TBL_SEL_BANK : Fld := ⟨.AG_TBL_SEL, 8, 1⟩
abbrev AG_TBL_SEL_PAGE : Fld := ⟨.AG_TBL_SEL, 16, 16⟩
abbrev AG_TBL_WORD_WORD : Fld := ⟨.AG_TBL_WORD, 0, 64⟩
abbrev PWR_CTRL_CMD : Fld := ⟨.PWR_CTRL, 0, 4⟩
abbrev PWR_CTRL_FORCE : Fld := ⟨.PWR_CTRL, 4, 1⟩
abbrev PWR_CTRL_FULL_TEST : Fld := ⟨.PWR_CTRL, 5, 1⟩
abbrev PWR_CTRL_CHANNEL : Fld := ⟨.PWR_CTRL, 16, 8⟩
abbrev PWR_CFG_MEMTEST : Fld := ⟨.PWR_CFG, 0, 2⟩
abbrev PWR_CFG_FULL_PERIOD : Fld := ⟨.PWR_CFG, 8, 8⟩
abbrev PWR_CFG_RESET_WAIT : Fld := ⟨.PWR_CFG, 16, 32⟩
abbrev PWR_SITE_SPIRE : Fld := ⟨.PWR_SITE, 0, 7⟩
abbrev PWR_STATUS_STAGE : Fld := ⟨.PWR_STATUS, 0, 4⟩
abbrev PWR_STATUS_STAGE_FAIL : Fld := ⟨.PWR_STATUS, 4, 1⟩
abbrev PWR_STATUS_RESET : Fld := ⟨.PWR_STATUS, 5, 3⟩
abbrev PWR_STATUS_CEILING : Fld := ⟨.PWR_STATUS, 8, 2⟩
abbrev PWR_STATUS_DEFICIT : Fld := ⟨.PWR_STATUS, 10, 1⟩
abbrev PWR_STATUS_LAST_FULL : Fld := ⟨.PWR_STATUS, 11, 1⟩
abbrev PWR_STATUS_CORE_MV : Fld := ⟨.PWR_STATUS, 16, 10⟩
abbrev PWR_STATUS_TJ_MAX : Fld := ⟨.PWR_STATUS, 32, 12⟩
abbrev PWR_EVENT_DEFICIT : Fld := ⟨.PWR_EVENT, 0, 1⟩
abbrev PWR_EVENT_STAGE_FAIL : Fld := ⟨.PWR_EVENT, 1, 1⟩
abbrev PWR_EVENT_RESET_REFUSED : Fld := ⟨.PWR_EVENT, 2, 1⟩
abbrev PWR_EVENT_SERVICE_RESET : Fld := ⟨.PWR_EVENT, 3, 1⟩
abbrev PWR_EVENT_FW_VERIFIED : Fld := ⟨.PWR_EVENT, 4, 1⟩
abbrev PWR_EVENT_FW_REFUSED : Fld := ⟨.PWR_EVENT, 5, 1⟩
abbrev PWR_EVENT_FW_COMMITTED : Fld := ⟨.PWR_EVENT, 6, 1⟩
abbrev PWR_EVENT_FW_FALLBACK : Fld := ⟨.PWR_EVENT, 7, 1⟩
abbrev PWR_EVENT_LIC_INSTALLED : Fld := ⟨.PWR_EVENT, 8, 1⟩
abbrev PWR_EVENT_LIC_REFUSED : Fld := ⟨.PWR_EVENT, 9, 1⟩
abbrev PWR_EVENT_SRAM_RETIRED : Fld := ⟨.PWR_EVENT, 10, 1⟩
abbrev PWR_EVENT_GF_RETIRED : Fld := ⟨.PWR_EVENT, 11, 1⟩
abbrev PWR_EVENT_PACKAGE_RETIRED : Fld := ⟨.PWR_EVENT, 12, 1⟩
abbrev PWR_STAGE_MS_MS : Fld := ⟨.PWR_STAGE_MS, 0, 32⟩
abbrev PWR_RAIL_MV : Fld := ⟨.PWR_RAIL, 0, 16⟩
abbrev PWR_RAIL_MA : Fld := ⟨.PWR_RAIL, 16, 32⟩
abbrev PWR_RAIL_STATE : Fld := ⟨.PWR_RAIL, 48, 2⟩
abbrev PWR_PACE_ACHIEVED : Fld := ⟨.PWR_PACE, 0, 16⟩
abbrev PWR_PACE_DEFICIT : Fld := ⟨.PWR_PACE, 16, 1⟩
abbrev PWR_PACE_DEFICITS : Fld := ⟨.PWR_PACE, 32, 32⟩
abbrev PWR_STAGE_SEL_TARGET : Fld := ⟨.PWR_STAGE_SEL, 0, 2⟩
abbrev PWR_STAGE_SEL_OFFSET : Fld := ⟨.PWR_STAGE_SEL, 8, 24⟩
abbrev PWR_FW_STATUS_STATE : Fld := ⟨.PWR_FW_STATUS, 0, 3⟩
abbrev PWR_FW_STATUS_ERR : Fld := ⟨.PWR_FW_STATUS, 4, 4⟩
abbrev PWR_FW_STATUS_LENGTH_KIB : Fld := ⟨.PWR_FW_STATUS, 32, 32⟩
abbrev PWR_LIC_STATUS_ERR : Fld := ⟨.PWR_LIC_STATUS, 0, 4⟩
abbrev PWR_LIC_STATUS_COUNT : Fld := ⟨.PWR_LIC_STATUS, 4, 5⟩
abbrev PWR_STAGE_DATA_WORD : Fld := ⟨.PWR_STAGE_DATA, 0, 64⟩
abbrev IDENT_ID_ID : Fld := ⟨.IDENT_ID, 0, 64⟩
abbrev IDENT_PART_PART : Fld := ⟨.IDENT_PART, 0, 16⟩
abbrev IDENT_PART_STEPPING : Fld := ⟨.IDENT_PART, 16, 8⟩
abbrev IDENT_PART_MODULE_REV : Fld := ⟨.IDENT_PART, 24, 8⟩
abbrev IDENT_PART_LETTER : Fld := ⟨.IDENT_PART, 32, 1⟩
abbrev IDENT_PART_SLOT_ID : Fld := ⟨.IDENT_PART, 33, 6⟩
abbrev IDENT_SITE_INSTALLATION : Fld := ⟨.IDENT_SITE, 0, 32⟩
abbrev IDENT_SITE_SPIRE : Fld := ⟨.IDENT_SITE, 32, 7⟩
abbrev IDENT_SITE_SPIRE_SET : Fld := ⟨.IDENT_SITE, 39, 1⟩
abbrev IDENT_LIC_CODE : Fld := ⟨.IDENT_LIC, 0, 2⟩
abbrev IDENT_LIC_FEATURES : Fld := ⟨.IDENT_LIC, 2, 6⟩
abbrev IDENT_LIC_AGENTS : Fld := ⟨.IDENT_LIC, 8, 10⟩
abbrev IDENT_LIC_PORTS : Fld := ⟨.IDENT_LIC, 18, 6⟩
abbrev IDENT_LIC_PAIR_FEATURES : Fld := ⟨.IDENT_LIC, 24, 6⟩
abbrev IDENT_LIC_SEQUENCE : Fld := ⟨.IDENT_LIC, 32, 32⟩
abbrev IDENT_FW_SLOT : Fld := ⟨.IDENT_FW, 0, 1⟩
abbrev IDENT_FW_COMMITTED : Fld := ⟨.IDENT_FW, 1, 1⟩
abbrev IDENT_FW_OTHER_VALID : Fld := ⟨.IDENT_FW, 2, 1⟩
abbrev IDENT_FW_MIRROR_LEVEL : Fld := ⟨.IDENT_FW, 8, 8⟩
abbrev IDENT_FW_SECURITY : Fld := ⟨.IDENT_FW, 16, 16⟩
abbrev IDENT_FW_VERSION : Fld := ⟨.IDENT_FW, 32, 32⟩
abbrev IDENT_INTERNAL_BANKS : Fld := ⟨.IDENT_INTERNAL, 0, 7⟩
abbrev IDENT_INTERNAL_BANK_SPARES : Fld := ⟨.IDENT_INTERNAL, 7, 4⟩
abbrev IDENT_INTERNAL_GF_LANES : Fld := ⟨.IDENT_INTERNAL, 11, 7⟩
abbrev IDENT_INTERNAL_GF_SPARES : Fld := ⟨.IDENT_INTERNAL, 18, 4⟩
abbrev IDENT_INTERNAL_PACKAGES : Fld := ⟨.IDENT_INTERNAL, 22, 7⟩
abbrev PORT_CTRL_CMD : Fld := ⟨.PORT_CTRL, 0, 4⟩
abbrev PORT_CTRL_FORCE : Fld := ⟨.PORT_CTRL, 4, 1⟩
abbrev PORT_CTRL_PORT : Fld := ⟨.PORT_CTRL, 8, 6⟩
abbrev PORT_EVENT_RETRAINED : Fld := ⟨.PORT_EVENT, 0, 1⟩
abbrev PORT_EVENT_FAILED : Fld := ⟨.PORT_EVENT, 1, 1⟩
abbrev PORT_EVENT_DISABLED : Fld := ⟨.PORT_EVENT, 2, 1⟩
abbrev PORT_EVENT_ENABLED : Fld := ⟨.PORT_EVENT, 3, 1⟩
abbrev PORT_STATUS_STATE : Fld := ⟨.PORT_STATUS, 0, 3⟩
abbrev PORT_STATUS_ROLE : Fld := ⟨.PORT_STATUS, 3, 2⟩
abbrev PORT_STATUS_LANES : Fld := ⟨.PORT_STATUS, 5, 8⟩
abbrev PORT_STATUS_RETRAINS : Fld := ⟨.PORT_STATUS, 16, 4⟩
abbrev PORT_STATUS_FEC_UNCORR : Fld := ⟨.PORT_STATUS, 32, 32⟩

end F

end Sys2Proof.Machine
end

