-- ==== Sys2Proof/Machine/Store.lean ====
section
/-! DEFINITION. The two sparse stores of the state, each a list in one canonical form: keys strictly rising, and no
entry equal to what an unlisted key reads as. `RegMap` holds the register words (an unlisted register reads as its reset
word); `Host.Cell` lists hold bytes (an unlisted byte has not been written). -/
namespace Sys2Proof.Machine

/-- The place of a register word: the register's number, the agent's local node (or the queue pair, for ETH_QP_WORD;
0 otherwise) and the array index. -/
structure Key where
  r : Nat
  node : Nat
  idx : Nat
  deriving DecidableEq, Repr

/-- Keys in lexicographic order. -/
def Key.lt (a b : Key) : Bool :=
  a.r < b.r || (a.r == b.r && (a.node < b.node || (a.node == b.node && a.idx < b.idx)))

/-- The key of element `idx` of register `r` in the window of `node`. -/
def keyOf (r : Reg) (node idx : Nat) : Key := ⟨r.ctorIdx, node, idx⟩

/-- Register words by key. -/
abbrev RegMap := List (Key × Word)

/-- The listed word of a key. -/
def RegMap.find : RegMap → Key → Option Word
  | [], _ => none
  | (k, w) :: m, x => if k = x then some w else RegMap.find m x

/-- The map without a key. -/
def RegMap.erase (m : RegMap) (x : Key) : RegMap := m.filter (fun e => decide (e.1 ≠ x))

/-- The map with a key at a word, in key order. -/
def RegMap.insert : RegMap → Key → Word → RegMap
  | [], x, v => [(x, v)]
  | (k, w) :: m, x, v =>
    if k = x then (x, v) :: m
    else if x.lt k then (x, v) :: (k, w) :: m
    else (k, w) :: RegMap.insert m x v

/-- Write a word: the entry goes when the word is the one an unlisted key reads as. -/
def RegMap.put (m : RegMap) (x : Key) (dflt v : Word) : RegMap :=
  if v = dflt then m.erase x else m.insert x v

/-- The keys rise strictly. -/
def RegMap.sorted : RegMap → Bool
  | [] => true
  | [_] => true
  | (a, _) :: (b, w) :: m => a.lt b && RegMap.sorted ((b, w) :: m)

/-- Bytes of a region, by offset. -/
abbrev ByteMap := List Host.Cell

/-- The byte at an offset, `none` where nothing has been written. -/
def ByteMap.find : ByteMap → Nat → Option Byte
  | [], _ => none
  | (k, b) :: m, x => if k = x then some b else ByteMap.find m x

/-- Write one byte. -/
def ByteMap.put : ByteMap → Nat → Byte → ByteMap
  | [], x, v => [(x, v)]
  | (k, b) :: m, x, v =>
    if k = x then (x, v) :: m
    else if x < k then (x, v) :: (k, b) :: m
    else (k, b) :: ByteMap.put m x v

/-- Write bytes from an offset upward. -/
def ByteMap.write (m : ByteMap) (off : Nat) : Bytes → ByteMap
  | [] => m
  | b :: bs => ByteMap.write (m.put off b) (off + 1) bs

/-- The offsets rise strictly. -/
def ByteMap.wf : ByteMap → Bool
  | [] => true
  | [_] => true
  | (a, _) :: (b, v) :: m => decide (a < b) && ByteMap.wf ((b, v) :: m)

end Sys2Proof.Machine
end

