-- ==== Sys2Proof/Machine/Units.lean ====
section
/-! DEFINITION. The units of the block as plain data: the private state of each unit that the spec's rules give the machine
beside its registers, the agents, answers and what is sent. -/
namespace Sys2Proof.Machine

-- Answers and what leaves the block

/-- The answer to the last host request (R268, R269): status of Table 10.4, detail, words or bytes returned. -/
structure Answer where
  sess : Nat
  tag : Nat
  status : Nat
  detail : Nat
  /-- Argument A of the response. -/
  a : Nat
  /-- Argument B of the response. -/
  b : Nat
  words : List Word
  bytes : Bytes
  deriving DecidableEq, Repr

/-- The kinds of things that leave the block or an agent. -/
inductive Sent where
  | event | alarm | serviceRequest | response
  | beacon | probe | probeReply | heartbeat | notice | segment | manifest | receiptFrame | activateFrame
  | failBroadcast | access | data | deliveryReceipt | fateReport | idle
  | agentWord | hostWord | twinWord | keyWord
  | mirror | claim | grant | release | timeWord
  | guardItem | laneAck | laneBlock | laneAcc | laneRequest | laneLoss | foldedReport | sealRecord | jobRollback | memberLoss
  | installReport | scalarAcc | scalarResult | record | rdma | barrier | table
  | telemetry | ptp | advertisement | reset | computeReset | pin | keySlot | relayed | rotation | carried
  deriving DecidableEq, Repr

/-- One thing sent: what, to or from which node (or port, or party), with its fields and payload. -/
structure Emit where
  kind : Sent
  a : Nat
  b : Nat
  data : List Nat
  bytes : Bytes
  deriving DecidableEq, Repr

-- The plan image, as verification reads it (chapter 2)

/-- PORTS entry (Table 2.5). -/
structure PortRole where
  role : Nat
  far : Nat
  deriving DecidableEq, Repr

/-- RATES entry (Table 2.8). -/
structure RateRec where
  engine : Nat
  fallback : Nat
  param : Nat
  value : Nat
  deriving DecidableEq, Repr

/-- Element record (Table 2.10); `node` is the logical node number. -/
structure ElemRec where
  node : Nat
  kind : Nat
  minLevel : Nat
  row : Nat
  col : Nat
  flags : Nat
  ports : Nat
  expectedId : Nat
  deriving DecidableEq, Repr

/-- Link record (Table 2.11). -/
structure LinkRec where
  a : Nat
  b : Nat
  pa : Nat
  pb : Nat
  bkind : Nat
  cls : Nat
  deriving DecidableEq, Repr

/-- Per-agent block of SCHEDULE (Table 2.12): the slot entries of each port. -/
structure SchedBlock where
  node : Nat
  ports : List (List Nat)
  deriving DecidableEq, Repr

/-- Per-agent block of FLOWS (Table 2.12). -/
structure FlowBlock where
  node : Nat
  entries : List Nat
  deriving DecidableEq, Repr

/-- Cupola template record (Table 2.13). -/
structure TplRec where
  id : Nat
  mode : Nat
  flags : Nat
  rows : Nat
  cols : Nat
  minRows : Nat
  rekey : Nat
  rotation : Nat
  limit : Nat
  alarmShare : Nat
  exportShare : Nat
  traceShare : Nat
  alarmEth : Nat
  exportEth : Nat
  traceEth : Nat
  deriving DecidableEq, Repr

/-- Guard group record (Table 2.14). -/
structure GuardRec where
  gid : Nat
  k : Nat
  m : Nat
  modes : Nat
  tpl : Nat
  altK : Nat
  altM : Nat
  shard : Nat
  base : Nat
  region : Nat
  lanes : List Nat
  members : List Nat
  deriving DecidableEq, Repr

/-- Repair variant (Table 2.16 with its deltas, Table 2.21). -/
structure Variant where
  failed : Nat
  kind : Nat
  l2p : List Nat
  slots : List SlotDelta
  flows : List FlowDelta
  deriving DecidableEq, Repr

/-- Peer record of INSTALL (Table 2.17). -/
structure PeerRec where
  spire : Nat
  localOp : Nat
  remoteOp : Nat
  deriving DecidableEq, Repr

/-- Lending-in record of INSTALL (Table 2.17). -/
structure LendRec where
  spire : Nat
  group : Nat
  lane : Nat
  size : Nat
  deriving DecidableEq, Repr

/-- Tensor record (Table 8.4). -/
structure TensorRec where
  group : Nat
  member : Nat
  tensor : Nat
  fmt : Nat
  flags : Nat
  offset : Nat
  count : Nat
  deriving DecidableEq, Repr

/-- Rule record (Table 8.5). -/
structure RuleRec where
  set : Nat
  metric : Nat
  action : Nat
  group : Nat
  tensor : Nat
  threshold : Nat
  deriving DecidableEq, Repr

/-- The tables that Varlor installs into agents: slot maps, flow tables and the common L2P table. -/
structure Tables where
  code : Nat
  epoch : Nat
  sched : List SchedBlock
  flows : List FlowBlock
  l2p : List Nat
  deriving DecidableEq, Repr

/-- A plan image that has passed verification, by section. -/
structure Plan where
  planId : Nat
  flags : Nat
  digest : List Nat
  ports : List PortRole
  fold : Nat
  graph : Nat
  sentinel : Nat
  stage : Nat
  tasks : Nat
  journal : Nat
  exportStage : Nat
  recon : Nat
  margin : Nat
  ceiling : Nat
  rates : List RateRec
  elements : List ElemRec
  links : List LinkRec
  tables : Tables
  templates : List TplRec
  guard : List GuardRec
  policy : Nat
  rowCut : Nat
  minActive : Nat
  minRows : Nat
  minCols : Nat
  wraps : Nat
  minEdges : Nat
  twinRequired : Nat
  variants : List Variant
  spires : Nat
  coordinator : Nat
  peers : List PeerRec
  lends : List LendRec
  tensors : List TensorRec
  rules : List RuleRec
  deriving DecidableEq, Repr

/-- The plan store (R61 to R69, R114). -/
structure PlanStore where
  /-- The bytes written into the staged slot. -/
  bytes : ByteMap
  /-- The length that LOAD_BEGIN took from PLAN_LOAD_LEN. -/
  len : Nat
  /-- The staged image once it is ADMITTED. -/
  staged : Option Plan
  /-- The current plan. -/
  cur : Option Plan
  /-- The earlier epoch that held cupolas run under (R112, R114). -/
  earlier : Option Plan
  /-- Earlier plans under which resident tasks finish (Table 1.5). -/
  old : List Plan
  /-- The round in which the staged image was verified, until the comparison of that round shows whether both results are
  equal (R62, R364). -/
  verified : Option Nat
  /-- No plan has become current since the cold start or full reset (R69). -/
  firstPlan : Bool
  deriving DecidableEq, Repr

-- Discovery (chapter 3)

/-- A probe on its way: its route, how often it was sent, and the round of the last sending (R74). -/
structure ProbeOut where
  route : List Nat
  tries : Nat
  sent : Nat
  /-- The element ID by which it was first seen. -/
  id : Nat
  deriving DecidableEq, Repr

/-- An observed element: its identity from beacon or reply, the route of first sight, and its port records. -/
structure Observed where
  id : Nat
  kind : Nat
  level : Nat
  route : List Nat
  replied : Bool
  epoch : Nat
  bound : Nat
  usable : Nat
  designed : Nat
  computeReset : Bool
  ports : List PortRec
  deriving DecidableEq, Repr

/-- An observed link between two ends, each an element ID and a port; `opA` ends are Varlor ports. -/
structure ObsLink where
  idA : Nat
  portA : Nat
  idB : Nat
  portB : Nat
  deriving DecidableEq, Repr

/-- An anomaly of DISC_ANOM before it is written out (Table 3.3). -/
structure Anomaly where
  nodeA : Nat
  nodeB : Nat
  cls : Nat
  portA : Nat
  portB : Nat
  extra : Nat
  deriving DecidableEq, Repr

/-- An extra element of DISC_EXTRA: where it was seen (node and port) and what it is. -/
structure ExtraElem where
  node : Nat
  port : Nat
  farPort : Nat
  kind : Nat
  id : Nat
  deriving DecidableEq, Repr

/-- Discovery (R70 to R88). -/
structure Disc where
  /-- Last beacon on each of Varlor's own ports. -/
  beacons : List (Nat × Beacon)
  /-- Round in which SETTLING was entered, and the round of the last trained-port change. -/
  entered : Nat
  quietSince : Nat
  probes : List ProbeOut
  observed : List Observed
  /-- (position local node, element ID) of every placed element. -/
  placed : List (Nat × Nat)
  /-- Element IDs seen twice (R80). -/
  duplicates : List Nat
  anomalies : List Anomaly
  extras : List ExtraElem
  /-- Positions, ports (node, port) held dark by class. -/
  dark : List (Nat × Nat)
  /-- Changes queued during a walk (R88): element ID, 0 while it has no place, local node and port. -/
  changes : List (Nat × Nat × Nat)
  /-- Positions that matching leaves unserved, for the re-solve of R84. -/
  unserved : List Nat
  /-- Element IDs that are probed for their census alone (R83). -/
  censusOnly : List Nat
  /-- Element IDs that answered no probe of this walk (R74). -/
  givenUp : List Nat
  /-- By own port: beacons that were ignored, the round of the last valid beacon or of training, and the ports that are reported
  as link up, identity unknown (R72). -/
  beaconErr : List (Nat × Nat)
  heardOwn : List (Nat × Nat)
  unknown : List Nat
  deriving DecidableEq, Repr

-- Installs (chapter 4)

/-- What one agent still lacks of the install in progress. -/
structure Lack where
  node : Nat
  missing : List Nat
  deriving DecidableEq, Repr

/-- The install in progress (R105 to R117). -/
structure Install where
  id : Nat
  /-- 0 plan, 1 repair, 2 completion, 3 single-agent. -/
  kind : Nat
  /-- First send round p. -/
  first : Nat
  /-- Round in which the present phase ends. -/
  phaseEnd : Nat
  /-- Phase lengths H, S and E (R107). -/
  h : Nat
  s : Nat
  e : Nat
  /-- Local nodes of the agents in the install. -/
  targets : List Nat
  lacks : List Lack
  tables : Tables
  /-- Cupolas that the install returns to ACTIVE (repair) or releases (completion). -/
  cupolas : List Nat
  /-- A planned repair: its cupolas stay ACTIVE (R148). -/
  planned : Bool
  /-- Fence list and hold set that the commit point decided. -/
  fenced : List Nat
  held : List Nat
  /-- The commit point sent DISCARD (R117). -/
  discarded : Bool
  /-- Variant kind for the log, 5 re-solve. -/
  action : Nat
  deriving DecidableEq, Repr

/-- Bell schedule and installs. -/
structure Bell where
  /-- The tables in force at Varlor: the current plan's with the repairs installed since. -/
  tables : Option Tables
  /-- The tables that held cupolas still run on (R112). -/
  heldTables : Option Tables
  install : Option Install
  /-- Nodes marked by FENCE_NODE (R114). -/
  fenceMarks : List Nat
  /-- (flow, round from which it is stopped, round at which it is drained) (R101). -/
  quiesced : List (Nat × Nat × Nat)
  /-- Activation rounds that spires reported for an installation-wide activation: (spire, prepared, held). -/
  peerReports : List (Nat × Bool × List Nat)
  /-- Agents that a single-agent install waits for. -/
  single : List Nat
  /-- The round in which Varlor, as a source, last started an item of a flow (R100). -/
  started : List (Nat × Nat)
  /-- A completion install is due in the round after A (R114). -/
  completionDue : Bool
  /-- The round A of the last activation, and its agents that were PREPARED (R110). -/
  recentAt : Nat
  recent : List Nat
  deriving DecidableEq, Repr

-- Cupolas and repair (chapter 5)

/-- A carve in progress (R121, R125). -/
structure Carve where
  cupola : Nat
  job : Nat
  nonce : Nat
  accepted : Nat
  /-- Round q, once it has started. -/
  start : Option Nat
  /-- The carve round. -/
  round : Nat
  /-- Agents written and confirmations still wanted. -/
  nodes : List Nat
  unconfirmed : List Nat
  failed : Bool
  deriving DecidableEq, Repr

/-- A retirement in progress (R124). -/
structure Retire where
  cupola : Nat
  accepted : Nat
  /-- Largest drain bound among its flows. -/
  bound : Nat
  /-- The retire round. -/
  round : Nat
  stopped : Bool
  drained : Bool
  cleared : Bool
  deriving DecidableEq, Repr

/-- The cupola engine. -/
structure Cup where
  carves : List Carve
  retires : List Retire
  /-- Filter entries that Varlor holds: (cupola, node, index). -/
  filters : List (Nat × Nat × Nat)
  /-- The span mask that each cupola was last carved with (R337). -/
  spans : List (Nat × Nat)
  deriving DecidableEq, Repr

/-- A suspect or classified failure: the element (local node), the port or 255, the cause, d and the class. -/
structure Failure where
  node : Nat
  port : Nat
  cause : Nat
  d : Nat
  cls : Nat
  /-- Its record in REP_LOG. -/
  log : Nat
  deriving DecidableEq, Repr

/-- What the repair engine has chosen to install: the repaired tables, the action for the log (variant kind, 5 re-solve,
6 shrink), the cupolas that it serves, those that shrink, whether it is a planned repair (R148), the failures that it
serves, and the row that it cuts. -/
structure Repair where
  tables : Tables
  action : Nat
  cupolas : List Nat
  shrunk : List Nat
  planned : Bool
  faults : List Failure
  rowCut : Option Nat
  deriving DecidableEq, Repr

/-- Failure detection and the repair engine. -/
structure Rep where
  /-- Local nodes whose heartbeat arrived in the present round, and those that sent in the round before. -/
  heard : List Nat
  heardBefore : List Nat
  /-- (node, active epoch, ports up, install state) of the last heartbeats. -/
  beats : List (Nat × Nat × Nat × Nat)
  /-- Notices of the present round not yet turned into suspects: (node, port, cause). -/
  notices : List (Nat × Nat × Nat)
  suspects : List Failure
  /-- Failures classified and waiting for a batch. -/
  queued : List Failure
  /-- The batch in progress. -/
  batch : List Failure
  /-- Elements (local nodes) and links (node, port) that have failed and not returned. -/
  failedNodes : List Nat
  failedLinks : List (Nat × Nat)
  /-- Elements whose classification waits for a rebuilt tree (R131). -/
  deferred : List Failure
  /-- Nodes that FAIL_NODE classifies at the end of the round. -/
  declared : List Nat
  /-- (node, port, rounds of its PORT_DOWN notices) (R132). -/
  flaps : List (Nat × Nat × List Nat)
  flapHeld : List (Nat × Nat)
  /-- Rows cut, spares standing in: (position, spare). -/
  rowsCut : List Nat
  standIns : List (Nat × Nat)
  /-- Cupolas whose own GUARD layout is to be reinstalled (R177). -/
  restores : List Nat
  /-- Re-solve batch was enlarged while it ran (Table 5.6). -/
  enlarged : Bool
  /-- The repair to be installed, or being installed. -/
  chosen : Option Repair
  /-- A re-solved repair that waits until a variant installed meanwhile has activated (Table 5.6). -/
  waiting : Option Repair
  /-- The element of a RESET_FULL that waits for its planned repair. -/
  resetNode : Option Nat
  /-- The re-solve in progress is that reset's (R148). -/
  resolvingReset : Bool
  /-- The element whose granted full reset has not ended yet (R148, R149). -/
  grantedReset : Option Nat
  /-- Failed elements whose link domain still forwards: compute failures (R130). -/
  computeFailed : List Nat
  /-- A re-solve of the UNBUILT and JOB_HELD cupolas is due (R146). -/
  retryDue : Bool
  /-- The round whose heartbeats are compared with the binding, as notices of their differences (R368, R425). -/
  reread : Option Nat
  deriving DecidableEq, Repr

-- Agents (chapters 15 and 16)

/-- A flow-table entry of an agent with its two membership bits (R397). -/
structure FlowEntry where
  word : Nat
  active : Bool
  shadow : Bool
  deriving DecidableEq, Repr

/-- The banked tables of an agent. -/
structure Bank where
  l2p : List Nat
  slots : List (List Nat)
  deriving DecidableEq, Repr

/-- A frame waiting in an agent for an egress slot. -/
structure Queued where
  port : Nat
  flow : Nat
  cupola : Nat
  frame : DataFrame
  /-- Round in which it was queued. -/
  since : Nat
  /-- Forwarded for another element, against the relay buffer of its ingress port. -/
  relay : Bool
  ingress : Nat
  deriving DecidableEq, Repr

/-- An item that the agent's element sources. -/
structure SourceItem where
  flow : Nat
  cupola : Nat
  tag : Nat
  /-- Last round in which the final frame may leave. -/
  window : Nat
  started : Nat
  left : Bool
  deriving DecidableEq, Repr

/-- An item being received. -/
structure SinkItem where
  flow : Nat
  cupola : Nat
  source : Nat
  tag : Nat
  got : List Nat
  last : Option Nat
  /-- The last round of the item's window (R96). -/
  window : Nat
  deriving DecidableEq, Repr

/-- What an agent knows of a key slot beyond AG_KEY_INFO: the switch round and the round of a pending promotion. -/
structure KeySlot where
  slot : Nat
  switchRound : Nat
  promoteAt : Option Nat
  deriving DecidableEq, Repr

/-- A key-slot write on its way to an agent (R401): the words of its payload before the last, and the key to which its
ciphertext opens under the agent's transport key; `none` where the tag fails. -/
structure KeyFrame where
  words : List (Nat × Word)
  key : Option Bytes
  deriving DecidableEq, Repr

/-- The key in an agent's key slot, and the fabric time in ns at which it becomes active (R335). -/
structure LoadedKey where
  slot : Nat
  key : Bytes
  since : Nat
  deriving DecidableEq, Repr

/-- A management frame that waits at an agent (Table 4.3): its egress port (0xFF: up the install tree), its place in the service
order, its length, and, where it is forwarded, the ingress port over which it came. -/
structure MgmtFrame where
  port : Nat
  order : Nat
  bytes : Nat
  relay : Option Nat
  out : Emit
  deriving DecidableEq, Repr

/-- One agent beyond its registers, by local node (its window, R46). -/
structure Agent where
  node : Nat
  active : Bank
  shadow : Bank
  flows : List FlowEntry
  manifest : Option ManifestP
  segments : List (Nat × Bytes)
  hold : List Nat
  fence : List Nat
  queue : List Queued
  sources : List SourceItem
  sinks : List SinkItem
  /-- Quiesced flows: (flow, first round, round from which it runs again) (R101). -/
  quiesced : List (Nat × Nat × Option Nat)
  /-- Filter writes that take effect at the next round boundary: (index, word, round of the write) (R400). -/
  filterNext : List (Nat × Word × Nat)
  /-- AG_ALLOW and AG_TREE as they will be from the next round boundary (R408). -/
  allowNext : Option Word
  treeNext : Option Word
  /-- Management frames of the agent's own, and those it forwards, that wait for a slot (R70, R93). -/
  mgmt : List MgmtFrame
  /-- The round in which this agent, as a source, last started an item of a flow (R100). -/
  started : List (Nat × Nat)
  /-- Fault notices waiting: (cause, port, flow, cupola, count, round), and those sent this round (cause, port). -/
  notices : List (Nat × Nat × Nat × Nat × Nat × Nat)
  noticed : List (Nat × Nat)
  /-- Key-slot writes on their way to the agent, oldest first (R401), and the counter of the last one accepted. -/
  keyFrames : List KeyFrame
  keyCounter : Nat
  keys : List KeySlot
  /-- The keys in the key slots, and the counter of the next frame by key slot and egress port (R335). -/
  loaded : List LoadedKey
  counters : List (Nat × Nat × Nat)
  /-- Frames protected by transmit-current keys, by port, and the last counter accepted, by port. -/
  txCount : List (Nat × Nat)
  rxCounter : List (Nat × Nat)
  /-- Words in the inbound mailboxes, the originated queue and the pending words. -/
  inWords : List (Nat × Word)
  originated : List Word
  pendingReset : Option Word
  pendingRekey : List (Nat × Word)
  /-- Granted compute reset outstanding. -/
  granted : Bool
  /-- A full reset granted for the next round boundary. -/
  fullAt : Option Nat
  /-- Cupolas retired lately: (cupola, round) (R353). -/
  late : List (Nat × Nat)
  /-- Alarm and trace frames ready: (class, round). -/
  telemetry : List (Nat × Nat)
  /-- Plan epoch and bound node of the last far beacon, by port: (port, epoch, node). -/
  seen : List (Nat × Nat × Nat)
  /-- Round of the last valid beacon, or of training, by port. -/
  heard : List (Nat × Nat)
  /-- Beacon errors at the last probe reply, by port (Table 3.2). -/
  errSeen : List (Nat × Nat)
  /-- Sequence of the next time word, by port, and fabric time of the last valid one from the parent. -/
  timeSeq : List (Nat × Nat)
  lastTime : Nat
  /-- Round of the last grant (R359). -/
  grantRound : Option Nat
  deriving DecidableEq, Repr

-- The belfry (chapter 12)

/-- An open cell (R306). -/
structure Cell where
  source : Nat
  inst : Nat
  sev : Nat
  opened : Nat
  first : Nat
  last : Nat
  count : Nat
  saturated : Bool
  vmin : Int
  vmax : Int
  sum : Int
  bins : List Nat
  deriving DecidableEq, Repr

/-- A record or telemetry entry (Table 12.1), its body as bytes. -/
structure Record where
  rtype : Nat
  sev : Nat
  flags : Nat
  source : Nat
  unit : Nat
  inst : Nat
  cycle : Nat
  op : Nat
  ft : Nat
  first : Nat
  last : Nat
  count : Nat
  body : Bytes
  deriving DecidableEq, Repr

/-- An overflow aggregate in staging (R313). -/
structure Aggregate where
  records : Nat
  events : Nat
  lastSource : Nat
  first : Nat
  last : Nat
  changed : Bool
  deriving DecidableEq, Repr

/-- An extremes cell of the belfry sentinel (R320) is two of its registers; a register is three copies (R319). -/
structure Voted where
  c0 : Word
  c1 : Word
  c2 : Word
  deriving DecidableEq, Repr

/-- A telemetry entry queued for a subscription, with the round in which it became ready. -/
structure TelEntry where
  entry : Record
  ready : Nat
  deriving DecidableEq, Repr

/-- A telemetry subscription (R274, R275, R326): tokens are in byte × 10^-9 units. -/
structure Subscr where
  slot : Nat
  sess : Nat
  seqs : List Nat
  tokens : List Nat
  q0 : List TelEntry
  q1 : List TelEntry
  q2 : List TelEntry
  deriving DecidableEq, Repr

/-- The belfry beyond its registers. -/
structure Belf where
  cells : List Cell
  queue : List Record
  staged : List Record
  /-- Records folded to overflow while frozen, and the records staged in this freeze. -/
  frozenFolded : Nat
  frozenStaged : Nat
  flash : List (Nat × Record)
  aggregates : List Aggregate
  /-- Operating time last written to flash (R308). -/
  opFlash : Nat
  /-- Slots on which the last flash writes failed in turn. -/
  badSlots : List Nat
  window : List (Nat × Record)
  sentinel : List Voted
  /-- (source, COUNT at its last ALARM or REPEAT entry). -/
  announced : List (Nat × Nat)
  shedSeen : List Nat
  /-- (agent, class, count last read) (R325). -/
  agentShed : List (Nat × Nat × Nat)
  prevClean : Bool
  prevOp : Nat
  subs : List Subscr
  deriving DecidableEq, Repr

-- The host attachment (chapter 10)

/-- A cached response (R270). -/
structure Cached where
  tag : Nat
  round : Nat
  answer : Answer
  deriving DecidableEq, Repr

/-- A request carried to an agent or another spire and not yet answered (R271). -/
structure Remote where
  tag : Nat
  addr : Nat
  count : Nat
  write : Bool
  sent : Nat
  /-- Another spire: 16 rounds instead of 8. -/
  far : Bool
  deriving DecidableEq, Repr

/-- A graph being assembled from fragments (R268). -/
structure Assembly where
  total : Nat
  bytes : Bytes
  deriving DecidableEq, Repr

/-- The requests that the protocol carries (Table 10.3, R345). -/
inductive ScpOp where
  | read | write | post | fetch | segment | submit | ring | subscribe | attest | ids | hello | report | finish
  deriving DecidableEq, Repr

/-- A request as it was received: its header, and its payload as words or as bytes. -/
structure Req where
  op : ScpOp
  h : ScpHdr
  words : List Word
  bytes : Bytes
  deriving DecidableEq, Repr

/-- A session (R270): its last request's round, retry cache, the access that it waits for, the requests that came after
that one, and the graph that it assembles. -/
structure Session where
  id : Nat
  last : Nat
  cache : List Cached
  remote : Option Remote
  queue : List Req
  assembly : Option Assembly
  deriving DecidableEq, Repr

/-- An admission handshake in progress (R345). -/
structure Handshake where
  sess : Nat
  started : Nat
  hostKey : Bytes
  share : Bytes
  serverHello : Bytes
  fragments : Bytes
  deriving DecidableEq, Repr

/-- An operation on a queue pair (R215): its last PSN, the resident index and sub-item that it serves, its kind (0 WRITE,
1 READ, 2 SEND), remote key and address, length, place in the output or package, data, and whether it has been sent. -/
structure RdmaOp where
  qp : Nat
  psn : Nat
  idx : Nat
  sub : Nat
  kind : Nat
  rkey : Nat
  addr : Nat
  len : Nat
  off : Nat
  /-- Its bytes count as bytes done (not the SEND, nor the check value of R254). -/
  counts : Bool
  data : Bytes
  issued : Bool
  deriving DecidableEq, Repr

/-- The Ethernet port beyond its registers. -/
structure Eth where
  sessions : List Session
  /-- Handshakes in progress, one for each session (R345). -/
  handshakes : List Handshake
  /-- Operations on the queue pairs, and operations of tasks that wait for their in-flight limit. -/
  ops : List RdmaOp
  waiting : List RdmaOp
  /-- (QP, retries made) while an operation is retried. -/
  retries : List (Nat × Nat)
  paused : Bool
  /-- Counters as confidential mode shows them, and the millisecond of fabric time at which they were latched (Table 13.7). -/
  latched : RegMap
  latchedMs : Nat
  deriving DecidableEq, Repr

-- Mailboxes (chapter 10)

/-- A word that Varlor has posted and that has not been taken: party 1 host, 2 twin, 3 keystone, 4 agent; node; index;
round of posting; already recorded as stalled; the NOTIFY item it serves (`none` for other words). -/
structure Posted where
  party : Nat
  node : Nat
  idx : Nat
  word : Word
  round : Nat
  stalled : Bool
  item : Option Nat
  deriving DecidableEq, Repr

/-- A word waiting in firmware for its mailbox to clear (R279). -/
structure Waiting where
  party : Nat
  node : Nat
  idx : Nat
  word : Word
  item : Option Nat
  deriving DecidableEq, Repr

/-- Mailbox state beyond the registers. -/
structure Mbx where
  hin : List (Nat × Word)
  twinIn : List (Nat × Word)
  keyIn : List (Nat × Word)
  posted : List Posted
  waiting : List Waiting
  /-- Kind and previous epoch of Varlor's last reset (R284), and the agents to which its RESET_NOTICE has been posted since they
  were bound, together with the write of AG_EPOCH.MANAGER (R284, R406). -/
  lastKind : Nat
  lastPrev : Nat
  told : List Nat
  deriving DecidableEq, Repr

-- The guardian (chapter 6)

/-- One lane's accumulation or parity block: `block` is the XOR sum so far, by byte. -/
structure LaneBuf where
  lane : Nat
  block : Bytes
  deriving DecidableEq, Repr

/-- A region in progress (R161): fold buffers of every lane, the undo accumulator, the members whose contribution is
complete, and what the finished region still waits for. -/
structure RegionBuf where
  region : Nat
  bufs : List LaneBuf
  undo : Bytes
  complete : Bool
  spilled : Bool
  /-- Local read-modify-writes finished. -/
  written : Bool
  /-- Lent lanes whose peer has not acknowledged, keepers that have not confirmed. -/
  lentWait : List Nat
  keeperWait : List Nat
  deriving DecidableEq, Repr

/-- A held item whose payload check failed (R160, R261): the item, its resends so far. -/
structure HeldItem where
  item : GItem
  resends : Nat
  deriving DecidableEq, Repr

/-- A guardian word outstanding (R169): type, member index, payload, round of first posting. -/
structure OutWord where
  type : Nat
  member : Nat
  payload : Nat
  since : Nat
  timedOut : Bool
  deriving DecidableEq, Repr

/-- A stored parity block (R151). -/
structure ParityBlock where
  lane : Nat
  region : Nat
  block : Bytes
  deriving DecidableEq, Repr

/-- A guard group beyond its registers. `job` and `cupola` are those it is bound for. -/
structure Group where
  gid : Nat
  rcd : GuardRec
  bound : Bool
  job : Nat
  cupola : Nat
  /-- Lanes current, by number. -/
  current : List Nat
  /-- Parity blocks; those of a lent lane are what this Varlor has sent to the peer (R184). -/
  parity : List ParityBlock
  regions : List RegionBuf
  /-- (member, DELTA items received), (member, end of its last DELTA item), (member, count of its END). -/
  items : List (Nat × Nat)
  progress : List (Nat × Nat)
  ends : List (Nat × Nat)
  /-- (member, tensor) of the SAMPLE items received for the step. -/
  samples : List (Nat × Nat)
  held : List HeldItem
  words : List OutWord
  /-- The count W of a rollback fold in progress, whether its words have been posted, the members whose END closed the
  resend, and the UNDO items still wanted from each keeper. -/
  rollW : Option Nat
  rollStarted : Bool
  rollEnds : List Nat
  undoWant : List (Nat × Nat)
  /-- Undo copies X_r: (region, bytes). -/
  undoCopies : List (Nat × Bytes)
  /-- SHARD items gathered for reconstruction, regeneration or export, and the members whose END closed them. -/
  shards : List GItem
  shardEnds : List Nat
  /-- Delta bytes folded in the step. -/
  bytes : Nat
  /-- Payload checks of the step that were classified as corrupted check values (R262). -/
  checkOnly : Nat
  /-- R248: the round in which the wait for statistics ends. -/
  statsWait : Option Nat
  /-- Set 0 has been evaluated for the FOLDED step, and asked for a hold (R245). -/
  evaluated : Bool
  hold : Bool
  /-- RESUME is withheld (R247). -/
  resumeHeld : Bool
  /-- Round in which a disable was accepted, and the state that the group left with it (R160, R187). -/
  disableAt : Option Nat
  before : Nat
  /-- The step with whose seal or rollback a disabled group's members get RELEASE (R187). -/
  releaseDue : Option Nat
  /-- The FOLD of the step has ended otherwise than DONE: the step cannot seal, and nothing more of it is sent (R186, R198). -/
  stopped : Bool
  /-- Regenerated blocks (lane, region) that their peers have not acknowledged (R184). -/
  lentDue : List (Nat × Nat)
  /-- The record that a plan activation gives the group, until what runs under the earlier one has ended (R188). -/
  next : Option GuardRec
  /-- The plan epoch in which the first item of the step in progress came (Table 1.5). -/
  epoch : Nat
  deriving DecidableEq, Repr

/-- A FOLDED report at the deciding Varlor (R167). -/
structure Report where
  spire : Nat
  job : Nat
  step : Nat
  groups : List Nat
  hold : Bool
  deriving DecidableEq, Repr

/-- A seal decided (R167, R168). -/
structure Seal where
  job : Nat
  step : Nat
  written : Bool
  deriving DecidableEq, Repr

/-- A lane that this Varlor keeps for a peer (lending-in, R53, R184). -/
structure LentIn where
  spire : Nat
  group : Nat
  lane : Nat
  region : Nat
  block : Bytes
  deriving DecidableEq, Repr

/-- The guardian. -/
structure Grd where
  groups : List Group
  reports : List Report
  seals : List Seal
  lentIn : List LentIn
  staged : List (Nat × Nat × Bytes)
  /-- Groups waiting for direct fold at their next QUIET phase (R164). -/
  directPending : List Nat
  journal : List (Nat × Nat × Nat)
  /-- Groups whose missing lanes Varlor regenerates by itself (R183, R184). -/
  regen : List Nat
  /-- Groups whose lost shards Varlor rebuilds into RECON_STAGE by itself (R145). -/
  stageDue : List Nat
  deriving DecidableEq, Repr

-- Graphs (chapter 7)

/-- A sub-item in flight (R189). -/
structure SubItem where
  seq : Nat
  /-- 0 a guardian item for an element, 1 QP operation, 2 undo copy, 3 accumulation of a lent lane, 4 table segment. -/
  kind : Nat
  /-- The element it goes to, the queue pair, or the peer spire. -/
  node : Nat
  len : Nat
  done : Bool
  /-- What it carries: the member or lane, and the region or segment. -/
  part : Nat
  region : Nat
  deriving DecidableEq, Repr

/-- A resident task: its descriptor and its progress. -/
structure Task where
  idx : Nat
  desc : Bytes
  tag : Nat
  job : Nat
  base : Nat
  /-- The plan epoch under which it was admitted (Table 1.5). -/
  epoch : Nat
  /-- Graph-local index, and the resident indices of its predecessors. -/
  localIdx : Nat
  preds : List Nat
  metPreds : List Nat
  forward : Bool
  /-- Table 7.6. -/
  state : Nat
  /-- Status and detail to end with while STOPPING. -/
  cause : Option (Nat × Nat)
  /-- End of the drain while STOPPING. -/
  stopBy : Nat
  nextSeq : Nat
  subs : List SubItem
  started : Nat
  bytesDone : Nat
  checkOnly : Nat
  results : List Nat
  flags : Nat
  /-- Extended window from a fallback, 0 none. -/
  extra : Nat
  reserved : Nat
  /-- Seed in use and first-write time for an EXPORT manifest; channel claimed. -/
  seed : Nat
  firstWrite : Nat
  channel : Option Nat
  out : Nat
  deriving DecidableEq, Repr

/-- A scalar contribution held for a task (R212), or an accumulator from a spire (R211). -/
structure Contribution where
  cupola : Nat
  tag : Nat
  node : Nat
  op : Nat
  isInt : Bool
  values : List Nat
  deriving DecidableEq, Repr

/-- A completion record (Table 7.7). -/
structure Completion where
  item : Nat
  status : Nat
  detail : Nat
  time : Nat
  bytesDone : Nat
  seq : Nat
  kind : Nat
  spire : Nat
  flags : Nat
  epoch : Nat
  deriving DecidableEq, Repr

/-- A table broadcast in progress: members and the segments each still lacks (R223). -/
structure Broadcast where
  idx : Nat
  tag : Nat
  segments : Nat
  lacks : List Lack
  pass : Nat
  deriving DecidableEq, Repr

/-- A request to disable a function (R209): function code, index, round accepted, b. -/
structure Disable where
  function : Nat
  index : Nat
  accepted : Nat
  bound : Nat
  stopped : Bool
  drained : Bool
  deriving DecidableEq, Repr

/-- A guardian item that a task is to send: a sub-item once its in-flight limit allows it (R189). -/
structure OutItem where
  idx : Nat
  /-- The kind of its sub-item, and the item type (Table 6.5); member index, or lane; the local node, or the peer spire. -/
  kind : Nat
  type : Nat
  member : Nat
  node : Nat
  group : Nat
  step : Nat
  /-- The region, or the segment; the offset within the shard, or the place within the table. -/
  region : Nat
  offset : Nat
  payload : Bytes
  deriving DecidableEq, Repr

/-- The graph engine. -/
structure Graph where
  tasks : List Task
  /-- (resident index, generation) for indices used before. -/
  gens : List (Nat × Nat)
  /-- Records on the ring from TAIL upward, oldest first; and the copy in JOURNAL. -/
  ring : List Completion
  journal : List Completion
  /-- Ledger (R206): items and whether their record is written. -/
  ledger : List (Nat × Bool)
  contributions : List Contribution
  accumulators : List ScalarAcc
  /-- Item IDs of submitted graphs in graph-local order, by tag (GRAPH_IDS). -/
  graphs : List (Nat × List Nat)
  broadcasts : List Broadcast
  disables : List Disable
  /-- Weight packages read into EXPORT_STAGE, by task index. -/
  packages : List (Nat × Bytes)
  /-- Rounds of the last congestion notification by QP, ns. -/
  notified : List (Nat × Nat)
  /-- Export staging of sealed state: bytes by task index. -/
  stage : List (Nat × Bytes)
  /-- Sub-items of tasks that wait for their in-flight limit. -/
  outbox : List OutItem
  deriving DecidableEq, Repr

-- The sentinel (chapter 8)

/-- A statistics block (R249). -/
structure Stats where
  group : Nat
  member : Nat
  tensor : Nat
  step : Nat
  reach : List Nat
  scaleReach : List Nat
  values : List Nat
  changed : Nat
  highField : Nat
  nan : Nat
  pinf : Nat
  ninf : Nat
  largest : Nat
  smallest : Nat
  sumSq : Nat
  analysed : Nat
  sampled : Nat
  flags : Nat
  haveSample : Bool
  deriving DecidableEq, Repr

/-- The sentinel: blocks of the step in progress and of the last evaluated step, and the jobs it holds. -/
structure Sen where
  now : List Stats
  last : List Stats
  holds : List (Nat × Nat)
  deriving DecidableEq, Repr

-- Check channels (chapter 9)

/-- A provisional unit of a channel (R261). -/
structure Provisional where
  channel : Nat
  /-- What names the unit within its stream: an item's offset, a mirror sequence. -/
  unit : Nat
  data : Bytes
  resends : Nat
  deriving DecidableEq, Repr

/-- The channels beyond their registers: provisional units; channels whose value or count was written in IDLE; claims of
EXPORT tasks (channel, resident index); boundaries of EXPORT streams not yet confirmed (channel, bytes, value). -/
structure Chk where
  provisional : List Provisional
  loaded : List Nat
  claimed : List (Nat × Nat)
  bounds : List (Nat × Nat × Nat)
  /-- The checkpoint pairs that the standby was last sent (R258). -/
  mirrored : List (Nat × Word × Word)
  deriving DecidableEq, Repr

-- The lantern (chapter 11)

/-- The lantern beyond its registers: fabric time in ns with its 16-bit fraction (R289). -/
structure Lant where
  now : Nat
  frac : Nat
  /-- Steering of the rate, in units of 10^-9 (R298). -/
  steer : Int
  /-- Depth of the last valid time word by own port, and the port of the parent (R293). -/
  depths : List (Nat × Nat)
  parent : Option Nat
  /-- Fabric time of the last valid time word from the parent, and of the entry into HOLDOVER. -/
  parentSeen : Nat
  holdoverFrom : Nat
  ppsLast : Option Nat
  ppsGood : Nat
  ppsBad : Nat
  /-- Fabric time at which PPS_IN was lost. -/
  ppsLostAt : Nat
  /-- Sequence of the next time word to send, by port, and of the last received. -/
  txSeq : List (Nat × Nat)
  rxSeq : List (Nat × Nat)
  interspireFailed : Bool
  /-- Fabric time up to which the slew has been carried out. -/
  slewAt : Nat
  deriving DecidableEq, Repr

-- The twin (chapter 14)

/-- A divergence capture (R366). -/
structure Capture where
  slot : Nat
  bytes : Bytes
  /-- The number of the free value that gives what this model does not know of it. -/
  rest : Nat
  deriving DecidableEq, Repr

/-- An input that the control plane consumed in a round (R362). -/
structure Input where
  round : Nat
  bytes : Bytes
  deriving DecidableEq, Repr

/-- The twin engine beyond its registers. -/
structure Twin where
  /-- Active: next sequence and the mirror frames of the last 8 rounds. Standby: next sequence expected. -/
  txSeq : Nat
  kept : List MirrorF
  rxSeq : Nat
  /-- Sequences that were asked for again (R362). -/
  nakked : List Nat
  /-- Decisions of the present round, each as (kind, target, sequence, value) (R364). -/
  decisions : List (Nat × Nat × Nat × Nat)
  /-- Digests of past rounds: (round, digest). -/
  digests : List (Nat × Word)
  inputs : List Input
  captures : List Capture
  captureOrder : List Nat
  windowBytes : Bytes
  mismatch : Option Nat
  ownTest : Option Bool
  partnerTest : Option Bool
  snapshotFrames : Nat
  snapshotApplied : Bool
  imagesVerified : Bool
  /-- Regions copied in a hand-over, each with the check of what was copied: (group, lane, region, check); and those
  received from the partner, by group. -/
  copied : List (Nat × Nat × Nat × Nat)
  received : List (Nat × ParityBlock)
  handoverDone : Bool
  switchRound : Option Nat
  switchSince : Nat
  /-- This module asked for the switch (as standby), or grants it (as active). -/
  switchWanted : Bool
  hardStopped : Bool
  drillReturn : Option Nat
  standbySince : Nat
  /-- Cross-connects that granted the claim of the round, and the round of the claim. -/
  grants : List Nat
  claimRound : Nat
  claimRetry : Option Nat
  claiming : Bool
  /-- The control plane has stopped closing rounds (R358, R372, R376). -/
  stopped : Bool
  helloRound : Nat
  startedRound : Nat
  lastEndOfRound : Nat
  enrolSlot : Option Nat
  /-- Round at which this module acts after a planned switch (R371). -/
  actsAt : Option Nat
  /-- Groups whose regeneration a takeover required and which has not ended (R183, Table 13.6). -/
  regenDue : List Nat
  /-- The install that a mismatch discarded, until its outcome (R365). -/
  again : Option Install
  /-- Frames that the present and the last closed round decided in shadow, which never left (R368). -/
  shadow : List Emit
  shadowLast : List Emit
  /-- The partner's feed states by its last FEED word (R375). -/
  partnerFeed : Nat × Nat
  /-- The graph whose mirrored fragments are being assembled (R362, R268). -/
  assembly : Option Assembly
  deriving DecidableEq, Repr

/-- A report that a session keeps (R344): its signed body, and the round of signing. -/
structure Attested where
  sess : Nat
  body : Bytes
  round : Nat
  deriving DecidableEq, Repr

/-- The job keys of a carved cupola (R337 to R339). -/
structure JobKey where
  cupola : Nat
  job : Nat
  nonce : Nat
  span : Nat
  generation : Nat
  /-- Round t of a rotation under way, how often its switch round was moved, and the agents still unconfirmed. -/
  rotation : Option Nat
  moves : Nat
  unconfirmed : List Nat
  /-- The sealed step that last started a rotation. -/
  last : Nat
  deriving DecidableEq, Repr

/-- One direction of a keyed link (R340): the transmitter (node, port; node 0xFFFF for an OP port) and direction (0 the
window's agent transmits, 1 it receives); the epoch in force; the epoch in the next role, when it has been loaded. -/
structure HopKey where
  node : Nat
  port : Nat
  direction : Nat
  epoch : Nat
  next : Option Nat
  deriving DecidableEq, Repr

/-- A forced rekey of R352 still to be confirmed: (node, port, spire of the transmitter), rekeys left (2 or 1). -/
structure Forced where
  spire : Nat
  node : Nat
  port : Nat
  left : Nat
  /-- The spire that asked for it. -/
  by_ : Nat
  deriving DecidableEq, Repr

/-- The keystone (chapter 13). -/
structure KeyStone where
  /-- A health test of the entropy source has failed since its last start (R330). -/
  entropyFailed : Bool
  /-- (job ID, nonce) of retired cupolas, oldest first, at most 4,096 (R338). -/
  retired : List (Nat × Nat)
  jobs : List JobKey
  hops : List HopKey
  attested : List Attested
  /-- Rounds in which the reports being signed will be done (R344). -/
  signing : List Nat
  /-- Requests of steward firmware: (request index, operation) (Table 13.2). -/
  requests : List (Nat × Nat)
  /-- Key digest of the admitted host. -/
  admittedHost : Bytes
  /-- A connectivity association key is held, and the one by which the port is secured. -/
  cak : Option Bytes
  /-- The largest drain bound of the tenant's flows (R350) and the cupolas whose retire steps belong to the removal. -/
  bound : Nat
  /-- Agents that have not confirmed key-retire (R355). -/
  retireWait : List Nat
  forced : List Forced
  /-- Round in which the ring wait began; REMOVE_FORCE has ended it. -/
  waitFrom : Option Nat
  forceEnd : Bool
  /-- AG_COUNT[5] of agents when the removal last read it (R353). -/
  lateSeen : List (Nat × Nat)
  /-- Enrolment records of the partner (slot, sequence) (R332). -/
  partnerSeq : List (Nat × Nat)
  deriving DecidableEq, Repr

/-- A firmware image in a slot (R430). -/
structure FwImage where
  valid : Bool
  version : Nat
  security : Nat
  level : Nat
  /-- SHAKE256 of the image; `none` for the image of the shipment (`Config.firmwareMeasure`). -/
  measure : Option Bytes
  deriving DecidableEq, Repr

/-- An installed licence (R434). -/
structure Licence where
  code : Nat
  ports : Nat
  agents : Nat
  features : Nat
  sequence : Nat
  /-- The licence as staged; `none` for the one installed at manufacture (`Config.licenceBytes`). -/
  image : Option Bytes
  deriving DecidableEq, Repr

/-- The pace monitor of an engine (R31, R32): handshakes counted and wanted in the present round, windows below target in a
row and in the round, every window of the round at 110 % of target; and the extremes of pace against junction temperature
since the last deficit (R36): (band, smallest, largest) in permille, the highest temperature and the rail then. -/
structure Pace where
  engine : Nat
  done : Nat
  want : Nat
  row : Nat
  below : Nat
  fast : Bool
  bands : List (Nat × Nat × Nat)
  hottest : Nat
  railThen : Nat
  deriving DecidableEq, Repr

/-- Power, resets and updates (chapters 1, 17 and 18). -/
structure Pwr where
  /-- The standby rail is up, and the address that I3C gave this target. -/
  standbyUp : Bool
  i3cAddress : Nat
  i3cIndex : Nat
  /-- The ENABLE pin as asserted; an assertion held under R441; a trip of R449 or a partner-side end not yet cleared. -/
  enable : Bool
  tripped : Bool
  /-- Straps sampled at the rise of the standby rail (R440). -/
  slotId : Nat
  letter : Nat
  /-- Physical units that take no logical unit (R419). -/
  banksRetired : List Nat
  lanesRetired : List Nat
  packagesRetired : List Nat
  /-- The die-scale maps, logical to physical unit: SRAM bank groups, and GF lanes (Table 1.7). -/
  bankMap : List (Nat × Nat)
  laneMap : List (Nat × Nat)
  /-- Pace monitors, windows counted in the present round, and engines whose fallback is in force (R31, R32, R36). -/
  pace : List Pace
  windows : Nat
  fallback : List Nat
  /-- Feed current (R439): the loop may not raise the rail; it has been lowered to economy; and since which round the
  current has stayed below 14 A. -/
  feedHold : Bool
  feedEconomy : Bool
  feedCalm : Option Nat
  /-- Regions that have lost a bank group of 80 MiB each, once for each loss (Table 17.3): 0 FOLD, 1 GRAPH, 2 SENTINEL,
  3 BELFRY_STAGE; and GiB taken from EXPORT_STAGE (R54). -/
  regionLoss : List Nat
  exportLost : Nat
  /-- The staging segment, and the two staged images (R432, R434). -/
  segment : List (Nat × Word)
  firmware : ByteMap
  licence : ByteMap
  preferred : Nat
  images : List FwImage
  minSecurity : Nat
  /-- Rounds run in STANDBY, ACTIVE or ACTIVE_SOLO since the new image started (R433). -/
  goodRounds : Nat
  applying : Bool
  licences : List Licence
  partnerFeatures : Option Nat
  /-- The reset in progress: full, FORCE, FULL_TEST, and the round from which it waits. -/
  resetFull : Bool
  resetForce : Bool
  fullTest : Bool
  waitFrom : Nat
  /-- Memory test bookkeeping (R417). -/
  memoryFault : Bool
  lastFullOp : Nat
  /-- (channel, trainings failed in a row); (port, automatic retrains in the last second). -/
  channelFails : List (Nat × Nat)
  /-- A module sits in the host cage, and it is held in low-power mode (R447). -/
  osfpHeld : Bool
  /-- The retained plan in flash, with its epoch (R415). -/
  retained : Option (Plan × Nat)
  /-- Its image, with the length that was loaded. -/
  retainedImage : ByteMap
  retainedLen : Nat
  /-- Bring-up has started since the rails were last off; the standby rail has risen and no cold start has come since; the
  cold start of this power cycle has already increased the memory generation; the previous cycle did not end cleanly
  (R308, R341, R413, R417). -/
  started : Bool
  fresh : Bool
  counted : Bool
  unclean : Bool
  /-- Ports being retrained by command, and the rounds of the automatic retrains of a port (R427, R428). -/
  retraining : List Nat
  retrains : List (Nat × List Nat)
  /-- ETH_ADDR as last configured, for RECOVERY (R431). -/
  lastAddr : List (Nat × Word)
  /-- The module enters STARTING when its service reset has ended (R423, R424). -/
  toStarting : Bool
  deriving DecidableEq, Repr

/-- Output pins (Table 18.3, Table 18.7). -/
structure Pins where
  /-- The level of an active-low pin: false is asserted (R17). -/
  alarmN : Bool
  pwrGood : Bool
  presentN : Bool
  /-- PPS_OUT and REF10M_OUT run. -/
  ppsOut : Bool
  ref10m : Bool
  deriving DecidableEq, Repr

end Sys2Proof.Machine
end

