-- ==== Sys2Proof/Machine/State.lean ====
section
/-! DEFINITION. The state of the block: the register file, the units, the last answer, what has been sent, and the
queue of waiting commands; and the state after reset. -/
namespace Sys2Proof.Machine

/-- Why a step could stop. No command of this block stops: the spec gives each one an effect or an error answer. -/
inductive Fault where
  /-- Raised by nothing. Safe. -/
  | none
  deriving DecidableEq, Repr

/-- Why a command has no meaning. -/
inductive Refusal where
  /-- Raised by an arm of `exec` whose command has no meaning yet. Safe. -/
  | notModelled (mnemonic : String)
  deriving DecidableEq, Repr

/-- The whole state of the block. -/
structure State where
  /-- The architectural registers (every register of the spec's tables), sparse: an unlisted one holds its reset word. -/
  regs : RegMap
  plan : PlanStore
  disc : Disc
  bell : Bell
  cup : Cup
  rep : Rep
  agents : List Agent
  grd : Grd
  graph : Graph
  sen : Sen
  chk : Chk
  mbx : Mbx
  eth : Eth
  belf : Belf
  lant : Lant
  key : KeyStone
  twin : Twin
  pwr : Pwr
  pins : Pins
  /-- The answer to the last host request. -/
  answer : Answer
  /-- What has left the block, oldest first. -/
  sent : List Emit
  /-- How many free values have been drawn (the model's own field). -/
  free : Nat
  /-- The commands that are waiting, first in first out. -/
  pending : List Instr
  deriving DecidableEq, Repr


/-- An install, repair or pair activity is not under way after reset. -/
def PlanStore.reset : PlanStore := ⟨[], 0, none, none, none, [], none, true⟩
def Disc.reset : Disc := ⟨[], 0, 0, [], [], [], [], [], [], [], [], [], [], [], [], [], []⟩
def Bell.reset : Bell := ⟨none, none, none, [], [], [], [], [], false, 0, []⟩
def Cup.reset : Cup := ⟨[], [], [], []⟩
def Rep.reset : Rep :=
  ⟨[], [], [], [], [], [], [], [], [], [], [], [], [], [], [], [], false, none, none, none, false, none, [], false, none⟩
def Grd.reset : Grd := ⟨[], [], [], [], [], [], [], [], []⟩
def Graph.reset : Graph := ⟨[], [], [], [], [], [], [], [], [], [], [], [], [], []⟩
def Sen.reset : Sen := ⟨[], [], []⟩
def Chk.reset : Chk := ⟨[], [], [], [], []⟩
/-- The power cycle of the first start was Varlor's last reset; epoch 0 went before (R458, R283). -/
def Mbx.reset : Mbx := ⟨[], [], [], [], [], 1, 0, []⟩
def Eth.reset : Eth := ⟨[], [], [], [], [], false, [], 0⟩

/-- R458, R317: the POWER record of the first start: the previous cycle ended cleanly, last operating time 0. -/
def firstPower : Record :=
  ⟨0x0006, 5, 0, Source.code 12 5, 0, 0, Config.powerCycles, Config.opTime, 0, Config.opTime, Config.opTime, 1,
    [1, 0, 0, 0, 0, 0, 0, 0, 0] ++ List.replicate 55 0⟩

/-- The belfry at the first start (R458): nothing stored, the POWER record first in the write queue. -/
def Belf.reset : Belf :=
  { cells := [], queue := [firstPower], staged := [], frozenFolded := 0, frozenStaged := 0, flash := [],
    aggregates := List.replicate 8 ⟨0, 0, 0, 0, 0, false⟩, opFlash := Config.opTime, badSlots := [], window := [],
    sentinel := List.replicate 64 ⟨0, 0, 0⟩, announced := [], shedSeen := List.replicate 8 0, agentShed := [],
    prevClean := false, prevOp := 0, subs := [] }

def Lant.reset : Lant :=
  { now := 0, frac := 0, steer := 0, depths := [], parent := none, parentSeen := 0, holdoverFrom := 0, ppsLast := none, ppsGood := 0, ppsBad := 0, ppsLostAt := 0,
    txSeq := [], rxSeq := [], interspireFailed := false, slewAt := 0 }

def Twin.reset : Twin :=
  { txSeq := 0, kept := [], rxSeq := 0, nakked := [], decisions := [], digests := [], inputs := [], captures := [],
    captureOrder := [], windowBytes := [], mismatch := none, ownTest := none, partnerTest := none, snapshotFrames := 0,
    snapshotApplied := false, imagesVerified := false, copied := [], received := [], handoverDone := false,
    switchRound := none, switchSince := 0, switchWanted := false, hardStopped := false, drillReturn := none,
    standbySince := 0, grants := [], claimRound := 0, claimRetry := none, claiming := false, stopped := false,
    helloRound := 0, startedRound := 0, lastEndOfRound := 0, enrolSlot := none, actsAt := none, regenDue := [],
    again := none, shadow := [], shadowLast := [], partnerFeed := (0, 0), assembly := none }

def KeyStone.reset : KeyStone :=
  { entropyFailed := false, retired := [], jobs := [], hops := [], attested := [], signing := [], requests := [],
    admittedHost := [], cak := none, bound := 0, retireWait := [], forced := [], waitFrom := none, forceEnd := false,
    lateSeen := [], partnerSeq := [] }

/-- The licence of the ordering code, installed at manufacture (R458). -/
def Licence.shipped : Licence :=
  ⟨Config.licCode, Config.licPorts, Config.licAgents, Config.licFeatures, Config.licSequence, none⟩

/-- The firmware image of the shipment, in slot 0; slot 1 holds none (R458). -/
def FwImage.shipped : List FwImage := [⟨true, Config.fwVersion, Config.fwSecurity, 1, none⟩, ⟨false, 0, 0, 0, none⟩]

def Pwr.reset : Pwr :=
  { standbyUp := true, i3cAddress := 0, i3cIndex := 0, enable := false, tripped := false, slotId := Config.slotId,
    letter := Config.letter, banksRetired := [], lanesRetired := [], packagesRetired := [],
    bankMap := (List.range 96).map (fun i => (i, i)), laneMap := (List.range 64).map (fun i => (i, i)),
    pace := (List.range 5).map (fun i => ⟨i + 1, 0, 0, 0, 0, true, [], 0, 0⟩), windows := 0, fallback := [],
    feedHold := false, feedEconomy := false, feedCalm := none, regionLoss := [], exportLost := 0, segment := [], firmware := [], licence := [], preferred := Config.fwSlot,
    images := FwImage.shipped, minSecurity := Config.fwSecurity, goodRounds := 0, applying := false,
    licences := [Licence.shipped], partnerFeatures := none, resetFull := false, resetForce := false, fullTest := false,
    waitFrom := 0, memoryFault := false, lastFullOp := 0, channelFails := [], osfpHeld := false, retained := none, retainedImage := [], retainedLen := 0,
    started := false, fresh := true, counted := true, unclean := false, retraining := [], retrains := [], lastAddr := [],
    toStarting := false }

/-- PRESENT_N is tied to module ground; PWR_GOOD is low while the rails are off; ALARM_N is released. -/
def Pins.reset : Pins := ⟨true, false, false, false, false⟩

/-- The block after reset: the first application of the standby rail, before ENABLE (R458, R440). Every register holds
the reset value of its table, but for BELF_STATUS.QUEUED, which counts the POWER record that waits (R458, Table 17.9; log
entry 29); no command waits. -/
def State.reset : State :=
  { regs := [(keyOf .BELF_STATUS 0 0, 0x10000000)], plan := PlanStore.reset, disc := Disc.reset, bell := Bell.reset, cup := Cup.reset, rep := Rep.reset,
    agents := [], grd := Grd.reset, graph := Graph.reset, sen := Sen.reset, chk := Chk.reset, mbx := Mbx.reset,
    eth := Eth.reset, belf := Belf.reset, lant := Lant.reset, key := KeyStone.reset, twin := Twin.reset,
    pwr := Pwr.reset, pins := Pins.reset, answer := ⟨0, 0, 0, 0, 0, 0, [], []⟩, sent := [], free := 0, pending := [] }

end Sys2Proof.Machine
end

