-- ==== Sys2Proof/Machine/Ops.lean ====
section
/-! DEFINITION. The named operations over the state: reading and writing register words and fields, events, counters,
what is sent, answers to the host, agents. Every meaning is written over these. -/
namespace Sys2Proof.Machine

/-- A field of a word as a number (R6). -/
def getBits (w : Word) (lo len : Nat) : Nat := w.toNat / 2 ^ lo % 2 ^ len

/-- A word with a field replaced; the value is cut to the field's width. -/
def putBits (w : Word) (lo len v : Nat) : Word :=
  BitVec.ofNat 64 (w.toNat % 2 ^ lo + v % 2 ^ len * 2 ^ lo + w.toNat / 2 ^ (lo + len) * 2 ^ (lo + len))

namespace State

/-- The reset word of a register (its table's reset column). -/
def resetOf (r : Reg) (node idx : Nat) : Word := BitVec.ofNat 64 (r.resetWord node idx)

/-- The word a register holds: agent registers by local node, arrays by index. -/
def rd (s : State) (r : Reg) (node idx : Nat) : Word :=
  match s.regs.find (keyOf r node idx) with
  | some w => w
  | none => resetOf r node idx

/-- The state with a register word replaced. -/
def wr (s : State) (r : Reg) (node idx : Nat) (w : Word) : State :=
  { s with regs := s.regs.put (keyOf r node idx) (resetOf r node idx) w }

/-- A field of element `idx` of a register in the window of `node`. -/
def ga (s : State) (f : Fld) (node idx : Nat) : Nat := getBits (s.rd f.reg node idx) f.lo f.len
/-- A field of element `i` of an array register. -/
def gi (s : State) (f : Fld) (i : Nat) : Nat := s.ga f 0 i
/-- A field of a single register. -/
def g (s : State) (f : Fld) : Nat := s.ga f 0 0
/-- A one-bit field as a Bool. -/
def b (s : State) (f : Fld) : Bool := s.ga f 0 0 == 1
/-- A one-bit field of an agent register. -/
def bn (s : State) (f : Fld) (node : Nat) : Bool := s.ga f node 0 == 1

/-- Set a field of element `idx` in the window of `node`. -/
def pa (s : State) (f : Fld) (node idx v : Nat) : State :=
  s.wr f.reg node idx (putBits (s.rd f.reg node idx) f.lo f.len v)
/-- Set a field of element `i` of an array register. -/
def pi (s : State) (f : Fld) (i v : Nat) : State := s.pa f 0 i v
/-- Set a field of a single register. -/
def p (s : State) (f : Fld) (v : Nat) : State := s.pa f 0 0 v
/-- Set a field of an agent's register. -/
def pn (s : State) (f : Fld) (node v : Nat) : State := s.pa f node 0 v

/-- Put a register back to its reset word. -/
def rst (s : State) (r : Reg) (node idx : Nat) : State := s.wr r node idx (resetOf r node idx)

/-- Forget every listed word of a register, so that all its elements hold their reset words. -/
def rstAll (s : State) (r : Reg) : State := { s with regs := s.regs.filter (fun e => e.1.r != r.ctorIdx) }

/-- The listed words of a register: (index, word). -/
def listed (s : State) (r : Reg) : List (Nat × Word) :=
  s.regs.filterMap (fun e => if e.1.r == r.ctorIdx && e.1.node == 0 then some (e.1.idx, e.2) else none)

/-- Add to a saturating 64-bit counter (COUNT arrays). -/
def bump (s : State) (r : Reg) (node i n : Nat) : State :=
  s.wr r node i (BitVec.ofNat 64 (sat 64 ((s.rd r node i).toNat + n)))

/-- Count one in element `i` of a COUNT array. -/
def count (s : State) (r : Reg) (i : Nat) : State := s.bump r 0 i 1

/-- A control decision of the present round, for the digest of R364: kind, target, sequence, value. -/
def decision (s : State) (kind target value : Nat) : State :=
  { s with twin := { s.twin with decisions := s.twin.decisions ++ [(kind, target, s.twin.decisions.length, value)] } }

/-- R364: a frame to agents or to peer Varlors, or a key-slot write. -/
def isControl (k : Sent) : Bool :=
  match k with
  | .segment | .manifest | .activateFrame | .failBroadcast | .access | .keySlot | .guardItem | .laneAcc | .laneBlock | .laneAck
  | .laneRequest | .laneLoss | .foldedReport | .sealRecord | .jobRollback | .memberLoss | .installReport | .scalarAcc
  | .scalarResult | .record | .agentWord => true
  | _ => false

/-- The module recomputes the active module's decisions in shadow: SYNCING or STANDBY (R363, Table 14.2). -/
def shadowing (s : State) : Bool :=
  let st := s.g F.TWIN_STATUS_STATE
  st == 3 || st == 4

/-- Something leaves the block; a control frame is also a decision of the round, and in shadow only that. -/
def emit (s : State) (kind : Sent) (a b : Nat) (data : List Nat) (bytes : Bytes) : State :=
  let out := { s with sent := s.sent ++ [⟨kind, a, b, data, bytes⟩] }
  if isControl kind then
    (if s.shadowing then { s with twin := { s.twin with shadow := s.twin.shadow ++ [⟨kind, a, b, data, bytes⟩] } }
     else out).decision kind.ctorIdx a (crc64 ((data.map (leBytes 8)).flatten ++ bytes))
  else out

/-- Something without payload leaves the block. -/
def send (s : State) (kind : Sent) (a b : Nat) (data : List Nat) : State := s.emit kind a b data []

/-- R306: the source code of an event bit. -/
def sourceOf (f : Fld) : Nat := if f.reg.isAgent then Source.code 18 f.lo else Source.code (f.reg.base / 0x100000) f.lo

/-- Set an event bit (R16) and hand the event, with its instance and value, to the belfry (R306). -/
def raise (s : State) (f : Fld) (inst : Nat) (v : Int) : State :=
  (s.p f 1).send .event (sourceOf f) inst [toField 64 v]

/-- An alarm that no event source carries. -/
def alarm (s : State) (sev inst : Nat) : State := s.send .alarm sev inst []

/-- A service request. -/
def service (s : State) (inst : Nat) : State := s.send .serviceRequest inst 0 []

/-- Draw a free value: its number. The value is `Config.freeValue` of it. -/
def draw (s : State) : Nat × State := (s.free, { s with free := s.free + 1 })

/-- The current round (BELL_ROUND). -/
def round (s : State) : Nat := s.g F.BELL_ROUND_ROUND

/-- The round length in ns (R89). -/
def roundNs (s : State) : Nat := 2 ^ s.g F.BELL_STATUS_ROUND_CODE * 1000

/-- Slots in a round (R89). -/
def slotsPerRound (s : State) : Nat := 2 ^ s.g F.BELL_STATUS_ROUND_CODE

/-- This module's spire number (IDENT_SITE). -/
def spire (s : State) : Nat := s.g F.IDENT_SITE_SPIRE

/-- The logical node number of a local node of this spire (Table 0.4). -/
def logical (s : State) (n : Nat) : Nat := s.spire * 512 + n

/-- This module's frame identity (R23). -/
def identity (s : State) : Nat := s.spire * 512 + 510 + s.g F.TWIN_STATUS_LETTER

/-- This module holds control: ACTIVE_SOLO or ACTIVE (Table 14.2). -/
def isActive (s : State) : Bool :=
  let st := s.g F.TWIN_STATUS_STATE
  st == 1 || st == 2

/-- The module carries confidential mode. -/
def confidential (s : State) : Bool := s.b F.KEY_STATUS_CONFIDENTIAL

end State

/-- The local node of a logical node number. -/
def localOf (logical : Nat) : Nat := logical % 512

-- Answers (Table 10.4)

namespace Status
abbrev ok : Nat := 0
abbrev address : Nat := 1
abbrev readOnly : Nat := 2
abbrev full : Nat := 3
abbrev state : Nat := 4
abbrev value : Nat := 5
abbrev busy : Nat := 6
abbrev notActive : Nat := 7
abbrev policy : Nat := 8
abbrev malformed : Nat := 9
abbrev opUnknown : Nat := 10
abbrev refused : Nat := 11
abbrev timeout : Nat := 12
abbrev staleRetry : Nat := 13
abbrev resetting : Nat := 14
end Status

/-- The answer to nothing. -/
def Answer.none : Answer := ⟨0, 0, 0, 0, 0, 0, [], []⟩

namespace State

/-- Set status and detail of the answer (R269); the rest of the answer is empty. -/
def err (s : State) (status detail : Nat) : State :=
  { s with answer := { s.answer with status := status, detail := detail, a := 0, b := 0, words := [], bytes := [] } }

/-- Answer OK (Table 10.4). -/
def ok (s : State) : State := s.err Status.ok 0

/-- The command was done: answer OK. -/
def done (s : State) : State := s.ok

end State

-- Agents

/-- An agent's private state after a link-domain reset (R392). -/
def Agent.fresh (n : Nat) : Agent :=
  { node := n, active := ⟨[], []⟩, shadow := ⟨[], []⟩, flows := [], manifest := none, segments := [], hold := [],
    fence := [], queue := [], sources := [], sinks := [], quiesced := [], filterNext := [], allowNext := none,
    treeNext := none, mgmt := [], started := [], notices := [], noticed := [], keyFrames := [], keyCounter := 0, keys := [],
    loaded := [], counters := [],
    txCount := [], rxCounter := [], inWords := [], originated := [], pendingReset := none, pendingRekey := [],
    granted := false, fullAt := none, late := [], telemetry := [], seen := [], heard := [], errSeen := [],
    timeSeq := [], lastTime := 0, grantRound := none }

namespace State

/-- The agent of a local node; one not listed is as after a link-domain reset. -/
def ag (s : State) (n : Nat) : Agent :=
  match s.agents.find? (fun a => a.node == n) with
  | some a => a
  | none => Agent.fresh n

/-- Replace an agent. -/
def setAg (s : State) (a : Agent) : State :=
  { s with agents := (s.agents.filter (fun x => x.node != a.node)) ++ [a] }

/-- Change an agent. -/
def updAg (s : State) (n : Nat) (f : Agent → Agent) : State := s.setAg (f (s.ag n))

/-- Set an agent's event bit; the agent originates an alarm frame (R325). -/
def raiseAgent (s : State) (f : Fld) (node : Nat) : State :=
  let s1 := s.updAg node (fun a => { a with telemetry := a.telemetry ++ [(0, s.round)] })
  (s1.pn f node 1).send .event (sourceOf f) node [1]

/-- Count one in AG_COUNT[i] of an agent. -/
def countAg (s : State) (n i : Nat) : State := s.bump .AG_COUNT n i 1

/-- A mirror frame leaves with the next sequence, and is kept for 8 rounds (R362); its data names what it carries. -/
def mirrorSend (s : State) (kind : Nat) (last : Bool) (data : List Nat) (payload : Bytes) : State :=
  let f : MirrorF := ⟨last, s.twin.txSeq, s.round, s.g F.TWIN_STATUS_MIRROR_LEVEL, payload, true⟩
  let kept := (s.twin.kept.filter (fun (x : MirrorF) => decide (s.round < x.round + 8))) ++ [f]
  let s1 := { s with twin := { s.twin with txSeq := (s.twin.txSeq + 1) % 2 ^ 32, kept := kept } }
  s1.emit .mirror kind f.seq (s.round :: data) payload

end State

end Sys2Proof.Machine
end

