-- ==== Sys2Proof/Machine/Operands.lean ====
section
/-! DEFINITION. The packed operands: slot, flow and L2P entries (Tables 16.1 to 16.3), mailbox words (R277), and what
Varlor reads out of the tables in force. -/
namespace Sys2Proof.Machine

-- Slot entry (Table 16.1)
/-- FLOW of a slot entry. -/
def slotFlow (e : Nat) : Nat := e % 0x10000
/-- CUPOLA of a slot entry. -/
def slotCupola (e : Nat) : Nat := e / 0x10000 % 0x1000
/-- Reserved bits of a slot entry. -/
def slotReserved (e : Nat) : Nat := e / 0x10000000
/-- R93: a management slot. -/
def isMgmt (e : Nat) : Bool := slotFlow e == 0xFFFF
/-- R92: a detour reserve slot. -/
def isReserve (e : Nat) : Bool := slotFlow e == 0xFFFE

-- Flow entry (Table 16.2)
def feFlow (e : Nat) : Nat := e % 0x10000
def feVariant (e : Nat) : Nat := e / 0x10000 % 2
def feClass (e : Nat) : Nat := e / 0x20000 % 8
def feEgress (e : Nat) : Nat := e / 0x100000 % 32
def feRejoin (e : Nat) : Nat := e / 0x2000000 % 2
def feReserved (e : Nat) : Nat := e / 0x4000000 % 64
def feNextHop (e : Nat) : Nat := e / 0x100000000

-- L2P entry (Table 16.3)
def l2pNode (e : Nat) : Nat := e % 0x100000000
def l2pRow (e : Nat) : Nat := e / 0x100000000 % 256
def l2pCol (e : Nat) : Nat := e / 0x10000000000 % 256
def l2pMoved (e : Nat) : Bool := e / 0x1000000000000 % 2 == 1
def l2pValid (e : Nat) : Bool := e / 0x2000000000000 % 2 == 1
def l2pReserved (e : Nat) : Nat := e / 0x4000000000000

-- Mailbox word (R277)
/-- A word of a sender epoch, a type and a payload. -/
def mkWord (epoch type payload : Nat) : Word :=
  BitVec.ofNat 64 (epoch % 256 * 2 ^ 56 + type % 256 * 2 ^ 48 + payload % 2 ^ 48)
def wordEpoch (w : Word) : Nat := getBits w 56 8
def wordType (w : Word) : Nat := getBits w 48 8
def wordPayload (w : Word) : Nat := getBits w 0 48
/-- R284: a RESET_NOTICE with a kind and the previous epoch. -/
def resetNotice (epoch kind prev : Nat) : Word := mkWord epoch 0x01 (kind % 256 + prev % 256 * 256)

/-- R100, Table 4.5: the drain bound of a class, in rounds. -/
def drainBound (cls : Nat) : Nat := if cls = 2 then 4 else if cls = 4 then 2 else 8

-- Reading tables

/-- Port slot maps of a logical node. -/
def Tables.portsOf (t : Tables) (node : Nat) : List (List Nat) :=
  match t.sched.find? (fun b => b.node == node) with
  | some b => b.ports
  | none => []

/-- Flow entries of a logical node. -/
def Tables.flowsOf (t : Tables) (node : Nat) : List Nat :=
  match t.flows.find? (fun b => b.node == node) with
  | some b => b.entries
  | none => []

/-- Slot entries of one port. -/
def Tables.slotsOf (t : Tables) (node port : Nat) : List Nat := (t.portsOf node).getD port []

/-- Some slot of a port belongs to a cupola. -/
def ownsSlot (slots : List Nat) (cupola : Nat) : Bool := slots.any (fun e => slotCupola e == cupola && slotFlow e != 0)

/-- R119: a cupola uses a link end when it owns a slot of that port. -/
def Tables.usesPort (t : Tables) (cupola node port : Nat) : Bool := ownsSlot (t.slotsOf node port) cupola

/-- Every cupola ID that appears in a slot entry (R118), ascending. -/
def Tables.cupolas (t : Tables) : List Nat :=
  let all := t.sched.foldl (fun acc b => b.ports.foldl (fun acc p => p.foldl (fun acc e =>
    if slotCupola e = 0 then acc else addOnce (slotCupola e) acc) acc) acc) []
  all.mergeSort

/-- The flows of a cupola: flows of its slot entries. -/
def Tables.flowsOfCupola (t : Tables) (c : Nat) : List Nat :=
  t.sched.foldl (fun acc b => b.ports.foldl (fun acc p => p.foldl (fun acc e =>
    if slotCupola e = c && c != 0 then addOnce (slotFlow e) acc else acc) acc) acc) []

/-- The cupola of a flow, 0 for none: the cupola of the slots it owns. -/
def Tables.cupolaOfFlow (t : Tables) (f : Nat) : Nat :=
  let hit := t.sched.findSome? (fun b => b.ports.findSome? (fun p => p.find? (fun e => slotFlow e == f && f != 0)))
  match hit with
  | some e => slotCupola e
  | none => 0

/-- The class of a flow as some agent's flow table gives it. -/
def Tables.classOfFlow (t : Tables) (f : Nat) : Nat :=
  match t.flows.findSome? (fun b => b.entries.find? (fun e => feFlow e == f && feVariant e == 0)) with
  | some e => feClass e
  | none => 1

/-- Agents (logical nodes) that deliver a flow: its LOCAL entries. -/
def Tables.sinksOf (t : Tables) (f : Nat) : List Nat :=
  (t.flows.filter (fun b => b.entries.any (fun e => feFlow e == f && feVariant e == 0 && feEgress e == 31))).map (·.node)

/-- Agents that send a flow first: they have an egress entry for it and no other agent's entry names them as next hop. -/
def Tables.sourcesOf (t : Tables) (f : Nat) : List Nat :=
  let has := t.flows.filter (fun b => b.entries.any (fun e => feFlow e == f && feVariant e == 0 && feEgress e != 31))
  let named := t.flows.foldl (fun acc b => b.entries.foldl (fun acc e =>
    if feFlow e == f && feVariant e == 0 && feEgress e != 31 then addOnce (feNextHop e) acc else acc) acc) []
  (has.map (·.node)).filter (fun n => !named.contains n)

/-- Agents that source or sink a flow of a cupola (R121). -/
def Tables.membersOf (t : Tables) (c : Nat) : List Nat :=
  (t.flowsOfCupola c).foldl (fun acc f => unionL acc (t.sourcesOf f ++ t.sinksOf f)) []

/-- The largest drain bound among the flows of a cupola (R124). -/
def Tables.drainOfCupola (t : Tables) (c : Nat) : Nat :=
  (t.flowsOfCupola c).foldl (fun m f => max m (drainBound (t.classOfFlow f))) 0

/-- R118: the template of a cupola: the greatest template ID not above the cupola ID. -/
def Plan.templateOf (p : Plan) (c : Nat) : Option TplRec :=
  p.templates.foldl (fun best t =>
    if t.id ≤ c then
      match best with
      | none => some t
      | some b => if b.id < t.id then some t else best
    else best) none

/-- The element record of a local node. -/
def Plan.element (p : Plan) (n : Nat) : Option ElemRec := p.elements.find? (fun e => localOf e.node == n)

/-- ELASTIC, CONFIDENTIAL, STRAGGLER_FENCE and SENTINEL of a template (Table 2.13). -/
def TplRec.elastic (t : TplRec) : Bool := t.flags % 2 == 1
def TplRec.confidential (t : TplRec) : Bool := t.flags / 2 % 2 == 1
def TplRec.fence (t : TplRec) : Bool := t.flags / 4 % 2 == 1
def TplRec.sentinel (t : TplRec) : Bool := t.flags / 8 % 2 == 1
/-- SUBSTITUTE, ROW_CUT and ADOPT_EXTRA of the spare policy (Table 2.15). -/
def Plan.substitute (p : Plan) : Bool := p.policy % 2 == 1
def Plan.rowCutOn (p : Plan) : Bool := p.policy / 2 % 2 == 1
def Plan.adoptExtra (p : Plan) : Bool := p.policy / 4 % 2 == 1
/-- SPARE_POSITION, ADOPTABLE and PINNED of an element record (Table 2.10). -/
def ElemRec.spare (e : ElemRec) : Bool := e.flags % 2 == 1
def ElemRec.adoptable (e : ElemRec) : Bool := e.flags / 2 % 2 == 1
def ElemRec.pinned (e : ElemRec) : Bool := e.flags / 4 % 2 == 1
/-- The plan's COORDINATOR and CONFIDENTIAL flags and link-security mode (Table 2.1). -/
def Plan.coordinatorFlag (p : Plan) : Bool := p.flags % 2 == 1
def Plan.confidentialFlag (p : Plan) : Bool := p.flags / 2 % 2 == 1
def Plan.linkMode (p : Plan) : Nat := p.flags / 4 % 4

/-- Far ends of a node's ports by the plan's link records: (port, far logical node or Varlor, far port, B kind). -/
def Plan.neighbours (p : Plan) (node : Nat) : List (Nat × Nat × Nat × Nat) :=
  p.links.filterMap (fun l =>
    if l.a == node then some (l.pa, l.b, l.pb, l.bkind)
    else if l.bkind == 0 && l.b == node then some (l.pb, l.a, l.pa, 0)
    else none)

/-- R119: a cupola uses an element when it owns a slot on one of its ports or on a far end's port into it. -/
def usesElement (t : Tables) (p : Plan) (c node : Nat) : Bool :=
  (t.portsOf node).any (fun s => ownsSlot s c) ||
  (p.neighbours node).any (fun e => e.2.2.2 == 0 && t.usesPort c e.2.1 e.2.2.1)

/-- R119: a cupola uses a link, in either direction. -/
def usesLink (t : Tables) (p : Plan) (c node port : Nat) : Bool :=
  t.usesPort c node port ||
  (p.neighbours node).any (fun e => e.1 == port && e.2.2.2 == 0 && t.usesPort c e.2.1 e.2.2.1)

/-- The logical node whose place in the L2P map is that of a position's physical row and column: the role that the element
there plays (R99, R141). Switches keep their own. -/
def roleOf (p : Plan) (t : Tables) (pos : Nat) : Nat :=
  match p.element pos with
  | none => pos
  | some e =>
    if e.kind != 1 then pos
    else
      match (List.range t.l2p.length).find? (fun i =>
          let x := t.l2p.getD i 0
          l2pValid x && l2pRow x == e.row && l2pCol x == e.col) with
      | some i => i
      | none => pos

/-- The local node whose element plays a logical node: its L2P entry's row and column. -/
def playerOf (p : Plan) (t : Tables) (node : Nat) : Nat :=
  let x := t.l2p.getD (localOf node) 0
  if l2pValid x && l2pRow x ≤ 16 then
    match p.elements.find? (fun e => e.kind == 1 && e.row == l2pRow x && e.col == l2pCol x) with
    | some e => localOf e.node
    | none => localOf node
  else localOf node

/-- The agents that source or sink a flow of a cupola (R121): the local nodes of the elements that play its members, so that
an element which another stands in for is none of them. -/
def Tables.agentsOf (t : Tables) (p : Plan) (c : Nat) : List Nat := ((t.membersOf c).map (playerOf p t)).eraseDups

/-- CUP_ENTRY.MEMBERS: accelerators that source or sink the cupola's flows. -/
def Tables.memberCount (t : Tables) (p : Plan) (c : Nat) : Nat :=
  ((t.agentsOf p c).filter (fun n => match p.element n with | some e => e.kind == 1 | none => false)).length

namespace State

/-- The tables in force, empty before the first install. -/
def tables (s : State) : Tables :=
  match s.bell.tables with
  | some t => t
  | none => ⟨s.g F.BELL_STATUS_ROUND_CODE, 0, [], [], []⟩

/-- The tables that the binding stands for: those in force, or, before the first activation, those being installed, or else the
plan's own (R84). -/
def boundTables (s : State) : Tables :=
  match s.bell.tables with
  | some t => t
  | none =>
    match s.bell.install, s.plan.cur with
    | some i, _ => i.tables
    | none, some p => p.tables
    | none, none => s.tables

/-- A binding stands: its tables run, or are being installed (R87, R88). -/
def bindingStands (s : State) : Bool := s.bell.tables.isSome || s.bell.install.isSome

/-- The agents of a cupola's members, by local node, under the tables in force. -/
def cupAgents (s : State) (c : Nat) : List Nat :=
  match s.plan.cur with
  | some p => s.tables.agentsOf p c
  | none => (s.tables.membersOf c).map localOf

/-- A cupola's state (Table 5.1). -/
def cupState (s : State) (c : Nat) : Nat := s.gi F.CUP_ENTRY_STATE c

/-- The template of a cupola under the current plan. -/
def template (s : State) (c : Nat) : Option TplRec :=
  match s.plan.cur with
  | some p => p.templateOf c
  | none => none

/-- Local nodes bound in the current binding: class BOUND, SUBSTITUTED or ADOPTED. -/
def boundClass (s : State) (n : Nat) : Bool :=
  let c := s.gi F.DISC_NODE_CLASS n
  c == 1 || c == 2 || c == 6

/-- R46: the local node is bound to an element: some element is placed at its position. -/
def placedAt (s : State) (n : Nat) : Bool := s.disc.placed.any (fun e => e.1 == n)

/-- Local nodes of every bound agent, in order. -/
def boundNodes (s : State) : List Nat := (s.disc.placed.map (·.1)).mergeSort

end State

end Sys2Proof.Machine
end

