-- ==== Sys2Proof/Machine/Flags.lean ====
section
/-! DEFINITION. The status fields that follow the state: counts and flags that the spec defines as a function of other
state (cupolas ACTIVE, groups PROTECTED, sessions held, mailboxes FULL, ...). Every command ends by bringing them up to
date, so they agree with the state after every step. -/
namespace Sys2Proof.Machine

/-- How many of the listed words satisfy `p`. -/
def countWords (l : List (Nat × Word)) (p : Word → Bool) : Nat := (l.filter (fun e => p e.2)).length

/-- The number of one bits of a number, over its low `n` bits. -/
def ones : Nat → Nat → Nat
  | 0, _ => 0
  | n + 1, v => v % 2 + ones n (v / 2)

/-- The mask of a list of bit numbers. -/
def maskOf (l : List Nat) : Nat := l.foldl (fun m i => Nat.lor m (2 ^ i)) 0

/-- The element is in a given state: its STATE field at the low bits. -/
def inState (len v : Nat) (w : Word) : Bool := getBits w 0 len == v

namespace State

/-- Cupolas in a state (Table 5.1). -/
def cupolasIn (s : State) (st : Nat) : Nat := countWords (s.listed .CUP_ENTRY) (inState 3 st)

/-- Groups in a state (Table 6.1). -/
def groupsIn (s : State) (st : Nat) : Nat := countWords (s.listed .GRD_GROUP) (inState 3 st)

/-- Free channels (96 to 127) in one of two states (Table 9.3). -/
def channelsIn (s : State) (a b : Nat) : Nat :=
  countWords ((s.listed .CHK_STATE).filter (fun e => decide (96 ≤ e.1))) (fun w => inState 3 a w || inState 3 b w)

/-- Positions in one of two classes (Table 3.4). -/
def positionsIn (s : State) (a b : Nat) : Nat :=
  countWords (s.listed .DISC_NODE) (fun w => inState 4 a w || inState 4 b w)

/-- Queue pairs not in RESET (ETH_STATUS.QPS). -/
def liveQps (s : State) : Nat :=
  (s.regs.filter (fun e => e.1.r == Reg.ETH_QP_WORD.ctorIdx && e.1.idx == 0 && getBits e.2 0 3 != 0)).length

/-- Enrolment slots that are filled and agree on both modules (R332). -/
def agreedSlots (s : State) : Nat :=
  ((List.range 8).filter (fun i => s.gi F.KEY_SLOT_INFO_KIND i != 0 && s.gi F.KEY_SLOT_INFO_AGREE i == 1)).length

/-- The attestation state (Table 13.6), the first row that applies. -/
def attestState (s : State) : Nat :=
  let fw := s.g F.PWR_FW_STATUS_STATE
  let conf := match s.plan.cur with | some p => p.flags / 2 % 2 == 1 | none => false
  if fw = 2 || fw = 4 then 1
  else if 3 ≤ s.g F.PWR_STATUS_RESET then 2
  else if !s.twin.regenDue.isEmpty then 3
  else if conf && !s.b F.KEY_STATUS_TENANT_BOUND then 4
  else 0

/-- A latch of severity 7 is set (R321). -/
def criticalLatched (s : State) : Bool :=
  (s.listed .BELF_ALARM).any (fun e => getBits e.2 0 1 == 1 && getBits e.2 2 3 == 7)

end State

/-- The status fields that follow the state, each with the value its table gives it. -/
def derived : List (Fld × (State → Nat)) :=
  [(F.DISC_SUMMARY_BOUND, fun s => s.positionsIn 1 6),
   (F.DISC_SUMMARY_SUBSTITUTED, fun s => s.positionsIn 2 2),
   (F.DISC_SUMMARY_MISSING, fun s => s.positionsIn 3 3),
   (F.DISC_SUMMARY_FENCED, fun s => s.positionsIn 4 4),
   (F.DISC_SUMMARY_EXTRA, fun s => s.disc.extras.length),
   (F.DISC_SUMMARY_DARK_LINKS, fun s => s.disc.dark.length),
   (F.BELL_STATUS_HELD, fun s => if (s.listed .BELL_HELD).any (fun e => e.2 != 0) then 1 else 0),
   (F.CUP_STATUS_OPS, fun s => s.cup.carves.length + s.cup.retires.length),
   (F.CUP_STATUS_ACTIVE, fun s => s.cupolasIn 3),
   (F.CUP_STATUS_HELD, fun s => s.cupolasIn 5),
   (F.CUP_STATUS_UNBUILT, fun s => s.cupolasIn 0),
   (F.REP_STATUS_PENDING, fun s => if s.rep.queued.isEmpty then 0 else 1),
   (F.REP_STATUS_BATCH, fun s => s.rep.batch.length),
   (F.REP_STATUS_SPARES_FREE, fun s => (s.listed .REP_SPARE).foldl (fun n e => n + ones 64 e.2.toNat) 0),
   (F.GRD_STATUS_GROUPS, fun s => s.grd.groups.length),
   (F.GRD_STATUS_PROTECTED, fun s => s.groupsIn 3),
   (F.GRD_STATUS_EXPOSED, fun s => s.groupsIn 2),
   (F.GRD_STATUS_HELD, fun s => s.groupsIn 5),
   (F.GRD_STATUS_DIRECT_ANY, fun s => if (s.listed .GRD_GROUP).any (fun e => getBits e.2 8 1 == 1) then 1 else 0),
   (F.GRD_STATUS_SPILLING, fun s => if s.grd.groups.any (fun g => g.regions.any (·.spilled)) then 1 else 0),
   (F.GRAPH_STATUS_RESIDENT, fun s => s.graph.tasks.length),
   (F.GRAPH_STATUS_RUNNING, fun s => (s.graph.tasks.filter (fun t => t.state == 3 || t.state == 4)).length),
   (F.SEN_STATUS_SUSPECTS, fun s => (s.listed .SEN_SUSPECT).foldl (fun n e => n + ones 64 e.2.toNat) 0),
   (F.SEN_STATUS_HOLDING, fun s => if s.sen.holds.isEmpty then 0 else 1),
   (F.CHK_STATUS_ATTACHED, fun s => s.channelsIn 1 2),
   (F.CHK_STATUS_SUSPENDED, fun s => s.channelsIn 3 3),
   (F.CHK_STATUS_DISABLED, fun s => s.channelsIn 4 5),
   (F.CHK_STATUS_PROVISIONAL, fun s => sat 14 s.chk.provisional.length),
   (F.MBX_HIN_FULL_FULL, fun s => maskOf (s.mbx.hin.map (·.1))),
   (F.MBX_TWIN_IN_FULL, fun s => maskOf (s.mbx.twinIn.map (·.1))),
   (F.MBX_TWIN_OUT_FULL, fun s => maskOf ((s.mbx.posted.filter (fun w => w.party == 2)).map (·.idx))),
   (F.MBX_KEY_IN_FULL, fun s => maskOf (s.mbx.keyIn.map (·.1))),
   (F.MBX_KEY_OUT_FULL, fun s => maskOf ((s.mbx.posted.filter (fun w => w.party == 3)).map (·.idx))),
   (F.ETH_STATUS_SESSIONS, fun s => s.eth.sessions.length),
   (F.ETH_STATUS_SUBS, fun s => s.belf.subs.length),
   (F.ETH_STATUS_QPS, fun s => s.liveQps),
   (F.KEY_STATUS_CONFIDENTIAL, fun s => match s.plan.cur with | some p => p.flags / 2 % 2 | none => 0),
   (F.KEY_STATUS_ENROLLED, fun s => s.agreedSlots),
   (F.KEY_STATUS_ATTEST_STATE, fun s => s.attestState),
   (F.TWIN_STATUS_TWIN_PORTS, fun s => maskOf ((List.range 4).filter (fun i => s.gi F.PORT_STATUS_STATE (44 + i) == 2))),
   (F.BELF_STATUS_OPEN_CELLS, fun s => s.belf.cells.length),
   (F.BELF_STATUS_QUEUED, fun s => s.belf.queue.length + s.belf.staged.length)]

namespace State

/-- The status fields brought up to date. -/
def refresh (s : State) : State := derived.foldl (fun t e => t.p e.1 (e.2 s)) s

/-- The status fields agree with the state. -/
def coherent (s : State) : Bool := derived.all (fun e => s.g e.1 == e.2 s % 2 ^ e.1.len)

end State

/-- The output pins (Table 18.3): ALARM_N is asserted while the sentinel is engaged or a latch of severity 7 is set
(R321), and when stage 1 of bring-up fails (R442); PWR_GOOD is high while rails 0 to 8 are all in regulation (R410);
REF10M_OUT is held low until the lantern leaves UNSET (R444), and PPS_OUT runs when the time that it marks does (R301). PRESENT_N is tied to module ground. -/
def State.pinsNow (s : State) : Pins :=
  { s.pins with
    alarmN := !(s.g F.BELF_STATUS_STATE == 3 || s.criticalLatched || (s.g F.PWR_STATUS_STAGE == 1 && s.b F.PWR_STATUS_STAGE_FAIL))
    pwrGood := s.pwr.standbyUp && (List.range 9).all (fun r => s.gi F.PWR_RAIL_STATE r == 2)
    presentN := false
    ppsOut := s.g F.LANT_STATUS_STATE != 0 && (s.b F.LANT_CFG_PPS_OUT_SRC || s.b F.LANT_STATUS_TOD_VALID)
    ref10m := s.g F.LANT_STATUS_STATE != 0 }

/-- The end of every command: the status fields and the output pins follow the state. -/
def State.settle (s : State) : State := { s.refresh with pins := s.pinsNow }

/-- A command ends: its argument is what the command did. -/
def finish (s : State) : Host.Outcome State Fault Refusal := .next s.settle

end Sys2Proof.Machine
end

