-- ==== Sys2Proof/Machine/Recorder.lean ====
section
/-! DEFINITION. The belfry's recorder (R306 to R316): records, their stamps and fate in the write queue, the frozen
staging area and the overflow aggregates; telemetry entries queued for subscriptions (R326); alarms (R322). -/
namespace Sys2Proof.Machine

/-- Capacities of the staging region and the flash (R311, R312). -/
def cellCapacity : Nat := 262144
def queueCapacity : Nat := 65536
def stagedCapacity : Nat := 131072
def storeFirst : Nat := 16
def storeEnd : Nat := 16777216

/-- R349, R407: a count as confidential mode shows it, a multiple of 65,536. -/
def coarse (v : Nat) : Nat := v / 65536 * 65536

/-- An empty aggregate. -/
def Aggregate.empty : Aggregate := ⟨0, 0, 0, 0, 0, false⟩

namespace State

/-- Operating time, sixteenths of a second (R308). -/
def opTime (s : State) : Nat := s.g F.BELF_STAMP_OP_TIME

/-- Operating time has reached at least `t`. -/
def opAtLeast (s : State) (t : Nat) : State := if s.opTime < t then s.p F.BELF_STAMP_OP_TIME t else s

/-- The latch of a source is a field of BELF_ALARM (R322). -/
def sevOf (s : State) (src : Nat) : Nat := s.gi F.BELF_ALARM_SEV src

/-- FT_VALID and fabric time at close (R307): valid whenever the lantern is not UNSET. -/
def stampFlags (s : State) : Nat × Nat := if s.g F.LANT_STATUS_STATE = 0 then (0, 0) else (1, s.lant.now)

/-- An entry queued for one class of a subscription, under the queue limits of R326: when the queue is full an alarm
queue sheds its oldest REPEAT entry, an export queue the new entry, a trace queue its oldest. -/
def enqueueSub (u : Subscr) (cls : Nat) (e : TelEntry) : Subscr × Bool :=
  if cls = 0 then
    if u.q0.length < 1280 then ({ u with q0 := u.q0 ++ [e] }, false)
    else
      match u.q0.find? (fun x => x.entry.rtype == 0x11) with
      | some old => ({ u with q0 := u.q0.erase old ++ [e] }, true)
      | none => (u, true)
  else if cls = 1 then
    if u.q1.length < 32768 then ({ u with q1 := u.q1 ++ [e] }, false) else (u, true)
  else
    if u.q2.length < 1024 then ({ u with q2 := u.q2 ++ [e] }, false) else ({ u with q2 := u.q2.drop 1 ++ [e] }, true)

/-- Count entries shed (BELF_SHED). -/
def shed (s : State) (i n : Nat) : State :=
  if n = 0 then s else (s.bump .BELF_SHED 0 i n).raise F.BELF_EVENT_SHED 0 n

/-- Queue an entry for every subscription of a class (R324): a subscription names its classes in ETH_SUB. -/
def queueEntry (s : State) (cls : Nat) (r : Record) : State :=
  let e : TelEntry := ⟨r, s.round⟩
  let res : List (Subscr × Bool) := s.belf.subs.map (fun u =>
    if s.gi F.ETH_SUB_CLASSES u.slot / 2 ^ cls % 2 = 1 then enqueueSub u cls e else (u, false))
  let s1 := { s with belf := { s.belf with subs := res.map Prod.fst } }
  s1.shed cls (res.filter Prod.snd).length

/-- Fold a record into the overflow aggregate of its severity (R313). -/
def foldOverflow (s : State) (r : Record) : State :=
  let old := s.belf.aggregates.getD r.sev Aggregate.empty
  let new : Aggregate :=
    ⟨sat 32 (old.records + 1), sat 64 (old.events + r.count), r.source,
      if old.records = 0 then r.first else old.first, r.last, true⟩
  let s1 := { s with belf := { s.belf with aggregates := s.belf.aggregates.set r.sev new } }
  let s2 := (s1.pi F.BELF_OVERFLOW_RECORDS r.sev new.records).pi F.BELF_OVERFLOW_LAST_SOURCE r.sev r.source
  (s2.shed 5 1).raise F.BELF_EVENT_OVERFLOW r.sev 1

/-- A record that has closed is stamped and goes to the write queue, in a freeze to the frozen staging area, and where
that is full to its overflow aggregate (R310, R311, R315); an engaged sentinel writes nothing (R318). -/
def writeRecord (s : State) (r : Record) : State :=
  let (fv, ft) := s.stampFlags
  let r := { r with cycle := s.g F.BELF_CYCLE_POWER_CYCLES, op := s.opTime, ft := ft, flags := Nat.lor r.flags fv }
  let st := s.g F.BELF_STATUS_STATE
  if st = 3 then s
  else if st = 1 then
    if s.belf.staged.length < stagedCapacity then
      { s with belf := { s.belf with staged := s.belf.staged ++ [r], frozenStaged := s.belf.frozenStaged + 1 } }
    else
      let s1 := (s.foldOverflow r).raise F.BELF_EVENT_FROZEN_FULL 0 1
      { s1 with belf := { s1.belf with frozenFolded := s1.belf.frozenFolded + 1 } }
  else if s.belf.queue.length < queueCapacity then { s with belf := { s.belf with queue := s.belf.queue ++ [r] } }
  else s.foldOverflow r

/-- A record of a type, severity, source, instance and body that closes as it is written: count 1, first and last now. -/
def record (s : State) (rtype sev source inst : Nat) (body : Bytes) : State :=
  s.writeRecord ⟨rtype, sev, 0, source, 0, inst, 0, 0, 0, s.opTime, s.opTime, 1, fit 64 body⟩

/-- An event record (type EVENT) that a rule requires for a named event (R306). -/
def eventRecord (s : State) (f : Fld) (sev inst : Nat) (body : Bytes) : State :=
  s.record 0x0008 sev (sourceOf f) inst body

/-- A time anchor (R304, Table 11.3): severity 5. -/
def anchor (s : State) (kind flags session : Nat) (before after : Int) : State :=
  s.record 0x0003 5 (Source.code 11 5) 0
    ([BitVec.ofNat 8 kind, BitVec.ofNat 8 flags, 0, 0] ++ leBytes 4 session ++ leBytes 8 (toField 64 before)
      ++ leBytes 8 (toField 64 after))

/-- A cell as its record shows it: in confidential mode count, sum and bins are coarse (Table 13.7). -/
def shownCell (s : State) (c : Cell) : Cell :=
  if s.confidential then { c with count := coarse c.count, sum := c.sum / 65536 * 65536, bins := c.bins.map coarse } else c

/-- Close a cell into a record (R310). -/
def closeCell (s : State) (c : Cell) (early : Bool) : State :=
  let c := s.shownCell c
  let s1 := { s with belf := { s.belf with
    cells := s.belf.cells.filter (fun x => !(x.source == c.source && x.inst == c.inst)) } }
  let body := leBytes 8 (toField 64 c.vmin) ++ leBytes 8 (toField 64 c.vmax) ++ leBytes 8 (toField 64 c.sum)
    ++ (c.bins.map (leBytes 4)).flatten
  let flags := (if early then 4 else 0) + (if c.saturated then 8 else 0)
  let s2 := s1.writeRecord ⟨0x0001, c.sev, flags, c.source, 0, c.inst, 0, 0, 0, c.first, c.last, c.count, fit 64 body⟩
  if early then s2.shed 7 1 else s2

/-- Close every open cell (FLUSH, resets; R310), oldest first. -/
def closeCells (s : State) : State := s.belf.cells.foldl (fun t c => t.closeCell c false) s

end State

/-- The histogram bin of a value with bin shift 0 (Table 12.2). -/
def cellBin (v : Int) : Nat :=
  if v < 1 then 0 else if v < 2 then 1 else if v < 4 then 2 else if v < 8 then 3 else if v < 16 then 4
  else if v < 32 then 5 else if v < 64 then 6 else 7

/-- A signed sum that saturates at 64 bits. -/
def satSum (a b : Int) : Int := max (-(2 ^ 63 : Nat)) (min ((2 ^ 63 : Nat) - 1) (a + b))

/-- An event folded into a cell (R306, R309). -/
def Cell.fold (c : Cell) (now sev : Nat) (v : Int) : Cell :=
  { c with sev := max c.sev sev, last := now, count := sat 32 (c.count + 1), vmin := min c.vmin v, vmax := max c.vmax v,
           sum := satSum c.sum v,
           saturated := c.saturated || decide (c.count + 1 > 2 ^ 32 - 1) || decide (satSum c.sum v ≠ c.sum + v),
           bins := c.bins.set (cellBin v) (sat 32 (c.bins.getD (cellBin v) 0 + 1)) }

/-- A cell that opens at its first event. -/
def Cell.new (source inst sev now : Nat) (v : Int) : Cell :=
  ⟨source, inst, sev, now, now, now, 1, false, v, v, v, (List.replicate 8 0).set (cellBin v) 1⟩

/-- The open cell of lowest severity, oldest first. -/
def earliestCell (l : List Cell) : Option Cell :=
  l.foldl (fun best c =>
    match best with
    | none => some c
    | some b => if c.sev < b.sev then some c else best) none

/-- The copy that at least two of three agree on, bit by bit (R319). -/
def Voted.vote (v : Voted) : Word := (v.c0 &&& v.c1) ||| (v.c0 &&& v.c2) ||| (v.c1 &&& v.c2)

/-- Three equal copies. -/
def Voted.of (w : Word) : Voted := ⟨w, w, w⟩

namespace State

/-- A belfry sentinel register (R319). -/
def sentinelWord (s : State) (i : Nat) : Word := (s.belf.sentinel.getD i (Voted.of 0)).vote

/-- Write a belfry sentinel register: all three copies. -/
def setSentinel (s : State) (i : Nat) (w : Word) : State :=
  { s with belf := { s.belf with sentinel := s.belf.sentinel.set i (Voted.of w) } }

/-- R320: an event after engagement goes to an extremes cell of its source, or to the overflow byte of its severity. -/
def sentinelEvent (s : State) (source sev : Nat) (v : Int) : State :=
  let used := getBits (s.sentinelWord 3) 32 8
  let hit := (List.range (min used 30)).find? (fun j => getBits (s.sentinelWord (4 + 2 * j)) 0 16 == source)
  let low := s.opTime % 2 ^ 32
  match hit with
  | some j =>
    let a := s.sentinelWord (4 + 2 * j)
    let b := s.sentinelWord (5 + 2 * j)
    let a' := putBits (putBits a 16 3 (max (getBits a 16 3) sev)) 32 32 (sat 32 (getBits a 32 32 + 1))
    let b' := putBits (putBits b 0 32 (max (getBits b 0 32) (sat 32 v.toNat))) 32 32 low
    (s.setSentinel (4 + 2 * j) a').setSentinel (5 + 2 * j) b'
  | none =>
    if used < 30 then
      let s1 := (s.setSentinel (4 + 2 * used) (BitVec.ofNat 64 (source % 2 ^ 16 + sev % 8 * 2 ^ 16 + 2 ^ 32))).setSentinel
        (5 + 2 * used) (BitVec.ofNat 64 (sat 32 v.toNat + low * 2 ^ 32))
      s1.setSentinel 3 (putBits (s.sentinelWord 3) 32 8 (used + 1))
    else
      let w := s.sentinelWord 2
      s.setSentinel 2 (putBits w (8 * sev) 8 (sat 8 (getBits w (8 * sev) 8 + 1)))

/-- R322: an event of an enabled source sets its latch and queues an ALARM entry, or adds to COUNT. -/
def latchEvent (s : State) (source inst : Nat) : State :=
  if s.gi F.BELF_ALARM_LATCHED source = 1 then
    let n := sat 24 (s.gi F.BELF_ALARM_COUNT source + 1)
    (s.pi F.BELF_ALARM_COUNT source n).shed 6 1
  else if s.gi F.BELF_ALARM_ALARM source = 1 then
    let s1 := ((s.pi F.BELF_ALARM_LATCHED source 1).pi F.BELF_ALARM_COUNT source 1).pi F.BELF_ALARM_FIRST source
      (s.opTime % 2 ^ 32)
    let s2 := { s1 with belf := { s1.belf with announced := setKey s1.belf.announced source 1 } }
    let (fv, ft) := s.stampFlags
    s2.queueEntry 0 ⟨0x0010, s.sevOf source, fv, source, 0, inst, s.g F.BELF_CYCLE_POWER_CYCLES, s.opTime, ft,
      s.opTime, s.opTime, 1, zeros 64⟩
  else s

/-- R306, R310: fold an event into the cell of its source and instance, opening one (and closing an older one early
where the store has no room). -/
def foldEvent (s : State) (source inst : Nat) (v : Int) : State :=
  let sev := s.sevOf source
  if s.belf.cells.any (fun c => c.source == source && c.inst == inst) then
    let l := updWhere (fun c => c.source == source && c.inst == inst) (fun c => c.fold s.opTime sev v) s.belf.cells
    { s with belf := { s.belf with cells := l } }
  else
    let s1 :=
      if s.belf.cells.length < cellCapacity then s
      else
        match earliestCell s.belf.cells with
        | some c => s.closeCell c true
        | none => s
    { s1 with belf := { s1.belf with cells := s1.belf.cells ++ [Cell.new source inst sev s.opTime v] } }

/-- What the belfry does with an event (R306, R320, R322). -/
def belfryEvent (s : State) (source inst : Nat) (v : Int) : State :=
  let s1 := if s.g F.BELF_STATUS_STATE = 3 then s.sentinelEvent source (s.sevOf source) v else s.foldEvent source inst v
  s1.latchEvent source inst

end State

end Sys2Proof.Machine
end

