-- ==== Sys2Proof/Machine/Belfry.lean ====
section
/-! DEFINITION. The belfry's commands (chapter 12): cells, storage, freezing, the belfry sentinel, alarms, telemetry. -/
namespace Sys2Proof.Machine

/-- The 128 bytes of a record (Table 12.1). -/
def Record.encode (r : Record) : Bytes :=
  let head := leBytes 2 r.rtype ++ leBytes 1 (r.sev % 8) ++ leBytes 1 r.flags ++ leBytes 2 r.source ++ leBytes 2 r.unit
    ++ leBytes 4 r.inst ++ leBytes 4 r.cycle ++ leBytes 8 r.op ++ leBytes 8 r.ft ++ leBytes 8 r.first
    ++ leBytes 8 r.last ++ leBytes 4 r.count ++ zeros 4 ++ fit 64 r.body ++ zeros 4
  head ++ leBytes 4 (crc32c head)

/-- R307: stamps compare by power-cycle count, then by operating time. -/
def Record.earlier (a b : Record) : Bool := a.cycle < b.cycle || (a.cycle == b.cycle && a.op < b.op)

/-- The lowest free slot at or above `at_` in a store whose slots rise (R312). -/
def freeSlot (bad : List Nat) : Nat → List (Nat × Record) → Nat → Nat
  | 0, _, at_ => at_
  | n + 1, l, at_ =>
    if bad.contains at_ then freeSlot bad n l (at_ + 1)
    else
      match l.find? (fun e => e.1 == at_) with
      | some _ => freeSlot bad n l (at_ + 1)
      | none => at_

/-- The stored record with the earliest stamp among those of severity at most `sev` (R312). -/
def victimSlot (l : List (Nat × Record)) (sev : Nat) : Option Nat :=
  (l.foldl (fun (best : Option (Nat × Record)) e =>
    if e.1 < storeFirst || sev < e.2.sev then best
    else
      match best with
      | none => some e
      | some b => if e.2.earlier b.2 then some e else best) none).map (·.1)

namespace State

/-- The slot that the next record takes (R312), `none` where it is folded. -/
def flashSlot (s : State) (sev : Nat) : Option Nat :=
  let stored := s.belf.flash.filter (fun e => decide (storeFirst ≤ e.1))
  if stored.length + s.belf.badSlots.length < storeEnd - storeFirst then
    some (freeSlot s.belf.badSlots (stored.length + s.belf.badSlots.length) stored storeFirst)
  else victimSlot s.belf.flash sev

/-- Put a record into a flash slot, and send it to the recorder-export subscriptions (R324). -/
def storeRecord (s : State) (slot : Nat) (r : Record) : State :=
  let fresh := !(s.belf.flash.any (fun e => e.1 == slot)) && decide (storeFirst ≤ slot)
  let s1 := { s with belf := { s.belf with flash := setKey s.belf.flash slot r } }
  let s2 := if fresh then s1.p F.BELF_USED_SLOTS (s.g F.BELF_USED_SLOTS + 1) else s1
  s2.queueEntry 1 r

/-- The next record to write: staged records first in a merge (R316), then the write queue. -/
def nextRecord (s : State) : Option Record :=
  if s.g F.BELF_STATUS_STATE = 2 && !s.belf.staged.isEmpty then s.belf.staged.head? else s.belf.queue.head?

/-- The next record leaves its queue. -/
def dropRecord (s : State) : State :=
  if s.g F.BELF_STATUS_STATE = 2 && !s.belf.staged.isEmpty then
    { s with belf := { s.belf with staged := s.belf.staged.drop 1 } }
  else { s with belf := { s.belf with queue := s.belf.queue.drop 1 } }

/-- The belfry sentinel engages (R317, R318): a freeze or merge ends, the staged records are lost and counted, and the queued
ones stay where they are. Cause 4 does not say whether the flash is read-only or absent: whether it stays readable is then
a free value. -/
def sentinelEngage (s : State) (cause : Nat) : State :=
  if s.g F.BELF_STATUS_STATE = 3 then s
  else
    let frozen : Record → Bool := fun r => s.g F.BELF_STATUS_STATE == 1 || r.flags / 2 % 2 == 1
    let lost := (s.belf.staged.filter frozen).length
    let (n, s0) := if cause = 4 then s.draw else (0, s)
    let readable := if cause = 4 then Config.freeValue n % 2 else 1
    let s1 := { s0 with belf := { s0.belf with
      staged := [], queue := s.belf.staged.filter (fun r => !frozen r) ++ s.belf.queue } }
    let s2 := (s1.p F.BELF_STATUS_STATE 3).p F.BELF_STATUS_FLASH_READABLE readable
    let s3 := s2.setSentinel 0 (BitVec.ofNat 64 (cause % 16 + s.g F.BELF_CYCLE_POWER_CYCLES * 2 ^ 32))
    let s4 := s3.setSentinel 1 (BitVec.ofNat 64 s.opTime)
    let s5 := s4.setSentinel 3 (putBits (s4.sentinelWord 3) 40 24 (sat 24 lost))
    (s5.p F.BELF_EVENT_SENTINEL 1).latchEvent (sourceOf F.BELF_EVENT_SENTINEL) 0

/-- R318: a flash write that has failed on three slots in turn engages the sentinel. -/
def slotsFail (s : State) : State := if 3 ≤ s.belf.badSlots.length then s.sentinelEngage 3 else s

/-- RECORD_FLASH_WRITE (R312): one record goes to its slot, or is folded; a failed write marks its slot. Nothing is
written while FROZEN (R315) or in the sentinel (R318). -/
def recordFlashWrite (s : State) (good : Bool) : State :=
  let st := s.g F.BELF_STATUS_STATE
  if st = 1 || st = 3 then s
  else
    match s.nextRecord with
    | none => s
    | some r =>
      match s.flashSlot r.sev with
      | none => s.dropRecord.foldOverflow r
      | some slot =>
        if good then
          let s1 := s.dropRecord
          ({ s1 with belf := { s1.belf with badSlots := [] } }).storeRecord slot r
        else ({ s with belf := { s.belf with badSlots := addOnce slot s.belf.badSlots } }).slotsFail

/-- R313: the overflow aggregates that have changed are written to their slots at the close of a cell interval. -/
def writeOverflowSlots (s : State) : State :=
  let st := s.g F.BELF_STATUS_STATE
  if st = 1 || st = 3 then s
  else
    (List.range 8).foldl (fun t i =>
      let a := t.belf.aggregates.getD i Aggregate.empty
      if a.changed then
        let t1 := { t with belf := { t.belf with aggregates := t.belf.aggregates.set i { a with changed := false } } }
        let (fv, ft) := t.stampFlags
        t1.storeRecord i ⟨0x0004, i, fv, a.lastSource, 0, 0, t.g F.BELF_CYCLE_POWER_CYCLES, t.opTime, ft, a.first,
          a.last, a.records, fit 64 (leBytes 8 a.events ++ leBytes 2 a.lastSource)⟩
      else t) s

/-- CELL_CLOSE (R310): the cell has been open for BELF_CFG.INTERVAL seconds of operating time. The sentinel writes nothing
(R318). -/
def cellClose (s : State) (source inst : Nat) : State :=
  if s.g F.BELF_STATUS_STATE = 3 then s
  else
  match s.belf.cells.find? (fun c => c.source == source && c.inst == inst) with
  | none => s
  | some c => ((s.opAtLeast (c.opened + 16 * s.g F.BELF_CFG_INTERVAL)).closeCell c false).writeOverflowSlots

/-- FLUSH (R310); the sentinel writes nothing (R318). -/
def belfFlush (s : State) : State := if s.g F.BELF_STATUS_STATE = 3 then s.ok else s.closeCells.writeOverflowSlots.ok

/-- FREEZE (R315, R317). -/
def belfFreeze (s : State) : State :=
  if s.g F.BELF_STATUS_STATE = 0 then
    let s1 := (s.p F.BELF_STATUS_STATE 1).p F.BELF_FREEZE_START s.opTime
    ({ s1 with belf := { s1.belf with frozenFolded := 0, frozenStaged := 0 } }).ok
  else s.err Status.state 0

/-- The end of a freeze (R316): the records that closed before it and the staged ones are written first, then one FREEZE
record. -/
def endFreeze (s : State) (auto : Bool) : State :=
  let (fv, ft) := s.stampFlags
  let body := leBytes 8 (s.g F.BELF_FREEZE_START) ++ leBytes 4 s.belf.frozenStaged ++ leBytes 4 s.belf.frozenFolded
    ++ leBytes 1 (if auto then 1 else 0)
  let fr : Record := ⟨0x0005, 3, fv, Source.code 12 3, 0, 0, s.g F.BELF_CYCLE_POWER_CYCLES, s.opTime, ft, s.opTime,
    s.opTime, 1, fit 64 body⟩
  let staged := s.belf.queue ++ s.belf.staged.map (fun r => { r with flags := Nat.lor r.flags 2 })
  let s1 := { s with belf := { s.belf with staged := staged, queue := [fr] } }
  (s1.p F.BELF_STATUS_STATE 2).p F.BELF_STATUS_AUTO_THAWED (if auto then 1 else 0)

/-- THAW (R316, R317). -/
def belfThaw (s : State) : State :=
  if s.g F.BELF_STATUS_STATE = 1 then (s.endFreeze false).ok else s.err Status.state 0

/-- AUTO_THAW (R315): 120 s after FREEZE. -/
def autoThaw (s : State) : State :=
  if s.g F.BELF_STATUS_STATE = 1 then
    ((s.opAtLeast (s.g F.BELF_FREEZE_START + 1920)).endFreeze true).raise F.BELF_EVENT_AUTO_THAW 0 1
  else s

/-- MERGE_DONE (R316). -/
def mergeDone (s : State) : State :=
  if s.g F.BELF_STATUS_STATE = 2 && s.belf.staged.isEmpty then s.p F.BELF_STATUS_STATE 0 else s

/-- BELF_SENT_READ (R319): the majority of three copies; a copy in disagreement is rewritten and counted. -/
def belfSentRead (s : State) (i : Nat) : State :=
  if 64 ≤ i then s.err Status.address 0
  else
    let v := s.belf.sentinel.getD i (Voted.of 0)
    let w := v.vote
    let s1 :=
      if v == Voted.of w then s
      else
        let t := s.setSentinel i w
        let c := t.sentinelWord 3
        (t.setSentinel 3 (putBits c 0 32 (sat 32 (getBits c 0 32 + 1)))).raise F.BELF_EVENT_VOTE_CORRECTED i 1
    let s2 := s1.ok
    { s2 with answer := { s2.answer with b := 1, words := [w] } }

/-- A write of BELF_ALARM[source] (R309, R322): LATCHED is W1C; a severity below its reset value, or clearing an enable
that resets to 1, is answered with VALUE. -/
def writeAlarm (s : State) (source : Nat) (v : Word) : State :=
  if 608 ≤ source then s.err Status.address 0
  else if getBits v 2 3 < Source.severity source || (getBits v 1 1 = 0 && Source.alarm source = 1) then
    s.err Status.value 0
  else
    let s1 := (s.pi F.BELF_ALARM_ALARM source (getBits v 1 1)).pi F.BELF_ALARM_SEV source (getBits v 2 3)
    (if getBits v 0 1 = 1 then s1.pi F.BELF_ALARM_LATCHED source 0 else s1).ok

/-- Load a window of 64 slots (R314); the record store stands still while it is copied. -/
def loadWindow (s : State) (w : Nat) : State :=
  let win := (s.belf.flash.filter (fun e => e.1 / 64 == w)).map (fun e => (e.1 % 64, e.2))
  ({ s with belf := { s.belf with window := win } }).p F.BELF_READ_SEL_WINDOW w

/-- Word i of the loaded window: 16 words a slot; a slot never written reads as zeros (R314). -/
def windowWord (s : State) (i : Nat) : Word :=
  match s.belf.window.find? (fun e => e.1 == i / 16) with
  | some e => BitVec.ofNat 64 (field e.2.encode (8 * (i % 16)) 8)
  | none => 0

/-- REPEAT_BOUNDARY (R323), at the boundary of a round that is a multiple of BELF_CFG.REPEAT. -/
def repeatBoundary (s : State) : State :=
  if s.round % max 1 (s.g F.BELF_CFG_REPEAT) = 0 then
    let (fv, ft) := s.stampFlags
    let s1 := (s.listed .BELF_ALARM).foldl (fun (t : State) e =>
      let n := getBits e.2 8 24
      if getBits e.2 0 1 = 1 && lookupD t.belf.announced e.1 0 != n then
        let t1 := { t with belf := { t.belf with announced := setKey t.belf.announced e.1 n } }
        t1.queueEntry 0 ⟨0x0011, getBits e.2 2 3, fv, e.1, 0, 0, t.g F.BELF_CYCLE_POWER_CYCLES, t.opTime, ft,
          t.opTime, t.opTime, if t.confidential then coarse n else n, zeros 64⟩
      else t) s
    let counts := (List.range 8).map (fun i => (s1.rd .BELF_SHED 0 i).toNat)
    if counts = s1.belf.shedSeen then s1
    else
      let body := (counts.map (leBytes 8)).flatten
      let s2 := { s1 with belf := { s1.belf with shedSeen := counts } }
      let r : Record := ⟨0x0007, 3, fv, Source.code 12 1, 0, 0, s.g F.BELF_CYCLE_POWER_CYCLES, s.opTime, ft, s.opTime,
        s.opTime, 1, body⟩
      (s2.writeRecord r).queueEntry 0 r
  else s

end State

/-- The COUNT arrays of a block (R324): array, and its length in registers. -/
def countArray (block : Nat) : Option (Reg × Nat) :=
  match block with
  | 3 => some (.BELL_COUNT, 8)
  | 5 => some (.REP_COUNT, 8)
  | 6 => some (.GRD_COUNT, 11)
  | 7 => some (.GRAPH_COUNT, 8)
  | 8 => some (.SEN_COUNT, 8)
  | 9 => some (.CHK_COUNT, 8)
  | 10 => some (.MBX_COUNT, 8)
  | 11 => some (.LANT_COUNT, 8)
  | 13 => some (.KEY_COUNT, 8)
  | 14 => some (.TWIN_COUNT, 8)
  | 16 => some (.ETH_COUNT, 8)
  | _ => none

namespace State

/-- A counter as a trace shows it: in confidential mode the value last latched, made coarse (Table 13.7). -/
def tracedCount (s : State) (r : Reg) (node i : Nat) : Nat :=
  if s.confidential then
    coarse (match s.eth.latched.find (keyOf r node i) with | some w => w | none => resetOf r node i).toNat
  else (s.rd r node i).toNat

/-- A TRACE entry of eight counters (R324). -/
def traceEntry (s : State) (source inst : Nat) (values : List Nat) : Record :=
  let (fv, ft) := s.stampFlags
  ⟨0x0020, 0, fv, source, 1, inst, s.g F.BELF_CYCLE_POWER_CYCLES, s.opTime, ft, s.opTime, s.opTime, 1,
    fit 64 ((values.map (leBytes 8)).flatten)⟩

/-- TRACE_PERIOD (R324): the traces of the present round. -/
def tracePeriod (s : State) : State :=
  let tp := max 1 (s.g F.BELF_CFG_TRACE_PERIOD)
  let s1 :=
    if s.b F.BELF_TRACE_AGENTS then
      s.boundNodes.foldl (fun t n =>
        if s.round % tp = n % tp then
          (t.updAg n (fun a => { a with telemetry := a.telemetry ++ [(1, s.round)] })).queueEntry 2
            (s.traceEntry (Source.code 18 0) n ((List.range 8).map (fun i => s.tracedCount .AG_COUNT n i)))
        else t) s
    else s
  if s.round % tp = 0 then
    (List.range 18).foldl (fun t k =>
      if s.g F.BELF_TRACE_BLOCKS / 2 ^ k % 2 = 1 then
        match countArray k with
        | some (r, len) =>
          (List.range (ceilDiv len 8)).foldl (fun (t2 : State) j =>
            t2.queueEntry 2 (s.traceEntry (Source.code k 0) (r.base + 64 * j)
              ((List.range 8).map (fun i => if 8 * j + i < len then s.tracedCount r 0 (8 * j + i) else 0)))) t
        | none => t
      else t) s1
  else s1

end State

/-- The queue of a class of a subscription. -/
def Subscr.subQueue (u : Subscr) (cls : Nat) : List TelEntry :=
  if cls = 0 then u.q0 else if cls = 1 then u.q1 else u.q2

namespace State

/-- ACTIVE cupolas. -/
def activeCupolas (s : State) : List Nat :=
  ((s.listed .CUP_ENTRY).filter (fun e => getBits e.2 0 3 == 3)).map (·.1)

/-- R326: the rate of a class in B/s: BELF_ETH_BUDGET and the budgets of the ACTIVE cupolas' templates. -/
def classRate (s : State) (cls : Nat) : Nat :=
  s.activeCupolas.foldl (fun n c =>
    match s.template c with
    | some t => n + (if cls = 0 then t.alarmEth else if cls = 1 then t.exportEth else t.traceEth)
    | none => n) (s.gi F.BELF_ETH_BUDGET_RATE cls)

/-- Tokens of one round (R326): rate × time, at most rate × 16 ms; a byte is 10^9 units. -/
def refillTokens (s : State) : State :=
  { s with belf := { s.belf with subs := s.belf.subs.map (fun u =>
      { u with tokens := (List.range 3).map (fun c =>
        min (s.classRate c * 16000000) (u.tokens.getD c 0 + s.classRate c * s.roundNs)) }) } }

/-- Replace the subscription of a slot. -/
def setSub (s : State) (u : Subscr) : State :=
  { s with belf := { s.belf with subs := s.belf.subs.map (fun x => if x.slot == u.slot then u else x) } }

/-- TELEMETRY_SEND (R275, R324, R326): one datagram of up to 64 entries of a class, as its tokens allow; a class waits
for the classes before it. In confidential mode nothing is sent before MKA has secured the port (R266). -/
def telemetrySend (s : State) (slot cls : Nat) : State :=
  match s.belf.subs.find? (fun u => u.slot == slot) with
  | none => s
  | some u =>
    let cost := 128 * 1000000000
    let blocked := (List.range cls).any (fun c => !(u.subQueue c).isEmpty && decide (cost ≤ u.tokens.getD c 0))
    let n := min 64 (min (u.subQueue cls).length (u.tokens.getD cls 0 / cost))
    if n = 0 || blocked || 3 ≤ cls || (s.confidential && !s.b F.ETH_STATUS_SECURED) then s
    else
      let es := (u.subQueue cls).take n
      let u1 := { u with tokens := u.tokens.set cls (u.tokens.getD cls 0 - n * cost),
                         seqs := u.seqs.set cls (u.seqs.getD cls 0 + 1),
                         q0 := if cls = 0 then u.q0.drop n else u.q0,
                         q1 := if cls = 1 then u.q1.drop n else u.q1,
                         q2 := if cls = 2 then u.q2.drop n else u.q2 }
      let s1 := (s.setSub u1).emit .telemetry (s.gi F.ETH_SUB_PORT slot) cls [u.seqs.getD cls 0]
        ((es.map (fun e => e.entry.encode)).flatten)
      (s1.count .ETH_COUNT 7).count .ETH_COUNT 1

/-- TELEMETRY_SHED (R326): entries that have waited longer than their class allows: alarms REPEAT rounds, traces the
round in which they became ready. -/
def telemetryShed (s : State) (slot cls : Nat) : State :=
  match s.belf.subs.find? (fun u => u.slot == slot) with
  | none => s
  | some u =>
    let late : TelEntry → Bool := fun e =>
      if cls = 0 then decide (e.ready + s.g F.BELF_CFG_REPEAT < s.round) else decide (e.ready < s.round)
    if cls = 0 then
      (s.setSub { u with q0 := u.q0.filter (fun e => !late e) }).shed 0 (u.q0.filter late).length
    else if cls = 2 then
      (s.setSub { u with q2 := u.q2.filter (fun e => !late e) }).shed 2 (u.q2.filter late).length
    else s

/-- AGENT_FRAME_SHED (R325, R408): an agent sheds its telemetry frames of a class that are too old: alarm frames after 8
rounds, trace frames at the end of the round in which they became ready. -/
def agentFrameShed (s : State) (node cls : Nat) : State :=
  let a := s.ag node
  let late : Nat × Nat → Bool := fun e =>
    e.1 == cls && (if cls = 0 then decide (e.2 + 8 ≤ s.round) else decide (e.2 < s.round))
  let n := (a.telemetry.filter late).length
  (s.setAg { a with telemetry := a.telemetry.filter (fun e => !late e) }).bump .AG_COUNT node
    (if cls = 0 then 12 else 13) n

/-- AGENT_SHED_READ (R325): every 64 rounds Varlor adds the increase of the agents' shed counts to BELF_SHED[3] and [4]. -/
def agentShedRead (s : State) : State :=
  if s.round % 64 = 0 then
    s.boundNodes.foldl (fun t n =>
      [0, 1].foldl (fun (t2 : State) c =>
        let now := (t2.rd .AG_COUNT n (12 + c)).toNat
        let seen := match t2.belf.agentShed.find? (fun e => e.1 == n && e.2.1 == c) with
          | some e => e.2.2
          | none => 0
        let l := t2.belf.agentShed.filter (fun e => !(e.1 == n && e.2.1 == c)) ++ [(n, c, now)]
        ({ t2 with belf := { t2.belf with agentShed := l } }).shed (3 + c) (now - seen)) t) s
  else s

/-- OPERATING_TIME_WRITE (R308): 1,024 sixteenths after the last write the operating time goes to flash. -/
def operatingTimeWrite (s : State) : State :=
  let s1 := s.opAtLeast (s.belf.opFlash + 1024)
  { s1 with belf := { s1.belf with opFlash := s1.opTime } }

/-- The smallest alarm budget that R327 allows for a REPEAT of `r` rounds of `ns` ns. -/
def alarmFloor (r ns : Nat) : Nat := max 160000 (ceilDiv (155776 * 1000000000) (max 1 (r * ns)))

/-- R325: the allowance of a class for one agent, in units of 64 bytes per round: U × S / 4,096 bytes. -/
def allowance (s : State) (node : Nat) : Word :=
  let up := s.ga F.AG_TREE_UPLINK node 0
  let slots := (s.tables.slotsOf (s.logical node) up).filter isMgmt
  let u := slots.length * 187200
  let mine := s.activeCupolas.filter (fun c => (s.cupAgents c).contains node)
  let add (f : TplRec → Nat) : Nat := mine.foldl (fun n c =>
    match s.template c with
    | some t => n + f t
    | none => n) 0
  let al := s.g F.BELF_SHARE_ALARM + add (·.alarmShare)
  let ex := s.g F.BELF_SHARE_EXPORT + add (·.exportShare)
  let tr := s.g F.BELF_SHARE_TRACE + add (·.traceShare)
  let al := min al 4096
  let ex' := min ex (4096 - al)
  let tr' := min tr (4096 - al - ex')
  let unit (sh : Nat) : Nat := u * sh / 4096 / 64
  BitVec.ofNat 64 (unit al % 2 ^ 20 + unit ex' % 2 ^ 20 * 2 ^ 20 + unit tr' % 2 ^ 20 * 2 ^ 40)

/-- ALLOWANCE_WRITE (R325): each agent's allowance is written where it changes; the agent takes it at the next round
boundary (R408). -/
def writeAllowances (s : State) : State :=
  s.boundNodes.foldl (fun (t : State) n =>
    let w := s.allowance n
    if t.rd .AG_ALLOW n 0 = w then t
    else (t.updAg n (fun a => { a with allowNext := some w })).send .access n 0x58 [w.toNat]) s

end State

-- The meanings

/-- BELFRY_EVENT (R306). -/
def execBelfryEvent (source inst : Nat) (v : Int) (s : State) : Host.Outcome State Fault Refusal :=
  finish (s.belfryEvent source inst v)
/-- CELL_CLOSE (R310). -/
def execCellClose (source inst : Nat) (s : State) : Host.Outcome State Fault Refusal := finish (s.cellClose source inst)
/-- FLUSH (R310). -/
def execFlush (s : State) : Host.Outcome State Fault Refusal := finish s.belfFlush
/-- RECORD_FLASH_WRITE (R312). -/
def execRecordFlashWrite (good : Bool) (s : State) : Host.Outcome State Fault Refusal := finish (s.recordFlashWrite good)
/-- FREEZE (R315). -/
def execFreeze (s : State) : Host.Outcome State Fault Refusal := finish s.belfFreeze
/-- THAW (R316). -/
def execThaw (s : State) : Host.Outcome State Fault Refusal := finish s.belfThaw
/-- AUTO_THAW (R315). -/
def execAutoThaw (s : State) : Host.Outcome State Fault Refusal := finish s.autoThaw
/-- MERGE_DONE (R316). -/
def execMergeDone (s : State) : Host.Outcome State Fault Refusal := finish s.mergeDone
/-- BELFRY_SENTINEL_ENGAGE (R318). -/
def execBelfrySentinelEngage (cause : Nat) (s : State) : Host.Outcome State Fault Refusal := finish (s.sentinelEngage cause)
/-- BELF_SENT_READ (R319). -/
def execBelfSentRead (i : Nat) (s : State) : Host.Outcome State Fault Refusal := finish (s.belfSentRead i)
/-- BELF_ALARM_CLEAR (R322). -/
def execBelfAlarmClear (source : Nat) (v : Word) (s : State) : Host.Outcome State Fault Refusal :=
  finish (s.writeAlarm source v)
/-- BELF_READ_SEL_WRITE (R314). -/
def execBelfReadSelWrite (v : Word) (s : State) : Host.Outcome State Fault Refusal :=
  finish (s.loadWindow (getBits v 0 18)).ok
/-- BELF_READ_WORD_ADVANCE (R314). -/
def execBelfReadWordAdvance (s : State) : Host.Outcome State Fault Refusal :=
  finish (s.loadWindow ((s.g F.BELF_READ_SEL_WINDOW + 1) % 2 ^ 18))
/-- REPEAT_BOUNDARY (R323). -/
def execRepeatBoundary (s : State) : Host.Outcome State Fault Refusal := finish s.repeatBoundary
/-- TRACE_PERIOD (R324). -/
def execTracePeriod (s : State) : Host.Outcome State Fault Refusal := finish s.tracePeriod
/-- TELEMETRY_SEND (R326). -/
def execTelemetrySend (slot cls : Nat) (s : State) : Host.Outcome State Fault Refusal := finish (s.telemetrySend slot cls)
/-- TELEMETRY_SHED (R326). -/
def execTelemetryShed (slot cls : Nat) (s : State) : Host.Outcome State Fault Refusal := finish (s.telemetryShed slot cls)
/-- AGENT_FRAME_SHED (R325). -/
def execAgentFrameShed (node cls : Nat) (s : State) : Host.Outcome State Fault Refusal :=
  finish (s.agentFrameShed node cls)
/-- AGENT_SHED_READ (R325). -/
def execAgentShedRead (s : State) : Host.Outcome State Fault Refusal := finish s.agentShedRead
/-- OPERATING_TIME_WRITE (R308). -/
def execOperatingTimeWrite (s : State) : Host.Outcome State Fault Refusal := finish s.operatingTimeWrite

end Sys2Proof.Machine
end

