-- ==== Sys2Proof/Machine/Ring.lean ====
section
/-! DEFINITION. Items and their fate (chapter 7): task descriptors, item IDs, the completion ring, and the end of tasks
and sub-items with everything that follows from it (R194 to R206). Every unit that ends an item uses these. -/
namespace Sys2Proof.Machine

-- Status codes of Table 7.8
namespace Fate
abbrev done : Nat := 0x00
abbrev link : Nat := 0x01
abbrev peerLost : Nat := 0x02
abbrev timeout : Nat := 0x03
abbrev check : Nat := 0x04
abbrev checkvalueOnly : Nat := 0x05
abbrev keyRetired : Nat := 0x06
abbrev disabled : Nat := 0x07
abbrev unconfirmed : Nat := 0x08
abbrev capacity : Nat := 0x09
abbrev policy : Nat := 0x0A
abbrev cancelled : Nat := 0x0B
end Fate

-- Kinds of Table 7.1
namespace Kind
abbrev fold : Nat := 0x01
abbrev sealing : Nat := 0x02
abbrev reconstruct : Nat := 0x03
abbrev regenerate : Nat := 0x04
abbrev exp : Nat := 0x05
abbrev imp : Nat := 0x06
abbrev scalar : Nat := 0x07
abbrev table : Nat := 0x08
abbrev barrier : Nat := 0x09
abbrev sentinel : Nat := 0x0A
abbrev notify : Nat := 0x0B
end Kind

-- Channel states of Table 9.3
namespace Chan
abbrev idle : Nat := 0
abbrev attached : Nat := 1
abbrev suspending : Nat := 2
abbrev suspended : Nat := 3
abbrev disabling : Nat := 4
abbrev disabled : Nat := 5
end Chan

-- The descriptor (Table 7.2)
namespace Task
def kind (t : Task) : Nat := field t.desc 0 1
def proceed (t : Task) : Bool := field t.desc 1 1 % 2 == 1
def limit (t : Task) : Nat := field t.desc 3 1
def cupola (t : Task) : Nat := field t.desc 4 2
def group (t : Task) : Nat := field t.desc 6 1
def start (t : Task) : Nat := field t.desc 8 4
def length (t : Task) : Nat := field t.desc 0x0C 4
def flow (t : Task) : Nat := field t.desc 0x10 2
def step (t : Task) : Nat := field t.desc 0x18 6
/-- A number of `n` bytes at an offset of the parameters (Table 7.3). -/
def param (t : Task) (off n : Nat) : Nat := field t.desc (0x30 + off) n
/-- R196: first round of the window. -/
def opensAt (t : Task) : Nat := t.base + t.start
/-- R196: last round of the window, with a fallback's extension (Table 2.9). -/
def closesAt (t : Task) : Nat := t.base + t.start + t.length + t.extra - 1
/-- The window is open in a round; a task without a window is always open. -/
def isOpen (t : Task) (round : Nat) : Bool :=
  t.length == 0 || (decide (t.opensAt ≤ round) && decide (round ≤ t.closesAt))
/-- Every dependence is met. -/
def ready (t : Task) : Bool := t.preds.all (fun p => t.metPreds.contains p)
/-- WAITING or ARMED. -/
def unstarted (t : Task) : Bool := t.state == 1 || t.state == 2
/-- RUNNING or STOPPING. -/
def live (t : Task) : Bool := t.state == 3 || t.state == 4
/-- Sub-items still in flight. -/
def inFlight (t : Task) : List SubItem := t.subs.filter (fun x => !x.done)
/-- Drain bound of what a task has in flight: 2 rounds on a queue pair (Table 7.12) and for table segments, which are management
frames; 4 for undo copies, in GUARD flows; else that of its flow's class (Table 4.5). -/
def drain (t : Task) (tb : Tables) : Nat :=
  t.inFlight.foldl (fun n x =>
    max n (if x.kind = 1 || x.kind = 4 then 2 else if x.kind = 2 then 4 else drainBound (tb.classOfFlow t.flow))) 0
end Task

/-- The 32 bytes of a completion record (Table 7.7). -/
def Completion.encode (c : Completion) : Bytes :=
  leBytes 4 c.item ++ leBytes 1 c.status ++ leBytes 3 c.detail ++ leBytes 8 c.time ++ leBytes 8 c.bytesDone
    ++ leBytes 4 c.seq ++ leBytes 1 c.kind ++ leBytes 1 c.spire ++ leBytes 1 c.flags ++ leBytes 1 c.epoch

namespace State

/-- The generation of a resident index (R199). -/
def generation (s : State) (idx : Nat) : Nat := lookupD s.graph.gens idx 0

/-- The item ID of a resident index (Table 0.4). -/
def itemId (s : State) (idx : Nat) : Nat := idx % 2 ^ 16 + s.generation idx % 2 ^ 16 * 2 ^ 16

/-- The resident task of an index. -/
def task (s : State) (idx : Nat) : Option Task := s.graph.tasks.find? (fun t => t.idx == idx)

/-- The resident task that an item ID names (R199): its generation must be current. -/
def taskOf (s : State) (item : Nat) : Option Task :=
  if s.itemId (item % 2 ^ 16) = item then s.task (item % 2 ^ 16) else none

/-- Change a resident task. -/
def updTask (s : State) (idx : Nat) (f : Task → Task) : State :=
  { s with graph := { s.graph with tasks := updWhere (fun t => t.idx == idx) f s.graph.tasks } }

/-- Ring capacity in records (R204). -/
def ringCapacity (s : State) : Nat :=
  if s.g F.GRAPH_RING_CFG_CAP_LOG2 = 0 then 0 else 2 ^ s.g F.GRAPH_RING_CFG_CAP_LOG2

/-- Records written and not consumed. -/
def unconsumed (s : State) : Nat :=
  (s.g F.GRAPH_RING_HEAD_HEAD + 2 ^ 32 - s.g F.GRAPH_RING_TAIL_TAIL) % 2 ^ 32

/-- The entries reserved fall by `n`. -/
def unreserve (s : State) (n : Nat) : State :=
  s.p F.GRAPH_RING_RESERVED_RESERVED (s.g F.GRAPH_RING_RESERVED_RESERVED - n)

/-- Append a record to the ring, and to its copy in JOURNAL (R203, R206). -/
def pushRecord (s : State) (c : Completion) : State :=
  let c := { c with epoch := s.g F.GRAPH_RING_CFG_EPOCH % 256 }
  let journal := if s.b F.GRAPH_RING_CFG_JOURNALLED then s.graph.journal ++ [c] else s.graph.journal
  let s1 := { s with graph := { s.graph with ring := s.graph.ring ++ [c], journal := journal } }
  (s1.p F.GRAPH_RING_HEAD_HEAD ((s.g F.GRAPH_RING_HEAD_HEAD + 1) % 2 ^ 32)).count .GRAPH_COUNT 1

/-- The detail field of a record (Table 7.8): the count of a DONE record saturates. -/
def detailField (status detail : Nat) : Nat := if status = Fate.done then min detail (2 ^ 24 - 1) else detail % 2 ^ 24

/-- Write one record of an item and take it from the reservation (R203, R205); a record of a FORWARD graph is also sent
to the coordinator (R225). -/
def writeCompletion (s : State) (t : Task) (status detail bytesDone seq flags : Nat) : State :=
  let c : Completion := ⟨s.itemId t.idx, status, detailField status detail, s.lant.now, bytesDone, seq, t.kind, s.spire, flags, 0⟩
  let s1 := (s.pushRecord c).unreserve 1
  let away := match s.plan.cur with
    | some p => !p.coordinatorFlag
    | none => true
  if t.forward && away then
    s1.emit .record (match s.plan.cur with | some p => p.coordinator | none => 0) 0 []
      ({ c with flags := Nat.lor flags 2 }).encode
  else s1

/-- A sub-item's own record (R203): SUB set. -/
def subRecord (s : State) (idx seq status detail : Nat) : State :=
  match s.task idx with
  | none => s
  | some t =>
    let s1 := s.writeCompletion t status detail 0 seq 1
    s1.updTask idx (fun t => { t with reserved := t.reserved - 1 })

/-- A task still waits for the task of a resident index. A dependence that was met stands: a later task of that index, which is
of another generation, is no predecessor of it (R195, R199). -/
def awaits (succ : Task) (idx : Nat) : Bool := succ.preds.contains idx && !succ.metPreds.contains idx

/-- Whether a task, on ending, leaves a dependence met (R195). -/
def meets (t succ : Task) (status : Nat) : Bool := awaits succ t.idx && (status == Fate.done || succ.proceed)

/-- The graph engine is being disabled: no task starts, and its dispatch pass has stopped (R209). -/
def engineStopped (s : State) : Bool := s.graph.disables.any (fun d => d.function == 7 && d.stopped)

/-- The bytes-done field of a task's own record (Table 7.7). -/
def doneField (t : Task) : Nat := if t.kind = Kind.scalar then t.results.getD 0 0 else t.bytesDone

def chkState (s : State) (c : Nat) : Nat := s.gi F.CHK_STATE_STATE c
def setChk (s : State) (c st : Nat) : State := s.pi F.CHK_STATE_STATE c st
/-- Running value and byte count of a channel. -/
def setRunning (s : State) (c value bytes : Nat) : State := (s.pi F.CHK_VALUE_VALUE c value).pi F.CHK_BYTES_BYTES c bytes
/-- A channel returns to IDLE. -/
def idleChannel (s : State) (c : Nat) : State :=
  { s with chk := { s.chk with claimed := s.chk.claimed.filter (fun e => e.1 != c),
                               bounds := s.chk.bounds.filter (fun e => e.1 != c) } }.setChk c Chan.idle

/-- R257: a channel enters SUSPENDED because its task failed or control moved: its values are the checkpoint's. -/
def suspendAtCheckpoint (s : State) (c : Nat) : State :=
  let s1 := { s with chk := { s.chk with claimed := s.chk.claimed.filter (fun e => e.1 != c),
                                         bounds := s.chk.bounds.filter (fun e => e.1 != c) } }
  (s1.setRunning c (s.gi F.CHK_CKPT_VALUE_VALUE c) (s.gi F.CHK_CKPT_BYTES_BYTES c)).setChk c Chan.suspended

/-- A channel that a task claimed (Table 9.3): IDLE when the task ends DONE, otherwise SUSPENDED at its checkpoint. The stream of a
SUSPENDING one has ended; one that a command has taken elsewhere stays there. -/
def releaseChannels (s : State) (idx status : Nat) : State :=
  (s.chk.claimed.filter (fun e => e.2 == idx)).foldl (fun (t : State) e =>
    let st := t.chkState e.1
    if st = Chan.attached || st = Chan.suspending then
      if status ≠ Fate.done then t.suspendAtCheckpoint e.1
      else if st = Chan.attached then t.idleChannel e.1
      else t.setChk e.1 Chan.suspended
    else t) s

/-- Something held under a cupola and a tag is held for a SCALAR_REDUCE (R212). -/
def heldFor (t : Task) (cupola tag : Nat) : Bool := t.kind == Kind.scalar && t.cupola == cupola && t.param 4 4 == tag

/-- What a task holds goes with it: staged packages and shards, a claimed channel, a broadcast, the contributions of a scalar, and its
ring reservation that no record has used. -/
def releaseTask (s : State) (t : Task) : State :=
  let s1 := { s with
    graph := { s.graph with
      tasks := s.graph.tasks.filter (fun x => x.idx != t.idx)
      gens := setKey s.graph.gens t.idx ((s.generation t.idx + 1) % 2 ^ 16)
      packages := s.graph.packages.filter (fun e => e.1 != t.idx)
      stage := s.graph.stage.filter (fun e => e.1 != t.idx)
      outbox := s.graph.outbox.filter (fun e => e.idx != t.idx)
      broadcasts := s.graph.broadcasts.filter (fun e => e.idx != t.idx)
      contributions := s.graph.contributions.filter (fun c => !heldFor t c.cupola c.tag)
      accumulators := s.graph.accumulators.filter (fun a => !heldFor t t.cupola a.tag) }
    chk := { s.chk with claimed := s.chk.claimed.filter (fun e => e.2 != t.idx) } }
  s1.unreserve t.reserved

/-- Peer spires of an installation of several spires. -/
def peerSpires (s : State) : List Nat :=
  match s.plan.cur with
  | some p => if p.spires ≤ 1 then [] else (p.peers.map (·.spire)).eraseDups
  | none => []

/-- Whether the results of a scalar task go to the other spires: at installation scope the coordinator's do (R211, R213). -/
def scalarWide (s : State) (t : Task) : Bool :=
  t.param 1 1 == 1 && (match s.plan.cur with | some p => p.coordinatorFlag | none => false)

/-- A scalar result leaves for the contributors of its cupola and, where it is wide, for every other spire, which passes it on (R213,
R214). -/
def sendResult (s : State) (t : Task) (data : List Nat) : State :=
  let s1 := if s.scalarWide t then s.peerSpires.foldl (fun (u : State) q => u.send .scalarResult (2 ^ 16 + q) (t.param 4 4) data) s
    else s
  s1.send .scalarResult t.cupola (t.param 4 4) data

/-- One task ends (R195, R199, R203, R214): its own record, its index free with the next generation, its successors'
dependences evaluated. -/
def endOne (s : State) (idx status detail : Nat) : State :=
  match s.task idx with
  | none => s
  | some t =>
    let s1 := (s.writeCompletion t status detail (doneField t) 0xFFFFFFFF 0).releaseChannels idx status
    let led := setKey s1.graph.ledger (s.itemId idx) true
    let s2 := { s1 with graph := { s1.graph with ledger := led } }
    let s3 := s2.releaseTask { t with reserved := t.reserved - 1 }
    let upd : Task → Task := fun x =>
      if meets t x status then
        let y := { x with metPreds := addOnce idx x.metPreds }
        if y.state = 1 && y.ready && !y.isOpen s.round then { y with state := 2 } else y
      else x
    let s4 := { s3 with graph := { s3.graph with tasks := s3.graph.tasks.map upd } }
    if t.kind = Kind.scalar && (status = Fate.timeout || status = Fate.peerLost) then
      s4.sendResult t [1, 0, 0, 0, 0]
    else s4

/-- What follows at once from an end: the successors that are cancelled (R195), and the barriers that have become ready
and end in the same pass (R196). While the graph engine is being disabled nothing follows: every task not started ends when it
reports DISABLED (R209, Table 7.9). DEDUCED (log entry 135). -/
def followers (s t : State) (idx status : Nat) : List (Nat × Nat × Nat) :=
  match s.task idx with
  | none => []
  | some e =>
    if s.engineStopped then []
    else
      let succ := s.graph.tasks.filter (fun x => awaits x e.idx && x.unstarted)
      succ.filterMap (fun x =>
        if !meets e x status then some (x.idx, Fate.cancelled, idx)
        else
          match t.task x.idx with
          | some y => if y.kind == Kind.barrier && y.ready && y.isOpen t.round then some (y.idx, Fate.done, 0) else none
          | none => none)

/-- Tasks end, with the cascade of R195 in the same dispatch pass. -/
def endPass : Nat → List (Nat × Nat × Nat) → State → State
  | 0, _, s => s
  | _ + 1, [], s => s
  | n + 1, (idx, status, detail) :: rest, s =>
    let t := s.endOne idx status detail
    endPass n (rest ++ followers s t idx status) t

/-- Tasks end, each with a status and a detail; the pass visits each resident task's ends at most once per cause. -/
def endTasks (s : State) (l : List (Nat × Nat × Nat)) : State :=
  endPass (l.length + 9 * s.graph.tasks.length) l s

/-- A task ends. -/
def endTask (s : State) (idx status detail : Nat) : State := s.endTasks [(idx, status, detail)]

/-- A task is to end (R198, Table 7.6): one that has not started ends at once; a running one with sub-items in flight
stops and keeps the first cause until they have ended. -/
def stopTask (s : State) (idx status detail : Nat) : State :=
  match s.task idx with
  | none => s
  | some t =>
    if t.live && !t.inFlight.isEmpty then
      s.updTask idx (fun t => { t with
        state := 4
        cause := (match t.cause with | some c => some c | none => some (status, detail))
        stopBy := if t.state = 4 then t.stopBy else s.round + t.drain s.tables })
    else
      match t.cause with
      | some c => s.endTask idx c.1 c.2
      | none => s.endTask idx status detail

/-- Sub-items in flight of a task end with a status, each with its own record, and the task with the first cause. -/
def endSubs (s : State) (idx : Nat) (seqs : List Nat) (status detail : Nat) : State :=
  let s1 := seqs.foldl (fun (t : State) q => t.subRecord idx q status detail) s
  let s2 := s1.updTask idx (fun t => { t with
    subs := t.subs.filter (fun x => !seqs.contains x.seq)
    checkOnly := if status = Fate.checkvalueOnly then t.checkOnly + seqs.length else t.checkOnly })
  if status = Fate.checkvalueOnly || seqs.isEmpty then s2 else s2.stopTask idx status detail

/-- Every sub-item in flight of a task ends, and the task with it. -/
def endWithSubs (s : State) (idx status detail : Nat) : State :=
  match s.task idx with
  | none => s
  | some t =>
    if t.inFlight.isEmpty then s.stopTask idx status detail
    else s.endSubs idx (t.inFlight.map (·.seq)) status detail

/-- Tasks that satisfy `p`, in ascending resident index. -/
def tasksWhere (s : State) (p : Task → Bool) : List Task :=
  (s.graph.tasks.filter p).mergeSort (fun a b => decide (a.idx ≤ b.idx))

/-- Every task that satisfies `p` is stopped with a status and detail. Those that end at once end in one dispatch pass, in ascending
resident index, each with this status: none of them as a successor of another (R207, R208). -/
def stopWhere (s : State) (p : Task → Bool) (status detail : Nat) : State :=
  let l := s.tasksWhere p
  let waits (t : Task) : Bool := t.live && !t.inFlight.isEmpty
  let now := (l.filter (fun t => !waits t)).map (fun t => (t.idx, t.cause.getD (status, detail)))
  (l.filter waits).foldl (fun (t : State) x => t.stopTask x.idx status detail) (s.endTasks now)

/-- Detail of FAILED_DISABLED: function [3:0], index [19:4] (Table 7.8). -/
def disabledDetail (function index : Nat) : Nat := function % 16 + index % 2 ^ 16 * 16

end State

end Sys2Proof.Machine
end

