-- ==== Sys2Proof/Machine/Mailbox.lean ====
section
/-! DEFINITION. Mailboxes (R276 to R287, R405, R406): posting and taking words at every set of Table 10.7, words waiting
in firmware, the agents' originated words, resets of a party; and the meanings of the mailbox commands. -/
namespace Sys2Proof.Machine

-- Parties of MBX_STALL
namespace Party
abbrev host : Nat := 1
abbrev twin : Nat := 2
abbrev keystone : Nat := 3
abbrev agent : Nat := 4
end Party

/-- A number with bit `i` set or clear. -/
def setBit (v i : Nat) (on : Bool) : Nat :=
  let w := v % 2 ^ i + v / 2 ^ (i + 1) * 2 ^ (i + 1)
  if on then w + 2 ^ i else w

/-- Bit `i` of a number. -/
def hasBit (v i : Nat) : Bool := v / 2 ^ i % 2 == 1

/-- The indices below `n` of the one bits of a number, ascending. -/
def bitsOf (n v : Nat) : List Nat := (List.range n).filter (hasBit v)

namespace State

-- The agents' mailboxes

/-- Set or clear one FULL flag of an agent. -/
def setFull (s : State) (f : Fld) (node i : Nat) (on : Bool) : State := s.pn f node (setBit (s.ga f node 0) i on)

/-- AG_MBX_FULL.QUEUED: the agent-originated words queued or pending (R405). -/
def refreshQueued (s : State) (node : Nat) : State :=
  let a := s.ag node
  s.pn F.AG_MBX_FULL_QUEUED node
    (a.originated.length + (if a.pendingReset.isSome then 1 else 0) + a.pendingRekey.length)

/-- A word goes into an agent outbound mailbox. -/
def putOut (s : State) (node i : Nat) (w : Word) : State :=
  (s.wr .AG_MBX_OUT node i w).setFull F.AG_MBX_FULL_OUT_FULL node i true

/-- Pending words enter the queue of 4 as entries free: the RESET_NOTICE first, then REKEY_DUE by port (R405). -/
def fillQueue (a : Agent) : Agent :=
  let a1 :=
    match a.pendingReset with
    | some w => if a.originated.length < 4 then { a with originated := a.originated ++ [w], pendingReset := none } else a
    | none => a
  let ready := (a1.pendingRekey.mergeSort (fun x y => decide (x.1 ≤ y.1))).take (4 - a1.originated.length)
  { a1 with originated := a1.originated ++ ready.map (·.2),
            pendingRekey := a1.pendingRekey.filter (fun e => !ready.any (fun r => r.1 == e.1)) }

/-- The first originated word goes to outbound mailbox 0 when that is empty (R405). -/
def pumpOut (s : State) (node : Nat) : State :=
  let a := s.ag node
  if hasBit (s.ga F.AG_MBX_FULL_OUT_FULL node 0) 0 then s.refreshQueued node
  else
    match a.originated with
    | [] => s.refreshQueued node
    | w :: rest => ((s.setAg (fillQueue { a with originated := rest })).putOut node 0 w).refreshQueued node

/-- The agent originates a RESET_NOTICE (R405): a later one replaces a pending one and keeps its previous epoch. -/
def originateReset (s : State) (node kind prev : Nat) : State :=
  let a := s.ag node
  let e := s.ga F.AG_EPOCH_ELEMENT node 0
  let a1 :=
    match a.pendingReset with
    | some old => { a with pendingReset := some (resetNotice e kind (getBits old 8 8)) }
    | none =>
      if a.originated.length < 4 then { a with originated := a.originated ++ [resetNotice e kind prev] }
      else { a with pendingReset := some (resetNotice e kind prev) }
  (s.setAg a1).pumpOut node

/-- The agent originates a REKEY_DUE (Table 13.2, R404): a later one for a port replaces a pending one. -/
def originateRekey (s : State) (node port epoch : Nat) : State :=
  let a := s.ag node
  let w := mkWord (s.ga F.AG_EPOCH_ELEMENT node 0) 0x38 (port % 16 + epoch % 2 ^ 28 * 256)
  let a1 :=
    if a.pendingRekey.any (fun e => e.1 == port) || decide (4 ≤ a.originated.length) then
      { a with pendingRekey := setKey a.pendingRekey port w }
    else { a with originated := a.originated ++ [w] }
  (s.setAg a1).pumpOut node

/-- An agent's inbound mailboxes are emptied (R284). -/
def emptyInbound (s : State) (node : Nat) : State :=
  (s.updAg node (fun a => { a with inWords := [] })).pn F.AG_MBX_FULL_IN_FULL node 0

/-- An agent outbound word is taken (R405): the flag clears, and a queued originated word follows. -/
def takeOut (s : State) (node i : Nat) : State :=
  ((s.wr .AG_MBX_OUT node i 0).setFull F.AG_MBX_FULL_OUT_FULL node i false).pumpOut node

-- Varlor's words

/-- The mailbox that Varlor posts into is FULL. -/
def outFull (s : State) (party node i : Nat) : Bool :=
  if party = Party.host then hasBit (s.g F.MBX_HOUT_FULL_FULL) i
  else if party = Party.agent then hasBit (s.ga F.AG_MBX_FULL_IN_FULL node 0) i
  else s.mbx.posted.any (fun w => w.party == party && w.idx == i)

/-- The receiver takes a word within the step that posts it: the keystone always (R278, 20 µs), the partner while it is
seen (R278, 100 µs; R281). No command stands for these takes (notes/assumptions/14.md). -/
def takesAtOnce (s : State) (party : Nat) : Bool :=
  party == Party.keystone || (party == Party.twin && s.b F.TWIN_STATUS_PARTNER_SEEN)

/-- A word is posted into a mailbox that is not FULL (R276). -/
def deliver (s : State) (party node i : Nat) (w : Word) (item : Option Nat) : State :=
  let p : Posted := ⟨party, node, i, w, s.round, false, item⟩
  let keep := s.mbx.posted.filter (fun x => !(x.party == party && x.node == node && x.idx == i))
  let s1 := { s with mbx := { s.mbx with posted := if s.takesAtOnce party then keep else keep ++ [p] } }
  if party = Party.host then
    ((s1.wr .MBX_HOUT 0 i w).p F.MBX_HOUT_FULL_FULL (setBit (s.g F.MBX_HOUT_FULL_FULL) i true)).send .hostWord 0 i [w.toNat]
  else if party = Party.agent then
    let s2 := s1.updAg node (fun a => { a with inWords := setKey a.inWords i w })
    (s2.setFull F.AG_MBX_FULL_IN_FULL node i true).send .agentWord node i [w.toNat]
  else if party = Party.twin then s1.send .twinWord 0 i [w.toNat]
  else s1.send .keyWord 0 i [w.toNat]

/-- Varlor posts a word, or keeps it in firmware until the mailbox clears (R279). -/
def postWord (s : State) (party node i : Nat) (w : Word) (item : Option Nat) : State :=
  if s.outFull party node i || s.mbx.waiting.any (fun x => x.party == party && x.node == node && x.idx == i) then
    { s with mbx := { s.mbx with waiting := s.mbx.waiting ++ [⟨party, node, i, w, item⟩] } }
  else s.deliver party node i w item

/-- The first word waiting for a mailbox is posted, when the mailbox is clear. -/
def pumpWaiting (s : State) (party node i : Nat) : State :=
  if s.outFull party node i then s
  else
    match s.mbx.waiting.find? (fun x => x.party == party && x.node == node && x.idx == i) with
    | none => s
    | some x =>
      let s1 := { s with mbx := { s.mbx with waiting := s.mbx.waiting.erase x } }
      s1.deliver party node i x.word x.item

/-- One of Varlor's words has been taken (R276, R279): the mailbox clears, a NOTIFY whose word it was ends DONE, and a
word waiting in firmware follows. -/
def wordTaken (s : State) (party node i : Nat) : State :=
  let hit := s.mbx.posted.find? (fun x => x.party == party && x.node == node && x.idx == i)
  let s1 := { s with mbx := { s.mbx with
    posted := s.mbx.posted.filter (fun x => !(x.party == party && x.node == node && x.idx == i)) } }
  let s2 :=
    if party = Party.host then
      (s1.wr .MBX_HOUT 0 i 0).p F.MBX_HOUT_FULL_FULL (setBit (s1.g F.MBX_HOUT_FULL_FULL) i false)
    else s1
  let s3 :=
    match hit with
    | some x =>
      match x.item with
      | some item =>
        match s2.taskOf item with
        | some t => s2.endTask t.idx Fate.done 0
        | none => s2
      | none => s2
    | none => s2
  s3.pumpWaiting party node i

/-- This module's epoch (MBX_EPOCH). -/
def epoch (s : State) : Nat := s.g F.MBX_EPOCH_EPOCH

/-- Post a word of a type and payload under this module's epoch. -/
def post (s : State) (party node i type payload : Nat) : State :=
  s.postWord party node i (mkWord s.epoch type payload) none

/-- Post a twin word (Table 14.7) into a twin outbound mailbox. -/
def postTwin (s : State) (i type payload : Nat) : State := s.post Party.twin 0 i type payload

/-- Every mailbox between Varlor and the host is emptied on the host's reset (R284, R286): the same as taking. -/
def emptyHostOut (s : State) : State :=
  (bitsOf 32 (s.g F.MBX_HOUT_FULL_FULL)).foldl (fun (t : State) i => t.wordTaken Party.host 0 i) s

/-- A word is discarded under R277 or R280. -/
def unknownWord (s : State) : State := (s.count .MBX_COUNT 3).raise F.MBX_EVENT_UNKNOWN_TYPE 0 1

/-- A stale word is discarded (R285). -/
def staleWord (s : State) : State := (s.count .MBX_COUNT 2).raise F.MBX_EVENT_STALE 0 1

/-- The logical node that MBX_RELAY[i] names, while it is enabled and bound (R280). -/
def relayNode (s : State) (i : Nat) : Option Nat :=
  if s.gi F.MBX_RELAY_ENABLE i = 1 then
    let n := s.gi F.MBX_RELAY_NODE i
    if n / 512 = s.spire && s.placedAt (localOf n) then some n else none
  else none

/-- A reset of Varlor (R283, R284): its epoch increases; every mailbox in which it is the receiver is emptied; its
RESET_NOTICE goes to the host, the partner and the keystone, and to each bound agent together with its AG_EPOCH write. -/
def varlorReset (s : State) (kind : Nat) : State :=
  let prev := s.epoch
  let s1 := s.p F.MBX_EPOCH_EPOCH ((prev + 1) % 256)
  let s2 := s1.boundNodes.foldl (fun (t : State) n => (t.takeOut n 0).takeOut n 1) s1
  let s3 := { s2 with mbx := { s2.mbx with hin := [], twinIn := [], keyIn := [], lastKind := kind, lastPrev := prev,
                                           told := [] } }
  let w := resetNotice ((prev + 1) % 256) kind prev
  let s4 := ((s3.postWord Party.host 0 0 w none).postWord Party.twin 0 0 w none).postWord Party.keystone 0 0 w none
  s4.bump .MBX_COUNT 0 5 3

/-- A host post into an inbound mailbox (R276). -/
def hostPost (s : State) (i : Nat) (w : Word) : State :=
  if 32 ≤ i then s.err Status.address i
  else if s.mbx.hin.any (fun e => e.1 == i) then
    ((s.count .MBX_COUNT 1).raise F.MBX_EVENT_FULL_REJECT i 1).err Status.full i
  else ({ s with mbx := { s.mbx with hin := s.mbx.hin ++ [(i, w)] } }).ok

/-- Host outbound words are taken by a mask (R276). -/
def hostTake (s : State) (mask : Nat) : State :=
  (bitsOf 32 (Nat.land mask (s.g F.MBX_HOUT_FULL_FULL))).foldl (fun (t : State) i => t.wordTaken Party.host 0 i) s

/-- Varlor takes the word of a host inbound mailbox (R278): it clears, and the word counts as taken. -/
def dropHin (s : State) (i : Nat) : State :=
  ({ s with mbx := { s.mbx with hin := s.mbx.hin.filter (fun e => e.1 != i) } }).count .MBX_COUNT 0

/-- HOST_WORD_TAKE (R278, R280, R284, R285): a stale word and one that Varlor does not accept are discarded; a
RESET_NOTICE empties the host outbound mailboxes; an application word goes to the relay's agent, and is taken when the
agent accepts the post. Varlor takes it whatever words of its own still wait in the outbound mailboxes (R281). -/
def hostWordTake (s : State) (i : Nat) : State :=
  match s.mbx.hin.find? (fun e => e.1 == i) with
  | none => s
  | some (_, w) =>
    if wordEpoch w ≠ s.g F.MBX_HOST_EPOCH_EPOCH then (s.dropHin i).staleWord
    else if wordType w = 0x01 && i = 0 then
      ((s.dropHin i).emptyHostOut.count .MBX_COUNT 6).raise F.MBX_EVENT_HOST_RESET 0 1
    else if 0x80 ≤ wordType w then
      match s.relayNode i with
      | none => (s.dropHin i).unknownWord
      | some n =>
        if s.outFull Party.agent (localOf n) 0
            || s.mbx.waiting.any (fun x => x.party == Party.agent && x.node == localOf n && x.idx == 0) then s
        else
          ((s.dropHin i).post Party.agent (localOf n) 0 (wordType w) (wordPayload w)).count .MBX_COUNT 7
    else (s.dropHin i).unknownWord

/-- An application word from an agent goes to the host outbound mailbox of lowest index whose relay names its node
(R280). -/
def relayToHost (s : State) (node : Nat) (w : Word) : State :=
  match (List.range 32).find? (fun i => s.relayNode i == some (s.logical node)) with
  | none => s.unknownWord
  | some i => (s.post Party.host 0 i (wordType w) (wordPayload w)).count .MBX_COUNT 7

/-- MAILBOX_STALL (R282): an outbound word not taken within MBX_CFG.STALL rounds of its posting, once per word. -/
def mailboxStall (s : State) (party node i : Nat) : State :=
  match s.mbx.posted.find? (fun x => x.party == party && x.node == node && x.idx == i) with
  | none => s
  | some x =>
    if x.stalled || decide (s.round + 1 < x.round + s.g F.MBX_CFG_STALL) then s
    else
      let upd := updWhere (fun y => y.party == party && y.node == node && y.idx == i)
        (fun y => { y with stalled := true, item := none }) s.mbx.posted
      let s1 := { s with mbx := { s.mbx with posted := upd } }
      let s2 := ((s1.p F.MBX_STALL_PARTY party).p F.MBX_STALL_INDEX i).p F.MBX_STALL_NODE
        (if party = Party.agent then s.logical node else 0)
      let body := leBytes 8 x.word.toNat ++ [BitVec.ofNat 8 party, BitVec.ofNat 8 i, 0, 0]
        ++ leBytes 4 (if party = Party.agent then s.logical node else 0)
      let s3 := (((s2.count .MBX_COUNT 4).raise F.MBX_EVENT_STALL i 1).eventRecord F.MBX_EVENT_STALL 4 i body)
      let (fv, ft) := s.stampFlags
      let s4 := s3.queueEntry 0 ⟨0x0010, 4, fv, sourceOf F.MBX_EVENT_STALL, 0, i, s.g F.BELF_CYCLE_POWER_CYCLES, s.opTime,
        ft, s.opTime, s.opTime, 1, fit 64 body⟩
      match x.item with
      | none => s4
      | some item =>
        match s4.taskOf item with
        | some t => s4.endTask t.idx Fate.timeout 0
        | none => s4

/-- The element takes an inbound word (R406): a word of another epoch than MANAGER is withheld, counted and discarded. -/
def elementTake (s : State) (node i : Nat) : State :=
  let a := s.ag node
  match a.inWords.find? (fun e => e.1 == i) with
  | none => s.err Status.state 0
  | some (_, w) =>
    let s1 := (s.setAg { a with inWords := a.inWords.filter (fun e => e.1 != i) }).setFull F.AG_MBX_FULL_IN_FULL node i false
    if wordEpoch w = s.ga F.AG_EPOCH_MANAGER node 0 then
      let s2 := s1.ok
      { s2 with answer := { s2.answer with words := [w] } }
    else ((s1.countAg node 10).raiseAgent F.AG_EVENT_STALE_WORD node).err Status.state 0

/-- The element posts into an agent outbound mailbox (R276). -/
def elementPost (s : State) (node i : Nat) (w : Word) : State :=
  if 2 ≤ i then s.err Status.address i
  else if hasBit (s.ga F.AG_MBX_FULL_OUT_FULL node 0) i then s.err Status.full i
  else (s.putOut node i w).ok

/-- Varlor posts to an agent inbound mailbox (R405). -/
def agMbxInWrite (s : State) (node i : Nat) (w : Word) : State :=
  if 2 ≤ i then s.err Status.address i
  else if s.outFull Party.agent node i then s.err Status.full i
  else (s.deliver Party.agent node i w none).ok

/-- Writing 1 to OUT_FULL bits takes agent outbound words, whose values are read in the same frame (R405). -/
def agMbxOutTake (s : State) (node mask : Nat) : State :=
  let l := bitsOf 2 (Nat.land mask (s.ga F.AG_MBX_FULL_OUT_FULL node 0))
  let ws := l.map (fun i => s.rd .AG_MBX_OUT node i)
  let s1 := (l.foldl (fun (t : State) i => t.takeOut node i) s).ok
  { s1 with answer := { s1.answer with words := ws } }

/-- Varlor writes AG_EPOCH.MANAGER (R406). To an agent that is bound, and has been posted none since it was bound or since Varlor's
last reset, it posts its RESET_NOTICE together with the write (R284). -/
def agEpochWrite (s : State) (node : Nat) (v : Word) : State :=
  let s1 := s.pn F.AG_EPOCH_MANAGER node (getBits v 8 8)
  if s.placedAt node && !s.mbx.told.contains node then
    let s2 := { s1 with mbx := { s1.mbx with told := addOnce node s1.mbx.told } }
    (s2.postWord Party.agent node 0 (resetNotice s.epoch s.mbx.lastKind s.mbx.lastPrev) none).count .MBX_COUNT 5
  else s1

/-- PARTNER_RESET_NOTICE (R284): the partner's twin words and mailboxes start anew, and Varlor posts its unacknowledged
twin words again. -/
def partnerResetNotice (s : State) (_kind ep : Nat) : State :=
  let old := s.mbx.posted.filter (fun x => x.party == Party.twin)
  let s1 := { s with mbx := { s.mbx with posted := s.mbx.posted.filter (fun x => x.party != Party.twin) } }
  let s2 := (s1.p F.MBX_EPOCH_TWIN_EPOCH ep).count .MBX_COUNT 6
  let s3 := (s2.count .MBX_COUNT 0).raise F.MBX_EVENT_TWIN_RESET 0 1
  old.foldl (fun (t : State) x => t.postWord Party.twin 0 x.idx x.word x.item) s3

end State

-- The meanings

/-- HOST_WORD_TAKE (R278). -/
def execHostWordTake (index : Nat) (s : State) : Host.Outcome State Fault Refusal := finish (s.hostWordTake index)
/-- MBX_HIN_WRITE (R276). -/
def execMbxHinWrite (index : Nat) (value : Word) (s : State) : Host.Outcome State Fault Refusal :=
  finish (s.hostPost index value)
/-- MBX_HOUT_TAKE (R276). -/
def execMbxHoutTake (mask : Word) (s : State) : Host.Outcome State Fault Refusal := finish (s.hostTake mask.toNat).ok
/-- MAILBOX_STALL (R282). -/
def execMailboxStall (party node index : Nat) (s : State) : Host.Outcome State Fault Refusal :=
  finish (s.mailboxStall party node index)
/-- AG_MBX_IN_WRITE (R405). -/
def execAgMbxInWrite (node index : Nat) (value : Word) (s : State) : Host.Outcome State Fault Refusal :=
  finish (s.agMbxInWrite node index value)
/-- AG_MBX_OUT_TAKE (R405). -/
def execAgMbxOutTake (node mask : Nat) (s : State) : Host.Outcome State Fault Refusal := finish (s.agMbxOutTake node mask)
/-- AG_EPOCH_WRITE (R406). -/
def execAgEpochWrite (node : Nat) (value : Word) (s : State) : Host.Outcome State Fault Refusal :=
  finish (s.agEpochWrite node value)
/-- ELEMENT_POST (R276). -/
def execElementPost (node index : Nat) (value : Word) (s : State) : Host.Outcome State Fault Refusal :=
  finish (s.elementPost node index value)
/-- ELEMENT_TAKE (R406). -/
def execElementTake (node index : Nat) (s : State) : Host.Outcome State Fault Refusal := finish (s.elementTake node index)
/-- PARTNER_RESET_NOTICE (R284). -/
def execPartnerResetNotice (kind epoch : Nat) (s : State) : Host.Outcome State Fault Refusal :=
  finish (s.partnerResetNotice kind epoch)

end Sys2Proof.Machine
end

