-- ==== Sys2Proof/Machine/CheckUnits.lean ====
section
/-! DEFINITION. Check-value units (chapter 9): the free channels and their states (Table 9.3), the port channels and the
classification of a mismatch (Table 9.4, R261, R262), and the meanings of the channel commands. -/
namespace Sys2Proof.Machine

-- Table 9.2
namespace Tap
abbrev guardIn : Nat := 1
abbrev guardOut : Nat := 2
abbrev mirrorIn : Nat := 3
abbrev mirrorOut : Nat := 4
abbrev exp : Nat := 5
abbrev imp : Nat := 6
abbrev plan : Nat := 7
abbrev table : Nat := 8
end Tap

/-- A free channel (R252). -/
def freeChannel (c : Nat) : Bool := decide (96 ≤ c) && decide (c < 128)

namespace State

/-- The polynomial of a channel; port channels use CRC-64/XZ (R252). -/
def chkPoly (s : State) (c : Nat) : Poly := if freeChannel c then Poly.ofCode (s.gi F.CHK_CFG_POLY c) else Poly.crc64xz
/-- APPEND mode. -/
def chkAppend (s : State) (c : Nat) : Bool := s.gi F.CHK_CFG_MODE c == 1

/-- The checkpoint pair of a channel (R257). -/
def setCheckpoint (s : State) (c value bytes : Nat) : State :=
  (s.pi F.CHK_CKPT_VALUE_VALUE c value).pi F.CHK_CKPT_BYTES_BYTES c bytes

/-- The stream of a channel starts anew: the running value at its initial value, no byte covered. -/
def restartChannel (s : State) (c : Nat) : State := (s.setRunning c (s.chkPoly c).init 0).setCheckpoint c (s.chkPoly c).init 0

/-- R254: attached snoops on a tap with a selector start anew (a PLAN snoop at VERIFY, a TABLE snoop at a manifest). -/
def restartSnoops (s : State) (tap sel : Nat) : State :=
  ((List.range 32).map (· + 96)).foldl (fun (t : State) c =>
    if t.gi F.CHK_CFG_TAP c = tap && t.gi F.CHK_CFG_SELECTOR c = sel && t.chkState c = Chan.attached then t.restartChannel c
    else t) s

/-- Table 9.2: the configuration of a free channel is one that it may attach with. -/
def chkLegal (s : State) (c : Nat) : Bool :=
  let tap := s.gi F.CHK_CFG_TAP c
  let mode := s.gi F.CHK_CFG_MODE c
  decide (1 ≤ tap) && decide (tap ≤ 8) && s.gi F.CHK_CFG_STREAM c == 1 && s.gi F.CHK_CFG_POLY c != 3
    && (mode == 0 || (mode == 1 && tap == Tap.exp))

/-- A channel becomes ATTACHED from IDLE: values written in IDLE are continued, otherwise the stream starts anew. -/
def attachChannel (s : State) (c : Nat) : State :=
  let s1 := if s.chk.loaded.contains c then s else s.restartChannel c
  { s1 with chk := { s1.chk with loaded := s1.chk.loaded.filter (fun x => x != c) } }.setChk c Chan.attached

/-- A command on a channel: error for a port channel (VALUE) and in a state that Table 9.3 does not list for it (STATE). -/
def chkCommand (s : State) (c : Nat) (states : List Nat) (f : State → State) : State :=
  if !freeChannel c then s.err Status.value 0
  else if !states.contains (s.chkState c) then s.err Status.state 0
  else f s

/-- ATTACH. -/
def chkAttach (s : State) (c : Nat) : State :=
  s.chkCommand c [Chan.idle] (fun s => if s.chkLegal c then (s.attachChannel c).ok else s.err Status.value 0)

/-- SUSPEND. -/
def chkSuspend (s : State) (c : Nat) : State := s.chkCommand c [Chan.attached] (fun s => (s.setChk c Chan.suspending).ok)

/-- RESUME: the next unit of the stream continues the value (R259). -/
def chkResume (s : State) (c : Nat) : State := s.chkCommand c [Chan.suspended] (fun s => (s.setChk c Chan.attached).ok)

/-- DETACH. -/
def chkDetach (s : State) (c : Nat) : State :=
  s.chkCommand c [Chan.attached, Chan.suspended] (fun s => (s.idleChannel c).ok)

/-- R260: b of a channel: the drain bound of the tapped flow's class, 2 rounds for EXPORT and IMPORT. -/
def chkBound (s : State) (c : Nat) : Nat :=
  let tap := s.gi F.CHK_CFG_TAP c
  if tap = Tap.exp || tap = Tap.imp then 2
  else if tap = Tap.guardIn || tap = Tap.guardOut then drainBound (s.tables.classOfFlow (s.gi F.CHK_CFG_SELECTOR c))
  else drainBound 1

/-- R260: a channel that only snoops leaves its stream, which goes on unchecked; one that appends stays with it until the task has
ended. Units are whole between two commands: DESIGN CHOICE (log entry 147). -/
def leaveStream (s : State) (c : Nat) : State :=
  if s.chkAppend c then s
  else { s with chk := { s.chk with claimed := s.chk.claimed.filter (fun e => e.1 != c), bounds := s.chk.bounds.filter (fun e => e.1 != c) } }

/-- DISABLE (R209, R210, R260). -/
def chkDisable (s : State) (c : Nat) : State :=
  if !freeChannel c then s.err Status.value 0
  else if s.chkState c = Chan.disabling || s.chkState c = Chan.disabled then s.ok
  else
    let d : Disable := ⟨3, c, s.round, s.chkBound c, false, false⟩
    (({ s with graph := { s.graph with disables := s.graph.disables ++ [d] } }.setChk c Chan.disabling).leaveStream c).ok

/-- ENABLE: a DISABLED channel becomes IDLE with its value and count cleared; in the other states of Table 9.3 it is not
listed. -/
def chkEnable (s : State) (c : Nat) : State :=
  s.chkCommand c [Chan.disabled] (fun s => (((s.setRunning c 0 0).setCheckpoint c 0 0).idleChannel c).ok)

/-- A write of CHK_VALUE or CHK_BYTES (R251, R256). -/
def chkValueWrite (s : State) (bytesReg : Bool) (c : Nat) (v : Word) : State :=
  if !freeChannel c then s.err Status.readOnly c
  else if s.chkState c ≠ Chan.idle && s.chkState c ≠ Chan.suspended then s.err Status.state 0
  else if !bytesReg && decide (2 ^ (s.chkPoly c).width ≤ v.toNat) then s.err Status.value 0
  else
    let s1 := if bytesReg then s.pi F.CHK_BYTES_BYTES c v.toNat else s.pi F.CHK_VALUE_VALUE c v.toNat
    let s2 := if s.chkState c = Chan.idle then { s1 with chk := { s1.chk with loaded := addOnce c s1.chk.loaded } } else s1
    s2.ok

-- Port channels and the classification of a mismatch

/-- The PROVISIONAL flag of a channel follows its provisional units. -/
def showProvisional (s : State) (c : Nat) : State :=
  s.pi F.CHK_STATE_PROVISIONAL c (if s.chk.provisional.any (fun p => p.channel == c) then 1 else 0)

/-- R261: a mismatch makes a unit provisional. -/
def chkMismatch (s : State) (c unit : Nat) (data : Bytes) : State :=
  let s1 := (s.count .CHK_COUNT 1).pi F.CHK_STATE_MISMATCHES c (sat 32 (s.gi F.CHK_STATE_MISMATCHES c + 1))
  let s2 := { s1 with chk := { s1.chk with provisional := s1.chk.provisional ++ [(⟨c, unit, data, 0⟩ : Provisional)] } }
  (s2.raise F.CHK_EVENT_MISMATCH c 1).showProvisional c

/-- A provisional unit is settled: it is provisional no longer. -/
def chkSettled (s : State) (c unit : Nat) : State :=
  let s1 := { s with chk := { s.chk with
    provisional := s.chk.provisional.filter (fun p => !(p.channel == c && p.unit == unit)) } }
  s1.showProvisional c

/-- R262: the record of an outcome names the channel, the tap, the unit and the evidence. -/
def chkRecord (s : State) (f : Fld) (sev c unit evidence : Nat) : State :=
  s.eventRecord f sev c ([BitVec.ofNat 8 c, BitVec.ofNat 8 (s.gi F.CHK_CFG_TAP c)] ++ leBytes 8 unit ++ [BitVec.ofNat 8 evidence])

/-- FAILED_CHECKVALUE_ONLY by parity (1) or retransmission (2): the data is used. -/
def chkOnly (s : State) (c unit evidence : Nat) : State :=
  (((s.chkSettled c unit).count .CHK_COUNT (if evidence = 1 then 2 else 3)).raise F.CHK_EVENT_CHECKVALUE_ONLY c evidence).chkRecord
    F.CHK_EVENT_CHECKVALUE_ONLY 4 c unit evidence

/-- FAILED_CHECK: no evidence; the data is discarded. -/
def chkFailed (s : State) (c unit : Nat) : State :=
  (((s.chkSettled c unit).count .CHK_COUNT 4).raise F.CHK_EVENT_CHECK_FAILED c 1).chkRecord F.CHK_EVENT_CHECK_FAILED 5 c unit 0

/-- Resent data that agrees with its check value replaced the held data. -/
def chkCorrected (s : State) (c unit : Nat) : State :=
  ((s.chkSettled c unit).count .CHK_COUNT 5).raise F.CHK_EVENT_CORRECTED c 1

/-- The number of the next unit of a channel that becomes provisional. -/
def nextUnit (s : State) (c : Nat) : Nat :=
  (s.chk.provisional.filter (fun p => p.channel == c)).foldl (fun n p => max n (p.unit + 1)) 0

/-- One more resend of a provisional unit. -/
def chkAgain (s : State) (c unit : Nat) : State :=
  let l := updWhere (fun (p : Provisional) => p.channel == c && p.unit == unit) (fun p => { p with resends := p.resends + 1 })
    s.chk.provisional
  { s with chk := { s.chk with provisional := l } }

/-- The resend limit of R160. -/
def resendLimit (s : State) : Nat := s.g F.GRD_CFG_RESEND_LIMIT

/-- Order 1 and 3 of Table 9.4 on a unit that has just become provisional. -/
def chkClassify (s : State) (c unit : Nat) (parity : Option Bool) (noSource : Bool) : State :=
  if parity = some true then s.chkOnly c unit 1
  else if noSource || s.resendLimit = 0 then s.chkFailed c unit
  else s.chkAgain c unit

/-- Order 2 of Table 9.4: a resent unit meets the provisional one. -/
def chkResent (s : State) (c : Nat) (p : Provisional) (data : Bytes) (good : Bool) : State :=
  if good then (if data = p.data then s.chkOnly c p.unit 2 else s.chkCorrected c p.unit)
  else if s.resendLimit ≤ p.resends then s.chkFailed c p.unit
  else s.chkAgain c p.unit

/-- CHECK_UNIT at a port channel (R252, R254): the odd channel writes the value into the outgoing unit, the even channel
compares it, strips a mirror trailer, and classifies a mismatch. -/
def portUnit (s : State) (c : Nat) (data : Bytes) (carried : Nat) (parity : Option Bool) (resent noSource : Bool) : State :=
  let p := s.chkPoly c
  let s1 := s.setRunning c (p.run p.init data) data.length
  if c % 2 = 1 then s1.count .CHK_COUNT 6
  else
    let good := p.check data == carried
    let s2 := s1.count .CHK_COUNT 0
    let s3 := if s.gi F.CHK_CFG_TAP c = Tap.mirrorIn && good then s2.count .CHK_COUNT 7 else s2
    match s3.chk.provisional.find? (fun x => x.channel == c) with
    | some pr =>
      if resent then s3.chkResent c pr data good
      else if good then s3
      else (s3.chkMismatch c (s3.nextUnit c) data).chkClassify c (s3.nextUnit c) parity noSource
    | none => if good then s3 else (s3.chkMismatch c 0 data).chkClassify c 0 parity noSource

/-- CHECK_UNIT at a free channel (R254 to R257): the stream's value runs on; a SUSPENDING channel suspends at the unit's
end; the boundary is the checkpoint at once, for EXPORT when its writes have been acknowledged. -/
def freeUnit (s : State) (c : Nat) (data : Bytes) : State :=
  let st := s.chkState c
  if st = Chan.attached || st = Chan.suspending || (st = Chan.disabling && s.chkAppend c) then
    let v := (s.chkPoly c).run (s.gi F.CHK_VALUE_VALUE c) data
    let n := s.gi F.CHK_BYTES_BYTES c + data.length
    let s1 := s.setRunning c v n
    let s2 :=
      if s.gi F.CHK_CFG_TAP c = Tap.exp then { s1 with chk := { s1.chk with bounds := s1.chk.bounds ++ [(c, n, v)] } }
      else s1.setCheckpoint c v n
    if st = Chan.suspending then s2.setChk c Chan.suspended else s2
  else s

/-- CHECK_UNIT: a unit of a channel's stream ends; the stream of a channel that an EXPORT task has claimed runs with the
task. -/
def checkUnit (s : State) (c : Nat) (data : Bytes) (carried : Nat) (parity : Option Bool) (resent noSource : Bool) : State :=
  if freeChannel c then (if s.chk.claimed.any (fun e => e.1 == c) then s else s.freeUnit c data)
  else if s.chkState c = 1 then s.portUnit c data carried parity resent noSource
  else s

/-- R257: an EXPORT stream is confirmed up to `bytes`: the last boundary within it is the checkpoint. -/
def confirmStream (s : State) (c bytes : Nat) : State :=
  let done := s.chk.bounds.filter (fun e => e.1 == c && decide (e.2.1 ≤ bytes))
  let s1 := { s with chk := { s.chk with bounds := s.chk.bounds.filter (fun e => !(e.1 == c && decide (e.2.1 ≤ bytes))) } }
  match done.getLast? with
  | some e => s1.setCheckpoint c e.2.2 e.2.1
  | none => s1

/-- R252: the port channels of an OP port under a role: GUARD taps on spire and peer ports, MIRROR taps on twin ports,
idle on a dark or unlicensed port. Roles are those of PORT_ROLE: 1 SPIRE, 2 PEER, 3 TWIN. -/
def bindPort (s : State) (n role : Nat) (up : Bool) : State :=
  let tapIn := if role = 3 then Tap.mirrorIn else Tap.guardIn
  let set (t : State) (c tap mode : Nat) : State :=
    if up && 1 ≤ role && role ≤ 3 then
      (((t.pi F.CHK_CFG_POLY c 1).pi F.CHK_CFG_MODE c mode).pi F.CHK_CFG_TAP c tap).setChk c 1
    else (((t.pi F.CHK_CFG_POLY c 1).pi F.CHK_CFG_MODE c 0).pi F.CHK_CFG_TAP c 0).setChk c 0
  set (set s (2 * n) tapIn 2) (2 * n + 1) (tapIn + 1) 1

end State

-- The meanings

/-- ATTACH (R254). -/
def execAttach (channel : Nat) (s : State) : Host.Outcome State Fault Refusal := finish (s.chkAttach channel)
/-- SUSPEND (R255). -/
def execSuspend (channel : Nat) (s : State) : Host.Outcome State Fault Refusal := finish (s.chkSuspend channel)
/-- RESUME (R259). -/
def execChkResume (channel : Nat) (s : State) : Host.Outcome State Fault Refusal := finish (s.chkResume channel)
/-- DETACH (R254). -/
def execDetach (channel : Nat) (s : State) : Host.Outcome State Fault Refusal := finish (s.chkDetach channel)
/-- DISABLE (R260). -/
def execChkDisable (channel : Nat) (s : State) : Host.Outcome State Fault Refusal := finish (s.chkDisable channel)
/-- ENABLE (R255). -/
def execChkEnable (channel : Nat) (s : State) : Host.Outcome State Fault Refusal := finish (s.chkEnable channel)
/-- CHK_VALUE_WRITE (R256). -/
def execChkValueWrite (bytesReg : Bool) (channel : Nat) (value : Word) (s : State) : Host.Outcome State Fault Refusal :=
  finish (s.chkValueWrite bytesReg channel value)
/-- CHECK_UNIT (R254). -/
def execCheckUnit (channel : Nat) (data : Bytes) (carried : Nat) (parity : Option Bool) (resent noSource : Bool)
    (s : State) : Host.Outcome State Fault Refusal := finish (s.checkUnit channel data carried parity resent noSource)

end Sys2Proof.Machine
end

