-- ==== Sys2Proof/Machine/Sha.lean ====
section
/-! DEFINITION. SHAKE256 and SHAKE128, the hashes the spec names for digests, tags, keys and dither (R49, R331, R335, R233), as the public standard
defines it, over lists of 25 lanes. -/
namespace Sys2Proof.Machine

/-- The seven bits of each round's constant: bit j stands for bit 2^j - 1 of the lane. -/
def shakeBits : List Nat :=
  [0x01, 0x1A, 0x5E, 0x70, 0x1F, 0x21, 0x79, 0x55, 0x0E, 0x0C, 0x35, 0x26] ++
  [0x3F, 0x4F, 0x5D, 0x53, 0x52, 0x48, 0x16, 0x66, 0x79, 0x58, 0x21, 0x74]

/-- A round constant spread over its lane. -/
def shakeSpread (bits : Nat) : Word :=
  BitVec.ofNat 64 ((List.range 7).foldl (fun v j => if bits / 2 ^ j % 2 = 1 then v + 2 ^ (2 ^ j - 1) else v) 0)

/-- The walk over the 24 lanes that rotate, from lane (1, 0): (x, y) goes to (y, 2x + 3y). -/
def shakeWalk : Nat → Nat → Nat → List (Nat × Nat)
  | 0, _, _ => []
  | n + 1, x, y => (x, y) :: shakeWalk n y ((2 * x + 3 * y) % 5)

/-- Rotation of a lane: step t of the walk turns its lane by the triangular number (t + 1)(t + 2)/2. -/
def shakeTurn (x y : Nat) : Nat :=
  match (shakeWalk 24 1 0).idxOf? (x, y) with
  | some t => (t + 1) * (t + 2) / 2 % 64
  | none => 0

/-- Lane (x, y) of the state, coordinates mod 5. -/
def shakeAt (a : List Word) (x y : Nat) : Word := a.getD (x % 5 + 5 * (y % 5)) 0

/-- A state from what stands in each lane. -/
def shakeLanes (f : Nat → Nat → Word) : List Word :=
  (List.range 5).flatMap (fun y => (List.range 5).map (fun x => f x y))

/-- The parity of a column. -/
def columnParity (a : List Word) (x : Nat) : Word := (List.range 5).foldl (fun w y => w ^^^ shakeAt a x y) 0

/-- One round of the permutation: column parities are added, lanes turn and move, each row mixes, and the round's constant
goes into lane (0, 0). -/
def shakeRound (a : List Word) (bits : Nat) : List Word :=
  let p := (List.range 5).map (columnParity a)
  let mixed := shakeLanes (fun x y => shakeAt a x y ^^^ p.getD ((x + 4) % 5) 0 ^^^ (p.getD ((x + 1) % 5) 0).rotateLeft 1)
  let moved := shakeLanes (fun x y => let u := (x + 3 * y) % 5
    (shakeAt mixed u x).rotateLeft (shakeTurn u x))
  shakeLanes (fun x y => shakeAt moved x y ^^^ (shakeAt moved (x + 2) y &&& ~~~ shakeAt moved (x + 1) y)
    ^^^ (if x + y = 0 then shakeSpread bits else 0))

/-- The permutation. -/
def shakePermute (a : List Word) : List Word := shakeBits.foldl shakeRound a

/-- A block goes into the lanes. -/
def shakeAbsorb (a : List Word) (blk : Bytes) : List Word :=
  shakePermute ((List.range 25).map (fun i => a.getD i 0 ^^^ BitVec.ofNat 64 (field blk (8 * i) 8)))

/-- Every block of a padded message, by the rate in bytes. -/
def shakeBlocks (rate : Nat) : Nat → List Word → Bytes → List Word
  | 0, a, _ => a
  | n + 1, a, bs => shakeBlocks rate n (shakeAbsorb a (bs.take rate)) (bs.drop rate)

/-- The message with its domain bits and padding, to a multiple of the rate. -/
def shakePad (rate : Nat) (bs : Bytes) : Bytes :=
  let gap := rate - bs.length % rate
  if gap = 1 then bs ++ [0x9F] else bs ++ [0x1F] ++ zeros (gap - 2) ++ [0x80]

/-- `n` bytes of output at a rate, n at most the rate. -/
def shake (rate n : Nat) (bs : Bytes) : Bytes :=
  let p := shakePad rate bs
  let a := shakeBlocks rate (p.length / rate) (List.replicate 25 0) p
  ((a.map (fun w => leBytes 8 w.toNat)).flatten).take n

/-- SHAKE256. -/
def shake256 (n : Nat) (bs : Bytes) : Bytes := shake 136 n bs

/-- SHAKE128 (R233). -/
def shake128 (n : Nat) (bs : Bytes) : Bytes := shake 168 n bs

end Sys2Proof.Machine
end

