-- ==== Sys2Proof/Machine/Keys.lean ====
section
/-! DEFINITION. Derived keys and frame counters (R333, R335): every key is SHAKE256 over the installation secret, a label and a
context (Table 13.3). -/
namespace Sys2Proof.Machine

/-- R333: derive(label, context) under the installation secret: 32 bytes. -/
def derive (label : String) (context : Bytes) : Bytes :=
  shake256 32 (Config.installationSecret ++ fit 16 (label.toList.map (fun c => BitVec.ofNat 8 c.toNat)) ++ context)

/-- The membership digest of a cupola: its member positions in a plan's own tables, in ascending order (R333). -/
def membershipDigest (p : Plan) (cupola : Nat) : Bytes :=
  shake256 32 (((p.tables.membersOf cupola).eraseDups.mergeSort (fun a b => decide (a ≤ b))).flatMap (leBytes 4))

/-- The transport key of an element: the key of every key-slot write to its agent (R334). -/
def transportKey (id : Nat) : Bytes := derive "DSV-AGENT" (leBytes 16 id)

/-- A job's cupola key of generation `g`. -/
def jobKey (p : Plan) (j : JobKey) (g : Nat) : Bytes :=
  derive "DSV-JOB" (leBytes 4 j.job ++ leBytes 2 j.cupola ++ zeros 2 ++ leBytes 8 j.nonce ++ leBytes 4 g ++ zeros 4
    ++ membershipDigest p j.cupola)

/-- A job's span key of generation `g`. -/
def spanKey (j : JobKey) (g : Nat) : Bytes :=
  derive "DSV-SPAN" (leBytes 4 j.job ++ zeros 4 ++ leBytes 8 j.nonce ++ leBytes 4 g ++ zeros 4 ++ leBytes 16 j.span)

/-- The hop key of the direction from `tx` to `rx`, each an element ID and a port, for an epoch: the lower end is the one
with the lower element ID. -/
def hopKey (tx rx : Nat × Nat) (ep : Nat) : Bytes :=
  let up := decide (tx.1 ≤ rx.1)
  let lo := if up then tx else rx
  let hi := if up then rx else tx
  derive "DSV-HOP" (leBytes 16 lo.1 ++ leBytes 16 hi.1 ++ leBytes 1 lo.2 ++ leBytes 1 hi.2 ++ leBytes 1 (if up then 0 else 1)
    ++ zeros 1 ++ leBytes 4 ep)

/-- The binding key of a weight package: its ID, its salt and the digest of its device list (R333, Table 7.13). -/
def bindKey (package : Bytes) : Bytes :=
  derive "DSV-BIND" ((package.drop 16).take 16 ++ (package.drop 48).take 32
    ++ shake256 32 ((package.drop 128).take (16 * field package 12 4)))

/-- R335: the IV of a protected frame: the sender's logical node number, its egress port, and the frame counter. -/
def frameIv (sender port counter : Nat) : Bytes := leBytes 2 sender ++ leBytes 1 port ++ zeros 1 ++ leBytes 8 counter

namespace State

/-- The fabric time of the boundary of a round (R289). -/
def boundaryNs (s : State) (round : Nat) : Nat :=
  s.g F.LANT_ROUND_BASE_TIME_T_BASE + (round - s.g F.BELL_ROUND_BASE_N_BASE) * s.roundNs

/-- The element ID of an agent (AG_ID). -/
def agentElement (s : State) (node : Nat) : Nat := s.ga F.AG_ID_ID node 0 + 2 ^ 64 * s.ga F.AG_ID_ID node 1

/-- This module's element ID (IDENT_ID). -/
def ownId (s : State) : Nat := s.gi F.IDENT_ID_ID 0 + 2 ^ 64 * s.gi F.IDENT_ID_ID 1

/-- The counter of the next frame that an agent protects with a key slot on an egress port: it starts at four times the
fabric time at which the key becomes active (R335). -/
def frameCounter (s : State) (node slot port : Nat) : Nat :=
  let a := s.ag node
  match a.counters.find? (fun e => e.1 == slot && e.2.1 == port) with
  | some e => e.2.2
  | none => 4 * (match a.loaded.find? (fun k => k.slot == slot) with | some k => k.since | none => s.lant.now)

/-- `n` frames have been protected with a key slot on an egress port. -/
def framesCounted (s : State) (node slot port n : Nat) : State :=
  s.updAg node (fun a => { a with
    counters := a.counters.filter (fun e => !(e.1 == slot && e.2.1 == port)) ++ [(slot, port, s.frameCounter node slot port + n)] })

end State

end Sys2Proof.Machine
end

