-- ==== Sys2Proof/Machine/Agent.lean ====
section
/-! DEFINITION. The agent's data plane and domains: slots, beacons, notices, frames and items at an agent (R70, R73, R93
to R101, R122, R123, R128, R335, R336, R353, R379 to R386, R402 to R408), and the agent registers that Varlor writes. -/
namespace Sys2Proof.Machine

-- Fault causes of Table 5.5
namespace Cause
abbrev portDown : Nat := 1
abbrev portUp : Nat := 2
abbrev beaconChange : Nat := 3
abbrev neighbourSilent : Nat := 4
abbrev computeFault : Nat := 5
abbrev computeReset : Nat := 6
abbrev unknownFlow : Nat := 7
abbrev relayOverflow : Nat := 8
abbrev drainExceeded : Nat := 9
abbrev isolation : Nat := 10
end Cause

/-- Slot entries of a port in a bank; none for an unscheduled port. -/
def Bank.port (b : Bank) (p : Nat) : List Nat := b.slots.getD p []

/-- The largest payload of one data frame (Table 15.3), and the most frame bytes and sideband blocks of a slot (R91, R382). -/
def framePayload : Nat := 65536
def slotBytes : Nat := 187200
def slotBlocks : Nat := 124

/-- The bytes that a data frame takes in a slot: its payload, and the trailer when it is protected (R384). -/
def frameBytes (f : DataFrame) : Nat := f.payload.length + (if f.protectedFrame then 32 else 0)

/-- A flow entry of an agent that is in its active table, by flow and variant. -/
def Agent.entry (a : Agent) (flow : Nat) (detour : Bool) : Option Nat :=
  (a.flows.find? (fun e => e.active && feFlow e.word == flow && feVariant e.word == (if detour then 1 else 0))).map (·.word)

/-- The cupola of the slots that a flow owns at this agent, 0 for none. -/
def Agent.flowCupola (a : Agent) (flow : Nat) : Nat :=
  match a.active.slots.findSome? (fun p => p.find? (fun e => slotFlow e == flow)) with
  | some e => slotCupola e
  | none => 0

/-- R102: the flow's entry, or a slot it owns, differs between the shadow and the active bank. -/
def Agent.changedFlow (a : Agent) (flow : Nat) : Bool :=
  let act := (a.flows.filter (fun e => e.active && feFlow e.word == flow)).map (·.word)
  let sha := (a.flows.filter (fun e => e.shadow && feFlow e.word == flow)).map (·.word)
  let owned (b : Bank) : List (List Nat) := b.slots.map (fun p => p.map (fun e => if slotFlow e = flow then e else 0))
  act.mergeSort != sha.mergeSort || owned a.active != owned a.shadow

/-- R395, R99: a next hop is MOVED in the active L2P table; only a next hop of the agent's own spire is looked up. -/
def Agent.moved (a : Agent) (spire next : Nat) : Bool :=
  let e := a.active.l2p.getD (localOf next) 0
  next / 512 == spire && l2pValid e && l2pMoved e

/-- The flow is stopped at its source in a round (R101). -/
def Agent.stopped (a : Agent) (flow round : Nat) : Bool :=
  a.quiesced.any (fun q => q.1 == flow && decide (q.2.1 ≤ round) && (match q.2.2 with | some u => decide (round < u) | none => true))

/-- The 64 bytes of a beacon from its fields (Table 3.1): frame type 1, or 3 at the head of a probe reply; CRC-32C over bytes
0x00 to 0x3B. -/
def beaconFrame (type : Nat) (l : List Nat) : Bytes :=
  let at_ (i n : Nat) : Bytes := leBytes n (l.getD i 0)
  let body := leBytes 2 type ++ at_ 0 1 ++ at_ 1 1 ++ at_ 2 1 ++ at_ 3 1 ++ at_ 4 2 ++ at_ 5 8 ++ at_ 6 8 ++ at_ 7 4 ++ at_ 8 4
    ++ at_ 9 4 ++ at_ 10 4 ++ at_ 11 1 ++ at_ 12 1 ++ zeros 18
  body ++ leBytes 4 (crc32c body)

namespace State

/-- The port of an agent is trained. -/
def portUp (s : State) (node port : Nat) : Bool := hasBit (s.ga F.AG_STATUS_PORTS_UP node 0) port

/-- The port has an active slot map (R70). -/
def scheduled (s : State) (node port : Nat) : Bool := !((s.ag node).active.port port).isEmpty

/-- The port state of Table 3.2 that the agent reports for a trained port. -/
def trainedState (s : State) (node port : Nat) : Nat :=
  if s.ga F.AG_PORT_CFG_DARK node port = 1 then 3 else if s.scheduled node port then 2 else 1

/-- The far element's ID on a port. -/
def farId (s : State) (node port : Nat) : Nat :=
  s.ga F.AG_PORT_FAR_ID node (2 * port) + 2 ^ 64 * s.ga F.AG_PORT_FAR_ID node (2 * port + 1)

/-- The placed local node whose element has an ID. -/
def nodeOfId (s : State) (id : Nat) : Option Nat := (s.disc.placed.find? (fun e => e.2 == id)).map (·.1)

/-- The local node at the far end of a port, when its element is placed. -/
def farNode (s : State) (node port : Nat) : Option Nat := s.nodeOfId (s.farId node port)

/-- The agent queues a fault notice (R128): a further occurrence of a cause and port counts in the notice that has not
left. AG_FAULT shows the last one queued. -/
def notice (s : State) (node cause port flow cupola : Nat) : State :=
  let a := s.ag node
  let l :=
    if a.notices.any (fun e => e.1 == cause && e.2.1 == port) then
      updWhere (fun e => e.1 == cause && e.2.1 == port) (fun e => (e.1, e.2.1, e.2.2.1, e.2.2.2.1, e.2.2.2.2.1 + 1, e.2.2.2.2.2))
        a.notices
    else a.notices ++ [(cause, port, flow, cupola, 1, s.round)]
  let n := match l.find? (fun e => e.1 == cause && e.2.1 == port) with
    | some e => e.2.2.2.2.1
    | none => 1
  let s1 := s.setAg { a with notices := l }
  ((((s1.pn F.AG_FAULT_CAUSE node cause).pn F.AG_FAULT_PORT node port).pn F.AG_FAULT_FLOW node flow).pn
    F.AG_FAULT_CUPOLA node cupola).pn F.AG_FAULT_COUNT node (sat 16 n)

/-- The element's node number in its heartbeats and notices. -/
def agNode (s : State) (node : Nat) : Nat := s.ga F.AG_NODE_NODE node 0

/-- The fields of the agent's beacon for a port, in the order of Table 3.1. -/
def beaconFields (s : State) (node port : Nat) : List Nat :=
  [s.ga F.AG_IDENT_LEVEL node 0, s.ga F.AG_IDENT_KIND node 0, port, s.ga F.AG_IDENT_PORTS node 0,
   (if s.scheduled node port then 1 else 0) + 2 * s.ga F.AG_PORT_CFG_DARK node port
     + 4 * s.ga F.AG_STATUS_COMPUTE_RESET node 0,
   s.ga F.AG_ID_ID node 0, s.ga F.AG_ID_ID node 1, s.ga F.AG_NODE_EPOCH node 0, s.agNode node,
   s.ga F.AG_CENSUS_USABLE node 0, s.ga F.AG_CENSUS_DESIGNED node 0, 0, 0]

/-- The agent sends a beacon on a port (R70). -/
def sendBeacon (s : State) (node port : Nat) : State :=
  let l := s.beaconFields node port
  s.emit .beacon node port l (beaconFrame 1 l)

/-- The content of the agent's beacon has changed: another goes out on every trained port (R70). -/
def sendBeacons (s : State) (node : Nat) : State :=
  ((List.range 16).filter (s.portUp node)).foldl (fun (t : State) p => t.sendBeacon node p) s

/-- The port that an entry's egress means: a cross-connect's Varlor-facing ports lead to its manager (R357). -/
def egressPort (s : State) (node port : Nat) : Nat :=
  if hasBit (s.ga F.AG_TREE_VARLOR_FACING node 0) port && s.ga F.AG_MANAGER_VALID node 0 = 1 then
    s.ga F.AG_MANAGER_PORT node 0
  else port

/-- The port is the agent's uplink in the install tree (R126, R408). -/
def isUplink (s : State) (node port : Nat) : Bool :=
  s.ga F.AG_TREE_UP_VALID node 0 == 1 && s.egressPort node (s.ga F.AG_TREE_UPLINK node 0) == port

/-- A management frame waits at the agent for a slot (R93). -/
def queueFrame (s : State) (node : Nat) (f : MgmtFrame) : State := s.updAg node (fun a => { a with mgmt := a.mgmt ++ [f] })

/-- The agent sends its heartbeat on a port (R126, Table 5.3). -/
def sendHeartbeat (s : State) (node port : Nat) : State :=
  s.send .heartbeat node port
    [s.ga F.AG_STATUS_COMPUTE_UP node 0 + 2 * s.ga F.AG_STATUS_COMPUTE_RESET node 0, s.ga F.AG_INSTALL_STATE node 0,
     s.agNode node, s.round, s.ga F.AG_NODE_EPOCH node 0, s.ga F.AG_STATUS_PORTS_UP node 0,
     s.ga F.AG_INSTALL_INSTALL_ID node 0]

/-- The fault notices that the agent can send, `n` at most: one per cause and port in a round (R128). -/
def noticesDue (s : State) (node n : Nat) : List (Nat × Nat × Nat × Nat × Nat × Nat) :=
  let a := s.ag node
  (a.notices.filter (fun e => !a.noticed.contains (e.1, e.2.1))).take n

/-- The agent sends its waiting fault notices, `n` at most (R128). -/
def sendNotices (s : State) (node port n : Nat) : State :=
  let a := s.ag node
  let go := s.noticesDue node n
  let s1 := s.setAg { a with notices := a.notices.filter (fun e => !go.contains e),
                             noticed := a.noticed ++ go.map (fun e => (e.1, e.2.1)) }
  go.foldl (fun (t : State) e =>
    t.send .notice node port [e.1, e.2.1, s.agNode node, e.2.2.2.2.2, e.2.2.1, e.2.2.2.1, e.2.2.2.2.1,
      if e.2.1 = 0xFF then 0 else s.farId node e.2.1]) s1

/-- The agent sends telemetry frames, `n` at most, within its allowances of a round (R325, R408). -/
def sendAgentTelemetry (s : State) (node port n : Nat) : State :=
  let a := s.ag node
  let units (c : Nat) : Nat := if c = 0 then s.ga F.AG_ALLOW_ALARM node 0 else s.ga F.AG_ALLOW_TRACE node 0
  let go (c : Nat) : List (Nat × Nat) := (a.telemetry.filter (fun e => e.1 == c)).take (units c / 2)
  let sent := (go 0 ++ go 1).take n
  let s1 := s.setAg { a with telemetry := sent.foldl (fun l e => l.erase e) a.telemetry }
  sent.foldl (fun (t : State) e => t.send .telemetry node port [e.1, e.2]) s1

/-- The frames of a queue that fit in what remains of a slot, in order (R91, R93). -/
def mgmtTake : Nat → List MgmtFrame → List MgmtFrame
  | _, [] => []
  | room, f :: rest => if f.bytes ≤ room then f :: mgmtTake (room - f.bytes) rest else []

/-- One queue of Table 4.3 is served on a port, as far as the slot goes: the state after, and what remains of the slot. -/
def serve (s : State) (node port room : Nat) (pick : MgmtFrame → Bool) : State × Nat :=
  let up := s.isUplink node port
  let go := mgmtTake room ((s.ag node).mgmt.filter (fun f => pick f && (f.port == port || (f.port == 0xFF && up))))
  let s1 := s.updAg node (fun a => { a with mgmt := go.foldl (fun l f => l.erase f) a.mgmt })
  ({ s1 with sent := s1.sent ++ go.map (fun f => { f.out with b := port }) }, room - go.foldl (fun n f => n + f.bytes) 0)

/-- Queues 2 to 7 of Table 4.3 on a port: notices and the heartbeat on the uplink, install control, probes, access replies,
segments in a table slot, telemetry on the uplink. -/
def serveQueues (s : State) (node port room : Nat) (beat table telemetry : Bool) (pick : MgmtFrame → Bool) : State :=
  let up := s.isUplink node port
  let n := if up then (s.noticesDue node (room / 64)).length else 0
  let s1 := if up then s.sendNotices node port (room / 64) else s
  let r1 := room - 64 * n
  let (s2, r2) := if up && beat && decide (64 ≤ r1) then (s1.sendHeartbeat node port, r1 - 64) else (s1, r1)
  let (s3, r3) := s2.serve node port r2 (fun f => pick f && f.order == 3)
  let (s4, r4) := s3.serve node port r3 (fun f => pick f && f.order == 4)
  let (s5, r5) := s4.serve node port r4 (fun f => pick f && f.order == 5)
  let (s6, r6) := if table then s5.serve node port r5 (fun f => pick f && f.order == 6) else (s5, r5)
  if up && telemetry then s6.sendAgentTelemetry node port (r6 / 128) else s6

/-- R94: the management slot of number `j` in its round is a table slot. -/
def isTableSlot (s : State) (j : Nat) : Bool :=
  let share := s.g F.BELL_CFG_TABLE_SHARE
  decide (j * share % 16 < share)

/-- A management slot of a port, `j` in its round (R93, R94): the beacon in the first one, then the other queues. -/
def managementSlot (s : State) (node port j : Nat) : State :=
  if j = 0 then (s.sendBeacon node port).serveQueues node port (slotBytes - 64) true (s.isTableSlot j) true (fun _ => true)
  else s.serveQueues node port slotBytes false (s.isTableSlot j) true (fun _ => true)

/-- Frames of a queue that fit in one slot (R91, R382), in order; on a keyed port every one carries a trailer (R340, R384). -/
def fitting (keyed : Bool) : Nat → Nat → List Queued → List Queued
  | _, _, [] => []
  | bytes, blocks, q :: rest =>
    let n := frameBytes { q.frame with protectedFrame := q.frame.protectedFrame || keyed }
    if n ≤ bytes && 5 ≤ blocks then q :: fitting keyed (bytes - n) (blocks - 5) rest else []

/-- A frame as it leaves on a port: in hop mode protected with the port's transmit-current key, under its epoch's phase and the
port's next counter (R335, R340, R404); elsewhere as it stands. -/
def protectHop (s : State) (node port : Nat) (f : DataFrame) : DataFrame :=
  let slot := 64 + 4 * port
  if s.ga F.AG_PORT_CFG_KEYED node port = 1 then
    let ep := s.ga F.AG_KEY_INFO_EPOCH node slot
    { f with protectedFrame := true, keyPhase := ep % 2, counter := s.frameCounter node slot port, tagKey := some ep }
  else f

/-- What a protected frame shows of its protection: the counter and the phase of its trailer (Table 15.4), and its IV (R335). -/
def trailerFields (s : State) (node port : Nat) (f : DataFrame) : List Nat :=
  if f.protectedFrame then
    let hop := s.ga F.AG_PORT_CFG_KEYED node port == 1
    [f.counter, f.keyPhase] ++ (if hop then [field (frameIv (s.ga F.AG_NODE_NODE node 0) port f.counter) 0 12] else [])
  else []

/-- An isolation discard (R123). -/
def isolate (s : State) (node port flow cupola : Nat) : State :=
  ((s.countAg node 4).raiseAgent F.AG_EVENT_ISOLATION node).notice node Cause.isolation port flow cupola

/-- The final frame of an item has left its source. -/
def markLeft (flow tag : Nat) (l : List SourceItem) : List SourceItem :=
  updWhere (fun i => i.tag == tag && i.flow == flow) (fun i => { i with left := true }) l

/-- A frame of a keyed port has been protected. -/
def hopCounted (s : State) (node port : Nat) : State :=
  if s.ga F.AG_PORT_CFG_KEYED node port = 1 then s.framesCounted node (64 + 4 * port) port 1 else s

/-- One frame leaves on a port; its cupola must be that of the slot entry (R123). -/
def leave (s : State) (node port cupola : Nat) (q : Queued) : State :=
  let a := s.ag node
  let s1 := s.setAg { a with queue := a.queue.erase q }
  if q.cupola ≠ cupola then s1.isolate node port q.flow q.cupola
  else
    let f := s.protectHop node port q.frame
    let s2 := (s1.emit .data node port ([f.flow, f.cupola, (if f.detour then 1 else 0), f.source, f.tag, f.index]
      ++ s.trailerFields node port f) f.payload).hopCounted node port
    if f.last && f.source = s.agNode node && !f.receipt then
      s2.updAg node (fun a => { a with sources := markLeft f.flow f.tag a.sources })
    else s2

/-- A port in hop mode whose transmit key must be promoted first (R404). -/
def hopStalled (s : State) (node port : Nat) : Bool :=
  s.ga F.AG_PORT_CFG_KEYED node port == 1 &&
    (s.ga F.AG_PORT_CFG_FORCE_REKEY node port == 1 ||
      decide (2 ^ s.ga F.AG_PORT_CFG_REKEY_EXP node port ≤ lookupD (s.ag node).txCount port 0))

/-- A slot that a plan flow owns (R95). -/
def flowSlot (s : State) (node port entry : Nat) : State :=
  let a := s.ag node
  let mine := a.queue.filter (fun q => q.port == port && q.flow == slotFlow entry)
  let go := if s.hopStalled node port then [] else fitting (s.ga F.AG_PORT_CFG_KEYED node port == 1) slotBytes slotBlocks mine
  if go.isEmpty then
    let s1 := s.send .idle node port [slotFlow entry]
    match s.farNode node port with
    | some far => s1.countAg far 0
    | none => s1
  else
    let s1 := go.foldl (fun (t : State) q => t.leave node port (slotCupola entry) q) s
    if s.ga F.AG_PORT_CFG_KEYED node port = 1 then
      s1.updAg node (fun a => { a with txCount := setKey a.txCount port (lookupD a.txCount port 0 + go.length) })
    else s1

/-- A slot of the boot pattern (R70): the beacon on an unscheduled port, the agent's own frames, or the head of one relay
queue. A dark port carries beacons and probes alone (R73, R79). -/
def bootSlot (s : State) (node port slot : Nat) (scheduled dark : Bool) : State :=
  if slot % 64 = 0 then (if scheduled then s else s.sendBeacon node port)
  else if slot % 64 = 32 then
    if dark then (s.serve node port slotBytes (fun f => f.relay.isNone && f.order == 4)).1
    else s.serveQueues node port slotBytes (slot == 32) true false (fun f => f.relay.isNone)
  else
    let ingress := slot % max 1 (s.ga F.AG_IDENT_PORTS node 0)
    match (s.ag node).mgmt.find? (fun f => f.port == port && f.relay == some ingress && (!dark || f.order == 4)) with
    | some f => (s.serve node port f.bytes (fun x => x == f)).1
    | none =>
      match (s.ag node).queue.find? (fun q => !dark && q.port == port && q.relay && q.ingress == ingress) with
      | some q => s.leave node port q.cupola q
      | none => s.send .idle node port []

/-- SLOT_START (R95). -/
def slotStart (s : State) (node port slot : Nat) : State :=
  if !s.portUp node port then s
  else
    let slots := (s.ag node).active.port port
    let dark := s.ga F.AG_PORT_CFG_DARK node port == 1
    let e := slots.getD slot 0
    let j := ((slots.take slot).filter isMgmt).length
    if slots.isEmpty then s.bootSlot node port slot false dark
    else if dark then (if isMgmt e && j = 0 then s.sendBeacon node port else s).bootSlot node port slot true true
    else if isMgmt e then s.managementSlot node port j
    else if slotFlow e = 0 || isReserve e then s.send .idle node port []
    else s.flowSlot node port e

/-- A beacon is received by an agent (R72, R128). -/
def agentBeacon (s : State) (node port : Nat) (b : Beacon) : State :=
  if !b.crcOk || b.reserved ≠ 0 then
    s.pa F.AG_PORT_BEACON_ERR node port (sat 16 (s.ga F.AG_PORT_BEACON_ERR node port + 1))
  else
    let a := s.ag node
    let old := a.seen.find? (fun e => e.1 == port)
    let level := min b.level (s.ga F.AG_IDENT_LEVEL node 0)
    let changed := match old with
      | none => false
      | some e => s.farId node port != b.elementId || s.ga F.AG_PORT_FAR_KIND node port != b.kind
          || s.ga F.AG_PORT_LEVEL node port != level
          || (e.2.1 != b.epoch && b.epoch != s.ga F.AG_NODE_EPOCH node 0)
    let s1 := s.setAg { a with seen := a.seen.filter (fun e => e.1 != port) ++ [(port, b.epoch, b.boundNode)],
                               heard := setKey a.heard port s.round }
    let s2 := ((s1.pa F.AG_PORT_STATE node port (s.trainedState node port)).pa F.AG_PORT_LEVEL node port level).pa
      F.AG_PORT_FAR_PORT node port b.port
    let inter := b.boundNode != 0xFFFFFFFF && b.boundNode / 512 != s.spire
    let s3 := (s2.pa F.AG_PORT_FAR_KIND node port b.kind).pa F.AG_PORT_INTERSPIRE node port (if inter then 1 else 0)
    let s4 := (s3.pa F.AG_PORT_FAR_ID node (2 * port) (b.elementId % 2 ^ 64)).pa F.AG_PORT_FAR_ID node (2 * port + 1)
      (b.elementId / 2 ^ 64)
    if changed then s4.notice node Cause.beaconChange port 0 0 else s4

/-- IDENTITY_UNKNOWN (R72): no valid beacon for 4 rounds after training. -/
def agentIdentityUnknown (s : State) (node port : Nat) : State :=
  if s.portUp node port && decide (lookupD (s.ag node).heard port 0 + 4 ≤ s.round) then s.pa F.AG_PORT_STATE node port 4
  else s

/-- NEIGHBOUR_SILENT (R128): a scheduled port with its link up carries no beacon in 2 rounds. -/
def neighbourSilent (s : State) (node port : Nat) : State :=
  if s.portUp node port && s.scheduled node port && decide (lookupD (s.ag node).heard port 0 + 2 ≤ s.round) then
    s.notice node Cause.neighbourSilent port 0 0
  else s

/-- One port record of a probe reply (Table 3.2) as numbers. -/
def portRecord (s : State) (node port : Nat) : List Nat :=
  let a := s.ag node
  let up := s.portUp node port
  [if up then s.ga F.AG_PORT_STATE node port else 0, if up then s.ga F.AG_PORT_LEVEL node port else 0,
   s.ga F.AG_PORT_FAR_PORT node port, s.ga F.AG_PORT_FAR_KIND node port,
   (match a.seen.find? (fun e => e.1 == port) with | some e => e.2.1 | none => 0), s.farId node port,
   s.ga F.AG_PORT_BEACON_ERR node port - lookupD a.errSeen port 0]

/-- The 32 bytes of a port record (Table 3.2). -/
def portRecordBytes (l : List Nat) : Bytes :=
  let at_ (i n : Nat) : Bytes := leBytes n (l.getD i 0)
  at_ 0 1 ++ at_ 1 1 ++ at_ 2 1 ++ at_ 3 1 ++ at_ 4 4 ++ at_ 5 16 ++ at_ 6 4 ++ zeros 4

/-- PROBE (R73): queued for the next route port, or answered with the beacon and the port records. -/
def probe (s : State) (node ingress : Nat) (route : List Nat) : State :=
  match route with
  | p :: rest => if s.portUp node p then s.queueFrame node ⟨p, 4, 64, some ingress, ⟨.probe, node, p, rest, []⟩⟩ else s
  | [] =>
    let ports := List.range (s.ga F.AG_IDENT_PORTS node 0)
    let l := s.beaconFields node ingress
    let records := ports.map (s.portRecord node)
    let reply : Emit := ⟨.probeReply, node, ingress, l ++ records.flatten, beaconFrame 3 l ++ (records.map portRecordBytes).flatten⟩
    let s1 := s.queueFrame node ⟨ingress, 4, 64 + 32 * ports.length, none, reply⟩
    s1.updAg node (fun a => { a with errSeen := ports.map (fun p => (p, s.ga F.AG_PORT_BEACON_ERR node p)) })

/-- A port of an agent trains (R70, R386). -/
def agentTrained (s : State) (node port : Nat) : State :=
  let s1 := s.pn F.AG_STATUS_PORTS_UP node (setBit (s.ga F.AG_STATUS_PORTS_UP node 0) port true)
  let s2 := (s1.pa F.AG_PORT_STATE node port (s.trainedState node port)).updAg node
    (fun a => { a with heard := setKey a.heard port s.round })
  (s2.sendBeacon node port).notice node Cause.portUp port 0 0

/-- A trained port of an agent loses lock or signal (R386). -/
def agentLost (s : State) (node port : Nat) : State :=
  if s.portUp node port then
    let s1 := s.pn F.AG_STATUS_PORTS_UP node (setBit (s.ga F.AG_STATUS_PORTS_UP node 0) port false)
    ((s1.pa F.AG_PORT_STATE node port 0).pa F.AG_PORT_LEVEL node port 0).notice node Cause.portDown port 0 0
  else s

-- Frames and items

/-- The way of a frame (R98, R99): `none` where it has no entry; otherwise the egress port (31 LOCAL) and the DETOUR bit
with which it goes on. -/
def route (s : State) (node flow : Nat) (detour : Bool) : Option (Nat × Bool) :=
  let a := s.ag node
  match a.entry flow detour with
  | none => none
  | some e =>
    if feEgress e = 31 then some (31, detour)
    else if detour then some (s.egressPort node (feEgress e), feRejoin e == 0)
    else if a.moved s.spire (feNextHop e) then
      match a.entry flow true with
      | some d => some (s.egressPort node (feEgress d), feRejoin d == 0)
      | none => none
    else some (s.egressPort node (feEgress e), false)

/-- An agent reports an item's fate to its element, or counts the report while the element is in compute reset (R379). -/
def fate (s : State) (node flow tag status detail : Nat) : State :=
  if s.ga F.AG_STATUS_COMPUTE_RESET node 0 = 1 then s.countAg node 9
  else s.send .fateReport node flow [tag, status, detail]

/-- The filter holds an active entry for a cupola (R400). -/
def admits (s : State) (node cupola : Nat) : Bool :=
  cupola != 0 && (List.range 64).any (fun i =>
    s.ga F.AG_FILTER_CUPOLA node i == cupola && decide (s.ga F.AG_FILTER_ROUND node i ≤ s.round))

/-- A frame without an entry is dropped, counted and reported (R98, R99). -/
def unknownFlow (s : State) (node ingress flow : Nat) : State :=
  ((s.countAg node 1).raiseAgent F.AG_EVENT_UNKNOWN_FLOW node).notice node Cause.unknownFlow ingress flow 0

/-- Key slot `i` is loaded. -/
def keyLoaded (s : State) (node i : Nat) : Bool := s.ga F.AG_KEY_INFO_LOADED node i == 1

/-- The epoch or generation in key slot `i`. -/
def keyEpoch (s : State) (node i : Nat) : Nat := s.ga F.AG_KEY_INFO_EPOCH node i

/-- A key slot's public fields. -/
def setKeyInfo (s : State) (node i loaded cupola ep : Nat) : State :=
  ((s.pa F.AG_KEY_INFO_LOADED node i loaded).pa F.AG_KEY_INFO_CUPOLA node i cupola).pa F.AG_KEY_INFO_EPOCH node i ep

/-- A key slot takes a key that becomes active at a fabric time. -/
def putKey (s : State) (node i : Nat) (key : Bytes) (since : Nat) : State :=
  s.updAg node (fun a => { a with
    loaded := a.loaded.filter (fun k => k.slot != i) ++ [⟨i, key, since⟩]
    counters := a.counters.filter (fun e => e.1 != i) })

/-- Key slots are empty: their keys are erased. -/
def dropKeys (s : State) (node : Nat) (slots : List Nat) : State :=
  slots.foldl (fun (t : State) i => t.setKeyInfo node i 0 0 0) (s.updAg node (fun a => { a with
    loaded := a.loaded.filter (fun k => !slots.contains k.slot)
    counters := a.counters.filter (fun e => !slots.contains e.1) }))

/-- The key of a next role becomes that of the current role: a link key becomes active now; a job key has been since its switch
round, and its counters go on (R335). -/
def moveKey (cur now : Nat) (a : Agent) : Agent :=
  let hop := decide (64 ≤ cur)
  { a with
    loaded := (a.loaded.filter (fun k => k.slot != cur)).map (fun k =>
      if k.slot == cur + 1 then { k with slot := cur, since := if hop then now else k.since } else k)
    counters := ((a.counters.filter (fun e => e.1 != cur && !(hop && e.1 == cur + 1))).map (fun e =>
      if e.1 == cur + 1 then (cur, e.2) else e)) }

/-- A next role's key moves into the current role, and the next role empties (R402, R404). -/
def promoteSlot (s : State) (node cur : Nat) : State :=
  let s1 := s.updAg node (moveKey cur s.lant.now)
  (s1.setKeyInfo node cur 1 (s.ga F.AG_KEY_INFO_CUPOLA node (cur + 1)) (s.keyEpoch node (cur + 1))).setKeyInfo node (cur + 1)
    0 0 0

/-- The role that opens a hop-mode frame (R404): the loaded receive role whose epoch has bit 0 equal to the phase. -/
def hopRole (s : State) (node port phase : Nat) : Option Nat :=
  [64 + 4 * port + 2, 64 + 4 * port + 3].find? (fun i => s.keyLoaded node i && s.keyEpoch node i % 2 == phase % 2)

/-- Hop-mode reception on a keyed port (R336, R340, R404): the state after the checks, and whether the frame passes. -/
def hopReceive (s : State) (node port : Nat) (f : DataFrame) : State × Bool :=
  let fail := ((s.countAg node 5).raiseAgent F.AG_EVENT_TAG_FAIL node, false)
  if !f.protectedFrame then fail
  else
    match s.hopRole node port f.keyPhase with
    | none => fail
    | some role =>
      if f.tagKey ≠ some (s.keyEpoch node role) then fail
      else
        let isNext := role == 64 + 4 * port + 3
        let last := if isNext then none else ((s.ag node).rxCounter.find? (fun e => e.1 == port)).map (·.2)
        let fresh := match last with
          | some c => decide (c < f.counter)
          | none => true
        if !fresh then (s.countAg node 6, false)
        else
          let s1 := if isNext then s.promoteSlot node (role - 1) else s
          (s1.updAg node (fun a => { a with rxCounter := setKey a.rxCounter port f.counter }), true)

/-- The key group of a cupola in job mode (R402). -/
def jobGroup (s : State) (node cupola : Nat) : Option Nat :=
  (List.range 16).find? (fun c => (List.range 4).any (fun r =>
    s.keyLoaded node (4 * c + r) && s.ga F.AG_KEY_INFO_CUPOLA node (4 * c + r) == cupola))

/-- A job-mode frame authenticates at its destination (R337, R403). -/
def jobOpens (s : State) (node : Nat) (f : DataFrame) : Bool :=
  match s.jobGroup node f.cupola with
  | none => false
  | some c =>
    let base := 4 * c + (if f.source / 512 = s.spire then 0 else 2)
    let role := if f.keyPhase = 1 && s.keyLoaded node (base + 1) then base + 1 else base
    s.keyLoaded node role && f.tagKey == some (s.keyEpoch node role)

/-- Queue a frame for the next slot its flow owns on a port (R98). -/
def enqueueFrame (s : State) (node port : Nat) (f : DataFrame) (relay : Bool) (ingress : Nat) : State :=
  s.updAg node (fun a => { a with queue := a.queue ++ [⟨port, f.flow, f.cupola, f, s.round, relay, ingress⟩] })

/-- A delivery receipt reaches the source of an item (R97, R383): `flow` is the receipt's own flow. -/
def deliveryReceipt (s : State) (node flow tag : Nat) : State :=
  let item := Nat.xor flow 1
  match (s.ag node).sources.find? (fun i => i.flow == item && i.tag == tag) with
  | none => s
  | some i =>
    if s.round ≤ i.window + drainBound (s.tables.classOfFlow item) then
      let s1 := s.updAg node (fun a => { a with sources := a.sources.erase i })
      s1.fate node item tag Fate.done 0
    else s

/-- The window of a frame's item, as its source has it; an item from outside the spire counts from its first frame (R96).
DEDUCED (log entry 125). -/
def windowOf (s : State) (f : DataFrame) : Nat :=
  match (s.ag (localOf f.source)).sources.find? (fun i => i.flow == f.flow && i.tag == f.tag) with
  | some i => if f.source / 512 = s.spire then i.window else s.round
  | none => s.round

/-- A frame's item at its destination: its frames so far. -/
def takeFrame (s : State) (node : Nat) (f : DataFrame) : State :=
  let a := s.ag node
  let old : SinkItem := match a.sinks.find? (fun i => i.flow == f.flow && i.source == f.source && i.tag == f.tag) with
    | some i => i
    | none => ⟨f.flow, f.cupola, f.source, f.tag, [], none, s.windowOf f⟩
  let new := { old with got := addOnce f.index old.got, last := if f.last then some f.index else old.last }
  let rest := a.sinks.filter (fun i => !(i.flow == f.flow && i.source == f.source && i.tag == f.tag))
  let whole := match new.last with
    | some n => (List.range (n + 1)).all (fun i => new.got.contains i)
    | none => false
  let s1 := s.emit .data node 31 [f.flow, f.cupola, 0, f.source, f.tag, f.index] f.payload
  if whole then
    let s2 := s1.setAg { a with sinks := rest }
    let back := Nat.xor f.flow 1
    let receipt : DataFrame := { f with flow := back, detour := false, first := true, last := true, receipt := true,
                                        source := f.source, index := 0, payload := [], protectedFrame := false }
    match s2.route node back false with
    | some (p, d) => if p = 31 then s2.deliveryReceipt node back f.tag else s2.enqueueFrame node p { receipt with detour := d } false 0
    | none => s2.unknownFlow node 0xFF back
  else s1.setAg { a with sinks := rest ++ [new] }

/-- A frame reaches its delivery agent (R98, R123, R353, R383). -/
def deliverFrame (s : State) (node ingress : Nat) (f : DataFrame) : State :=
  let a := s.ag node
  if a.late.any (fun e => e.1 == f.cupola && decide (s.round < e.2 + 64)) then
    (s.countAg node 5).fate node f.flow f.tag Fate.keyRetired f.cupola
  else if !s.admits node f.cupola then s.isolate node ingress f.flow f.cupola
  else if f.receipt then s.deliveryReceipt node f.flow f.tag
  else if s.ga F.AG_PORT_CFG_KEYED node ingress = 0 && f.protectedFrame && !s.jobOpens node f then
    (s.countAg node 5).raiseAgent F.AG_EVENT_TAG_FAIL node
  else s.takeFrame node f

/-- Bytes that wait in the relay buffer of an ingress port. -/
def relayBytes (s : State) (node ingress : Nat) : Nat :=
  ((s.ag node).queue.filter (fun q => q.relay && q.ingress == ingress)).foldl (fun n q => n + frameBytes q.frame) 0

/-- FRAME_ARRIVE (R98, R99, R123, R336). -/
def frameArrive (s : State) (node ingress : Nat) (f : DataFrame) : State :=
  let hop := s.ga F.AG_PORT_CFG_KEYED node ingress == 1
  let (s1, pass) := if hop then s.hopReceive node ingress f else (s, true)
  let f := if hop then { f with protectedFrame := false, keyPhase := 0, counter := 0, tagKey := none } else f
  if !pass then s1
  else
    match s1.route node f.flow f.detour with
    | none => s1.unknownFlow node ingress f.flow
    | some (port, detour) =>
      if port = 31 then s1.deliverFrame node ingress f
      else if s1.ga F.AG_IDENT_RELAY_KIB node 0 * 1024 < s1.relayBytes node ingress + frameBytes f then
        ((s1.countAg node 2).raiseAgent F.AG_EVENT_RELAY_OVERFLOW node).notice node Cause.relayOverflow ingress f.flow 0
      else s1.enqueueFrame node port { f with detour := detour } true ingress

/-- The frames of an item: payload cut into frames, FIRST and LAST marked (Table 15.3). -/
def framesOf (base : DataFrame) : Nat → Nat → Bytes → List DataFrame
  | 0, _, _ => []
  | n + 1, i, bs =>
    let last := decide (bs.length ≤ framePayload)
    { base with index := i, first := i == 0, last := last, payload := bs.take framePayload, counter := base.counter + i }
      :: (if last then [] else framesOf base n (i + 1) (bs.drop framePayload))

/-- The key that protects an item's frames at its source in job mode (R403): the key slot, the phase and the generation. -/
def jobKeyFor (s : State) (node cupola dest : Nat) : Option (Nat × Nat × Nat) :=
  match s.jobGroup node cupola with
  | none => none
  | some c =>
    let base := 4 * c + (if dest / 512 = s.spire then 0 else 2)
    let sw := match (s.ag node).keys.find? (fun k => k.slot == base + 1) with
      | some k => k.switchRound
      | none => 0
    if s.keyLoaded node (base + 1) && decide (sw ≤ s.round) then some (base + 1, 1, s.keyEpoch node (base + 1))
    else if s.keyLoaded node base then some (base, 0, s.keyEpoch node base) else none

/-- ITEM_INJECT (R122, R383, R101, R102): refused at admission, not ready, or its frames are queued. An item whose flow has no way
(R99) has its fate under R97 all the same. -/
def itemInject (s : State) (node flow cupola tag window : Nat) (payload : Bytes) : State :=
  let a := s.ag node
  let b := drainBound (s.tables.classOfFlow flow)
  let st := s.ga F.AG_INSTALL_STATE node 0
  let pausing := (st == 2 || st == 4) && a.changedFlow flow
    && decide (s.ga F.AG_ACT_ROUND_ROUND node 0 ≤ s.round + b)
  if s.ga F.AG_STATUS_COMPUTE_RESET node 0 = 1 then s
  else if flow = 0x0001 || flow = 0xFFFC || !s.admits node (a.flowCupola flow) then s.fate node flow tag Fate.policy 0
  else if a.stopped flow s.round || pausing then s
  else
    let own := fun (a : Agent) => { a with
      sources := a.sources ++ [⟨flow, cupola, tag, window, s.round, false⟩], started := setKey a.started flow s.round }
    match s.route node flow false with
    | none => (s.updAg node own).unknownFlow node 0xFF flow
    | some (port, detour) =>
      let dest := (s.tables.sinksOf flow).headD (s.logical node)
      let key := s.jobKeyFor node cupola dest
      let base : DataFrame := ⟨flow, cupola, detour, false, false, false, s.agNode node, tag, 0, [], key.isSome,
        (match key with | some k => k.2.1 | none => 0),
        (match key with | some k => s.frameCounter node k.1 port | none => 0), key.map (·.2.2)⟩
      let l := framesOf base (payload.length + 1) 0 payload
      let s1 := s.updAg node own
      let s2 := match key with
        | some k => s1.framesCounted node k.1 port l.length
        | none => s1
      l.foldl (fun (t : State) f => t.enqueueFrame node port f false 0) s2

/-- ITEM_WINDOW_EXPIRY (R96). -/
def itemWindowExpiry (s : State) (node tag : Nat) : State :=
  match (s.ag node).sources.find? (fun i => i.tag == tag && !i.left && decide (i.window < s.round)) with
  | none => s
  | some i =>
    let s1 := s.updAg node (fun a => { a with
      sources := a.sources.erase i,
      queue := a.queue.filter (fun q => !(q.flow == i.flow && q.frame.tag == tag && q.frame.source == s.agNode node)) })
    s1.fate node i.flow tag Fate.timeout 0

/-- RECEIPT_TIMEOUT (R97). -/
def receiptTimeout (s : State) (node tag : Nat) : State :=
  match (s.ag node).sources.find? (fun i => i.tag == tag &&
      decide (i.window + drainBound (s.tables.classOfFlow i.flow) < s.round)) with
  | none => s
  | some i =>
    (s.updAg node (fun a => { a with sources := a.sources.erase i })).fate node i.flow tag Fate.unconfirmed 0

/-- The round in which the source of a flow last started an item (R100). -/
def lastStart (s : State) (flow : Nat) : Option Nat :=
  (((s.agents.flatMap (fun a => a.started)) ++ s.bell.started).filter (fun e => e.1 == flow)).foldl
    (fun (m : Option Nat) e => some (max (m.getD 0) e.2)) none

/-- DRAIN_BOUND_EXPIRY (R100, R96): frames held beyond the drain bound are discarded, counted from the round in which the flow's
source last started an item; of a flow whose source lies outside the spire, from the round in which the frame came. A partial
item goes when its window and the bound have both passed. -/
def drainBoundExpiry (s : State) (node flow : Nat) : State :=
  let a := s.ag node
  let b := drainBound (s.tables.classOfFlow flow)
  let late : Queued → Bool := fun q => q.flow == flow && decide ((s.lastStart flow).getD q.since + b < s.round)
  let n := (a.queue.filter late).length
  let s1 := s.setAg { a with queue := a.queue.filter (fun q => !late q),
                             sinks := a.sinks.filter (fun i => !(i.flow == flow && decide (i.window + b < s.round))) }
  if n = 0 then s1
  else ((s1.bump .AG_COUNT node 3 n).raiseAgent F.AG_EVENT_DRAIN_EXCEEDED node).notice node Cause.drainExceeded 0xFF flow 0

/-- FAILURE_BROADCAST at an agent (R133): its element's items of the named cupolas end. -/
def failureBroadcast (s : State) (node : Nat) (b : FailBcast) : State :=
  let a := s.ag node
  let hit := a.sources.filter (fun i => b.cupolas.contains i.cupola)
  let s1 := s.setAg { a with
    sources := a.sources.filter (fun i => !b.cupolas.contains i.cupola),
    sinks := a.sinks.filter (fun i => !b.cupolas.contains i.cupola),
    queue := a.queue.filter (fun q => !(b.cupolas.contains q.cupola && q.frame.source == s.agNode node)) }
  hit.foldl (fun (t : State) i =>
    let ends := s.agNode node :: s.tables.sinksOf i.flow
    match b.nodes.find? (fun n => ends.contains n) with
    | some n => t.fate node i.flow i.tag Fate.peerLost (n % 2 ^ 16)
    | none =>
      let (ln, lp) := b.links.headD (b.nodes.headD 0, 0)
      t.fate node i.flow i.tag Fate.link (ln % 2 ^ 16 + lp % 16 * 2 ^ 16)) s1

-- Domains

/-- The constructor numbers of the agent registers. -/
def agentRegs : List Nat := (Reg.all.filter Reg.isAgent).map Reg.ctorIdx

/-- LINK_DOMAIN_RESET (R392, R406, Table 15.1): every register at its reset value, every table, filter entry, key slot
and mailbox empty; the RESET_NOTICE carries previous epoch 0; ports retrain. -/
def linkDomainReset (s : State) (node kind : Nat) : State :=
  let s1 := { s with regs := s.regs.filter (fun e => !(e.1.node == node && agentRegs.contains e.1.r)),
                     agents := s.agents.filter (fun a => a.node != node) }
  (s1.originateReset node kind 0).send .reset node kind []

/-- LINK_DOMAIN_WATCHDOG (R380). -/
def linkDomainWatchdog (s : State) (node : Nat) : State := (s.linkDomainReset node 2).pn F.AG_STATUS_WATCHDOG node 1

/-- R377: a switch has a link domain only. -/
def linkOnly (s : State) (node : Nat) : Bool := s.ga F.AG_IDENT_KIND node 0 == 2

/-- COMPUTE_FATAL (R379, R386); a switch has no compute domain (R377). -/
def computeFatal (s : State) (node : Nat) : State :=
  if s.linkOnly node then s else s.notice node Cause.computeFault 0xFF 0 0

/-- COMPUTE_IN_RESET (R379, R386, R392, R406); the beacon shows it (R70). -/
def computeInReset (s : State) (node : Nat) (afterFatal : Bool) : State :=
  if s.linkOnly node then s
  else
  let granted := (s.ag node).granted
  let old := s.ga F.AG_EPOCH_ELEMENT node 0
  let s1 := ((s.pn F.AG_STATUS_COMPUTE_RESET node 1).pn F.AG_STATUS_COMPUTE_UP node 0).emptyInbound node
  let s2 := (s1.pn F.AG_EPOCH_ELEMENT node ((old + 1) % 256)).originateReset node 5 old
  let s3 := (s2.updAg node (fun a => { a with granted := false })).sendBeacons node
  if granted then s3
  else
    let s4 := if afterFatal then s3 else s3.notice node Cause.computeReset 0xFF 0 0
    s4.notice node Cause.beaconChange 0xFF 0 0

/-- COMPUTE_UP (R386, R392): the census is latched, and the change is reported. -/
def computeUp (s : State) (node usable designed : Nat) : State :=
  if s.linkOnly node then s
  else
  let changed := s.ga F.AG_STATUS_COMPUTE_RESET node 0 == 1 || s.ga F.AG_CENSUS_USABLE node 0 != usable
    || s.ga F.AG_CENSUS_DESIGNED node 0 != designed
  let s1 := (s.pn F.AG_STATUS_COMPUTE_RESET node 0).pn F.AG_STATUS_COMPUTE_UP node 1
  let s2 := (s1.pn F.AG_CENSUS_USABLE node usable).pn F.AG_CENSUS_DESIGNED node designed
  if changed then (s2.sendBeacons node).notice node Cause.beaconChange 0xFF 0 0 else s2

-- Registers that Varlor writes

/-- GRANT_COMPUTE_RESET (R147): COMPUTE_RESET_REQ is asserted. -/
def grantComputeReset (s : State) (node : Nat) : State :=
  (s.updAg node (fun a => { a with granted := true })).send .computeReset node 0 []

/-- GRANT_FULL_RESET (R148): the link domain resets at the next round boundary, after the response. -/
def grantFullReset (s : State) (node : Nat) : State :=
  (s.updAg node (fun a => { a with fullAt := some (s.round + 1) })).ok

/-- AG_QUIESCE_FLOW (R101). -/
def agQuiesceFlow (s : State) (node flow : Nat) : State :=
  (s.updAg node (fun a => { a with
    quiesced := a.quiesced.filter (fun q => q.1 != flow) ++ [(flow, s.round + 1, none)] })).pn F.AG_STATUS_QUIESCED node flow

/-- AG_RESUME_FLOW (R101); AG_STATUS shows the last stop still in force. -/
def agResumeFlow (s : State) (node flow : Nat) : State :=
  let s1 := s.updAg node (fun a => { a with
    quiesced := a.quiesced.map (fun q => if q.1 == flow then (q.1, q.2.1, some (s.round + 1)) else q) })
  let left := (s1.ag node).quiesced.filter (fun q => q.2.2.isNone)
  s1.pn F.AG_STATUS_QUIESCED node (match left.getLast? with | some q => q.1 | none => 0)

/-- The word that a filter entry will hold after the pending writes. -/
def filterWord (s : State) (node i : Nat) : Word :=
  match ((s.ag node).filterNext.filter (fun e => e.1 == i)).getLast? with
  | some e => e.2.1
  | none => s.rd .AG_FILTER node i

/-- AG_FILTER_WRITE (R400): a cupola held by another entry is answered with VALUE. -/
def agFilterWrite (s : State) (node i : Nat) (v : Word) : State :=
  let c := getBits v 48 16
  if 64 ≤ i then s.err Status.address i
  else if c ≠ 0 && (List.range 64).any (fun j => j != i && getBits (s.filterWord node j) 48 16 == c) then
    s.err Status.value 0
  else (s.updAg node (fun a => { a with filterNext := a.filterNext ++ [(i, v, s.round)] })).ok

/-- FILTER_ACTIVATION (R400): writes of earlier rounds take effect. -/
def filterActivation (s : State) (node : Nat) : State :=
  let a := s.ag node
  let due := a.filterNext.filter (fun e => decide (e.2.2 < s.round))
  let s1 := s.setAg { a with filterNext := a.filterNext.filter (fun e => !decide (e.2.2 < s.round)) }
  due.foldl (fun (t : State) e => t.wr .AG_FILTER node e.1 (if getBits e.2.1 48 16 = 0 then 0 else e.2.1)) s1

/-- AG_TREE_WRITE and AG_ALLOW_WRITE (R408): from the next round boundary. -/
def agTreeWrite (s : State) (node : Nat) (v : Word) : State := s.updAg node (fun a => { a with treeNext := some v })
def agAllowWrite (s : State) (node : Nat) (v : Word) : State := s.updAg node (fun a => { a with allowNext := some v })

/-- AG_CFG.COARSE is W1S and clears only at a link-domain reset (R407). -/
def agCfgCoarse (s : State) (node : Nat) (v : Word) : State :=
  if getBits v 0 1 = 1 then (s.pn F.AG_CFG_COARSE node 1).pn F.AG_STATUS_COARSE node 1 else s

/-- AG_TBL_WORD_ADVANCE (R396). -/
def agTblWordAdvance (s : State) (node : Nat) : State :=
  s.pn F.AG_TBL_SEL_PAGE node ((s.ga F.AG_TBL_SEL_PAGE node 0 + 1) % 2 ^ 16)

/-- AG_PORT_CFG.DARK is written (R79, R113); the beacon shows it (R70). -/
def agPortDark (s : State) (node port : Nat) (dark : Bool) : State :=
  let s1 := s.pa F.AG_PORT_CFG_DARK node port (if dark then 1 else 0)
  if s1.portUp node port then (s1.pa F.AG_PORT_STATE node port (s1.trainedState node port)).sendBeacon node port else s1

/-- Varlor writes one bit of an agent port's AG_PORT_CFG by management access, and the rest of the word as it stands. -/
def portCfg (s : State) (node port bit : Nat) (on : Bool) : State :=
  s.send .access node (Reg.AG_PORT_CFG.base + 8 * port) [setBit (s.rd .AG_PORT_CFG node port).toNat bit on]

/-- LATE_MEMORY_EXPIRY (R353). -/
def lateMemoryExpiry (s : State) (node cupola : Nat) : State :=
  s.updAg node (fun a => { a with late := a.late.filter (fun e => !(e.1 == cupola && decide (e.2 + 64 ≤ s.round))) })

-- Keys at an agent

/-- A hop transmitter promotes transmit next, clears FORCE_REKEY and queues REKEY_DUE, or stalls (R404). -/
def hopPromote (s : State) (node port : Nat) : State :=
  let cur := 64 + 4 * port
  if s.keyLoaded node (cur + 1) then
    let s1 := (s.promoteSlot node cur).pa F.AG_PORT_CFG_FORCE_REKEY node port 0
    let s2 := s1.updAg node (fun a => { a with txCount := setKey a.txCount port 0 })
    s2.originateRekey node port (s1.keyEpoch node cur + 1)
  else (s.raiseAgent F.AG_EVENT_REKEY_STALL node).raise F.KEY_EVENT_REKEY_STALL node 1

/-- HOP_REKEY (R404): the transmit counter has reached 2^REKEY_EXP. -/
def hopRekey (s : State) (node port : Nat) : State := if s.hopStalled node port then s.hopPromote node port else s

/-- FORCE_REKEY (R404, R352). -/
def forceRekey (s : State) (node port : Nat) : State := (s.pa F.AG_PORT_CFG_FORCE_REKEY node port 1).hopPromote node port

/-- KEY_PROMOTE (R402): the promotion round of a job next role has come. -/
def keyPromote (s : State) (node slot : Nat) : State :=
  match (s.ag node).keys.find? (fun k => k.slot == slot) with
  | none => s
  | some k =>
    match k.promoteAt with
    | none => s
    | some r =>
      if r ≤ s.round && s.keyLoaded node slot then
        (s.promoteSlot node (slot - 1)).updAg node (fun a => { a with keys := a.keys.filter (fun x => x.slot != slot) })
      else s

/-- A key-slot write is refused: answered, counted, AG_EVENT.KEY_REFUSED set (R401). -/
def keyRefused (s : State) (node status : Nat) : State :=
  ((s.countAg node 14).raiseAgent F.AG_EVENT_KEY_REFUSED node).err status 0

/-- The switch round of a key slot. -/
def setSwitch (s : State) (node slot round : Nat) : State :=
  s.updAg node (fun a => { a with keys := a.keys.filter (fun k => k.slot != slot) ++ [⟨slot, round, none⟩] })

/-- The fabric time at which a key that is loaded becomes active (R335): a job next role's at its switch round, another's now. -/
def keySince (s : State) (slot round : Nat) : Nat :=
  if slot < 64 && slot % 2 = 1 then s.boundaryNs round else s.lant.now

/-- A job next role's switch round moves (R339, R402): its key becomes active then. -/
def keyMoved (s : State) (node slot round : Nat) : State :=
  let at_ := s.boundaryNs round
  let l := updWhere (fun k => k.slot == slot) (fun k => { k with since := at_ }) (s.ag node).loaded
  if slot < 64 && slot % 2 = 1 then s.updAg node (fun a => { a with loaded := l }) else s

/-- A LOAD (R402). -/
def keyLoad (s : State) (node slot cupola ep round : Nat) (key : Bytes) : State :=
  let job := decide (slot < 64)
  let base := slot / 4 * 4
  let foreign := job && (List.range 4).any (fun r =>
    s.keyLoaded node (base + r) && s.ga F.AG_KEY_INFO_CUPOLA node (base + r) != cupola)
  let fill := fun (t : State) =>
    ((t.putKey node slot key (s.keySince slot round)).setKeyInfo node slot 1 (if job then cupola else 0) ep).setSwitch node slot round
  if foreign then s.keyRefused node Status.state
  else if s.keyLoaded node slot && s.keyEpoch node slot == ep then
    ((s.keyMoved node slot round).setSwitch node slot round).ok
  else if !s.keyLoaded node slot then
    let t := fill s
    (if !job && slot % 4 = 1 && s.hopStalled node ((slot - 64) / 4) then t.hopPromote node ((slot - 64) / 4) else t).ok
  else if !job && slot % 4 = 3 then (fill (s.promoteSlot node (slot - 1))).ok
  else s.keyRefused node Status.state

/-- A RETIRE empties the four roles of the group, and starts the memory of the retired cupola (R402, R353). -/
def keyRetire (s : State) (node slot cupola : Nat) : State :=
  let base := slot / 4 * 4
  let s1 := s.dropKeys node ((List.range 4).map (fun r => base + r))
  (s1.updAg node (fun a => { a with
    keys := a.keys.filter (fun k => k.slot / 4 != slot / 4),
    late := if cupola = 0 then a.late else a.late.filter (fun e => e.1 != cupola) ++ [(cupola, s.round)] })).ok

/-- A promotion round for a job next role. -/
def promoteKeys (slot round : Nat) (l : List KeySlot) : List KeySlot :=
  updWhere (fun k => k.slot == slot) (fun k => { k with promoteAt := some round })
    (if l.any (fun k => k.slot == slot) then l else l ++ [⟨slot, 0, none⟩])

/-- The payload of the oldest key-slot write on its way to an agent, completed by the word that submits it (R401). -/
def keyPayload (s : State) (node : Nat) (w11 : Word) : Bytes :=
  ((List.range 12).map (fun i => leBytes 8 (if i = 11 then w11
    else match (((s.ag node).keyFrames.head?.map (·.words)).getD []).find? (fun e => e.1 == i) with
      | some e => e.2
      | none => 0).toNat)).flatten

/-- The key to which the oldest write's ciphertext opens. -/
def keyOpened (s : State) (node : Nat) : Option Bytes := ((s.ag node).keyFrames.head?.bind (·.key))

/-- The counter of a key-slot write, in quarter ns, lies within two rounds of the fabric time (R401). -/
def keyTimely (s : State) (counter : Nat) : Bool :=
  decide (counter / 4 ≤ s.lant.now + 2 * s.roundNs) && decide (s.lant.now ≤ counter / 4 + 2 * s.roundNs)

/-- KEY_SLOT_WRITE (R401, R402): the submission of AG_KEY_WRITE[11] uses the words written since the last one. -/
def keySlotWrite (s : State) (node : Nat) (w11 : Word) : State :=
  let a := s.ag node
  let bytes := s.keyPayload node w11
  let kind := field bytes 0 1
  let slot := field bytes 1 1
  let cupola := field bytes 2 2
  let ep := field bytes 4 4
  let round := field bytes 8 6
  let counter := field bytes 0x14 8
  let s1 := s.setAg { a with keyFrames := a.keyFrames.drop 1 }
  if a.keyFrames.isEmpty || s.ga F.AG_IDENT_KEY_PROG node 0 ≠ 1 || !decide (a.keyCounter < counter) || !s.keyTimely counter
      || 128 ≤ slot || (s.keyOpened node).isNone then s1.keyRefused node Status.value
  else
    let s2 := s1.updAg node (fun a => { a with keyCounter := counter })
    if kind = 1 then s2.keyLoad node slot cupola ep round ((s.keyOpened node).getD [])
    else if kind = 2 then
      if slot < 64 && slot % 2 = 1 && s2.keyLoaded node slot then
        (s2.updAg node (fun a => { a with keys := promoteKeys slot round a.keys })).ok
      else s2.keyRefused node Status.state
    else if kind = 3 then s2.keyRetire node slot cupola
    else s1.keyRefused node Status.value

/-- Varlor's keystone sends a key-slot write to an agent (R334, Table 16.4): words 0 to 10 of the payload reach the
agent; its submission is KEY_SLOT_WRITE. The key is in no word (R329): the write holds it as what its ciphertext opens to. -/
def sendKeySlot (s : State) (node kind slot cupola ep round : Nat) (key : Bytes) : State :=
  let counter := max (4 * s.lant.now) ((s.ag node).keyCounter + 1) + (s.ag node).keyFrames.length
  let bytes := leBytes 1 kind ++ leBytes 1 slot ++ leBytes 2 cupola ++ leBytes 4 ep ++ leBytes 8 round ++ zeros 4
    ++ leBytes 8 counter ++ zeros 4
  let words := (List.range 4).map (fun i => (i, BitVec.ofNat 64 (field bytes (8 * i) 8)))
  let s1 := s.updAg node (fun a => { a with keyFrames := a.keyFrames ++ [⟨words, some (fit 32 key)⟩] })
  (s1.send .keySlot node slot [kind, cupola, ep, round]).count .KEY_COUNT 3

end State

-- The meanings

/-- SLOT_START (R95). -/
def execSlotStart (node port slot : Nat) (s : State) : Host.Outcome State Fault Refusal := finish (s.slotStart node port slot)
/-- NEIGHBOUR_SILENT (R128). -/
def execNeighbourSilent (node port : Nat) (s : State) : Host.Outcome State Fault Refusal :=
  finish (s.neighbourSilent node port)
/-- PROBE (R73). -/
def execProbe (node ingress : Nat) (route : List Nat) (s : State) : Host.Outcome State Fault Refusal :=
  finish (s.probe node ingress route)
/-- FRAME_ARRIVE (R98). -/
def execFrameArrive (node ingress : Nat) (f : DataFrame) (s : State) : Host.Outcome State Fault Refusal :=
  finish (s.frameArrive node ingress f)
/-- ITEM_INJECT (R122). -/
def execItemInject (node flow cupola tag window : Nat) (payload : Bytes) (s : State) : Host.Outcome State Fault Refusal :=
  finish (s.itemInject node flow cupola tag window payload)
/-- ITEM_WINDOW_EXPIRY (R96). -/
def execItemWindowExpiry (node tag : Nat) (s : State) : Host.Outcome State Fault Refusal :=
  finish (s.itemWindowExpiry node tag)
/-- DRAIN_BOUND_EXPIRY (R100). -/
def execDrainBoundExpiry (node flow : Nat) (s : State) : Host.Outcome State Fault Refusal :=
  finish (s.drainBoundExpiry node flow)
/-- FAILURE_BROADCAST (R133). -/
def execFailureBroadcast (node : Nat) (b : FailBcast) (s : State) : Host.Outcome State Fault Refusal :=
  finish (s.failureBroadcast node b)
/-- FILTER_ACTIVATION (R400). -/
def execFilterActivation (node : Nat) (s : State) : Host.Outcome State Fault Refusal := finish (s.filterActivation node)
/-- KEY_SLOT_WRITE (R401). -/
def execKeySlotWrite (node : Nat) (word : Word) (s : State) : Host.Outcome State Fault Refusal :=
  finish (s.keySlotWrite node word)
/-- KEY_PROMOTE (R402). -/
def execKeyPromote (node slot : Nat) (s : State) : Host.Outcome State Fault Refusal := finish (s.keyPromote node slot)
/-- HOP_REKEY (R404). -/
def execHopRekey (node port : Nat) (s : State) : Host.Outcome State Fault Refusal := finish (s.hopRekey node port)
/-- FORCE_REKEY (R404). -/
def execForceRekey (node port : Nat) (s : State) : Host.Outcome State Fault Refusal := finish (s.forceRekey node port)
/-- LATE_MEMORY_EXPIRY (R353). -/
def execLateMemoryExpiry (node cupola : Nat) (s : State) : Host.Outcome State Fault Refusal :=
  finish (s.lateMemoryExpiry node cupola)
/-- LINK_DOMAIN_WATCHDOG (R380). -/
def execLinkDomainWatchdog (node : Nat) (s : State) : Host.Outcome State Fault Refusal := finish (s.linkDomainWatchdog node)
/-- LINK_DOMAIN_RESET (R392). -/
def execLinkDomainReset (node kind : Nat) (s : State) : Host.Outcome State Fault Refusal :=
  finish (s.linkDomainReset node kind)
/-- COMPUTE_FATAL (R379). -/
def execComputeFatal (node : Nat) (s : State) : Host.Outcome State Fault Refusal := finish (s.computeFatal node)
/-- COMPUTE_IN_RESET (R379). -/
def execComputeInReset (node : Nat) (afterFatal : Bool) (s : State) : Host.Outcome State Fault Refusal :=
  finish (s.computeInReset node afterFatal)
/-- COMPUTE_UP (R386). -/
def execComputeUp (node usable designed : Nat) (s : State) : Host.Outcome State Fault Refusal :=
  finish (s.computeUp node usable designed)
/-- GRANT_COMPUTE_RESET (R147). -/
def execGrantComputeReset (node : Nat) (s : State) : Host.Outcome State Fault Refusal := finish (s.grantComputeReset node)
/-- GRANT_FULL_RESET (R148). -/
def execGrantFullReset (node : Nat) (s : State) : Host.Outcome State Fault Refusal := finish (s.grantFullReset node)
/-- AG_QUIESCE_FLOW (R101). -/
def execAgQuiesceFlow (node flow : Nat) (s : State) : Host.Outcome State Fault Refusal := finish (s.agQuiesceFlow node flow)
/-- AG_RESUME_FLOW (R101). -/
def execAgResumeFlow (node flow : Nat) (s : State) : Host.Outcome State Fault Refusal := finish (s.agResumeFlow node flow)
/-- AG_FILTER_WRITE (R400). -/
def execAgFilterWrite (node index : Nat) (value : Word) (s : State) : Host.Outcome State Fault Refusal :=
  finish (s.agFilterWrite node index value)
/-- AG_TREE_WRITE (R408). -/
def execAgTreeWrite (node : Nat) (value : Word) (s : State) : Host.Outcome State Fault Refusal :=
  finish (s.agTreeWrite node value)
/-- AG_ALLOW_WRITE (R408). -/
def execAgAllowWrite (node : Nat) (value : Word) (s : State) : Host.Outcome State Fault Refusal :=
  finish (s.agAllowWrite node value)
/-- AG_CFG_COARSE (R407). -/
def execAgCfgCoarse (node : Nat) (value : Word) (s : State) : Host.Outcome State Fault Refusal :=
  finish (s.agCfgCoarse node value)
/-- AG_TBL_WORD_ADVANCE (R396). -/
def execAgTblWordAdvance (node : Nat) (s : State) : Host.Outcome State Fault Refusal := finish (s.agTblWordAdvance node)
/-- AG_PORT_DARK_WRITE (R113). -/
def execAgPortDarkWrite (node port : Nat) (dark : Bool) (s : State) : Host.Outcome State Fault Refusal :=
  finish (s.agPortDark node port dark)

end Sys2Proof.Machine
end

