-- ==== Sys2Proof/Machine/AgentInstall.lean ====
section
/-! DEFINITION. Table installation in the agent (R103 to R109, R112, R113, R115, R136, R393 to R399). -/
namespace Sys2Proof.Machine

/-- `n`-byte entries of a table, little-endian (R396). -/
def entriesOf (n : Nat) : Nat → Bytes → List Nat
  | 0, _ => []
  | k + 1, bs => if bs.isEmpty then [] else leNat (bs.take n) :: entriesOf n k (bs.drop n)

/-- All entries of `n` bytes. -/
def entries (n : Nat) (bs : Bytes) : List Nat := entriesOf n bs.length bs

/-- The bytes of one table of a manifest from the segments held. -/
def tableBytes (segs : List (Nat × Bytes)) (d : TableDesc) : Bytes :=
  ((List.range d.count).map (fun i => match segs.find? (fun e => e.1 == d.first + i) with
    | some e => e.2
    | none => [])).flatten

/-- A table code names a slot map: its port. -/
def slotPort (code : Nat) : Option Nat := if 0x10 ≤ code && code < 0x20 then some (code - 0x10) else none

/-- A reserved flow ID (Table 4.1). -/
def reservedFlow (f : Nat) : Bool := f == 0x0000 || f == 0xFFFD || f == 0xFFFE || f == 0xFFFF

/-- Two entries of one bank share flow and variant (R394). -/
def duplicateFlow : List Nat → Bool
  | [] => false
  | e :: rest => rest.any (fun x => x % 2 ^ 17 == e % 2 ^ 17) || duplicateFlow rest

/-- R393: a slot entry that breaks the reserved rule. -/
def slotReservedBad (e : Nat) : Bool :=
  slotReserved e != 0 || slotFlow e == 0xFFFD || (reservedFlow (slotFlow e) && slotCupola e != 0)

/-- R394: a flow entry that breaks a reserved rule. -/
def flowReservedBad (e : Nat) : Bool :=
  feReserved e != 0 || feClass e == 0 || decide (5 ≤ feClass e) || (feRejoin e == 1 && feVariant e == 0)
    || reservedFlow (feFlow e)

/-- R394: a flow entry's egress is no port of the agent. -/
def egressBad (ports e : Nat) : Bool := feEgress e != 31 && (decide (16 ≤ feEgress e) || decide (ports ≤ feEgress e))

/-- R395: an L2P entry with a reserved bit, or not valid with another field set. -/
def l2pReservedBad (e : Nat) : Bool := l2pReserved e != 0 || (!l2pValid e && e != 0)

/-- R395: a VALID entry that names another node than its own index. -/
def l2pBad (spire : Nat) : Nat → List Nat → Bool
  | _, [] => false
  | i, e :: rest => (l2pValid e && l2pNode e != spire * 512 + i) || l2pBad spire (i + 1) rest

/-- R108, R57: management owns at least 1/64 of the slots of a map, rounded up. -/
def mgmtShareBad (slots : List Nat) : Bool := decide ((slots.filter isMgmt).length < ceilDiv slots.length 64)

/-- R108: every slot of a port names a flow with that egress, or a reserved flow; Varlor-facing ports count as one. -/
def slotsNameFlows (facing : Nat) (flows : List Nat) (p : Nat) (slots : List Nat) : Bool :=
  slots.all (fun e => reservedFlow (slotFlow e) || flows.any (fun x => feFlow x == slotFlow e &&
    (feEgress x == p || (hasBit facing p && hasBit facing (feEgress x)))))

/-- R108: every plan flow's entry whose egress is a port of the agent owns a slot there. An egress that is no port, and a reserved
flow, are refused under R394. -/
def flowsOwnSlots (ports facing : Nat) (slots : List (List Nat)) (flows : List Nat) : Bool :=
  flows.all (fun x => decide (ports ≤ feEgress x) || reservedFlow (feFlow x) ||
    (List.range slots.length).any (fun p => (feEgress x == p || (hasBit facing p && hasBit facing (feEgress x)))
      && (slots.getD p []).any (fun e => slotFlow e == feFlow x)))

/-- The first refusal code of Table 4.10 that applies, with the table it was found in; `none`: the tables are good. -/
def tableRefusal (spire ports facing : Nat) (bad : Option Nat) (b : Bank) (flows union : List Nat) : Option (Nat × Nat) :=
  let ps := List.range b.slots.length
  match bad with
  | some code => some (1, code)
  | none =>
    if l2pBad spire 0 b.l2p then some (1, 0x01)
    else if duplicateFlow flows then some (2, 0x02)
    else
      match ps.find? (fun p => !slotsNameFlows facing flows p (b.port p)) with
      | some p => some (2, 0x10 + p)
      | none =>
        if !flowsOwnSlots ports facing b.slots flows then some (2, 0x02)
        else
          match ps.find? (fun p => !(b.port p).isEmpty && mgmtShareBad (b.port p)) with
          | some p => some (3, 0x10 + p)
          | none =>
            if 16384 < union.length then some (4, 0x02)
            else if b.l2p.any l2pReservedBad || (b.l2p.drop 512).any (fun e => e != 0) then some (5, 0x01)
            else if flows.any flowReservedBad then some (5, 0x02)
            else
              match ps.find? (fun p => (b.port p).any slotReservedBad) with
              | some p => some (5, 0x10 + p)
              | none =>
                if flows.any (egressBad ports) then some (6, 0x02)
                else
                  match ps.find? (fun p => decide (ports ≤ p) && !(b.port p).isEmpty) with
                  | some p => some (6, 0x10 + p)
                  | none => none

/-- A bank with one port's slot map replaced. -/
def Bank.setPort (b : Bank) (p : Nat) (slots : List Nat) : Bank :=
  let l := if p < b.slots.length then b.slots else b.slots ++ List.replicate (p + 1 - b.slots.length) []
  { b with slots := l.set p slots }

/-- The shadow flow table becomes these words (R397): an equal active entry is shared. -/
def shadowFlows (l : List FlowEntry) (words : List Nat) : List FlowEntry :=
  let kept := (l.filter (·.active)).map (fun e => { e with shadow := words.contains e.word })
  kept ++ (words.filter (fun w => !kept.any (fun e => e.word == w))).map (fun w => ⟨w, false, true⟩)

namespace State

/-- The logical node number by which an agent in an install names itself: its own, or, while it is unbound, the one that its
manifest gives it (Tables 4.7 and 4.8). DEDUCED (log entry 145). -/
def receiptNode (s : State) (node : Nat) : Nat :=
  match (s.ag node).manifest with
  | some m => if s.agNode node = 0xFFFFFFFF then m.node else s.agNode node
  | none => s.agNode node

/-- The fields of the agent's receipt (Table 4.8). -/
def receiptFields (s : State) (node : Nat) : List Nat :=
  [s.ga F.AG_INSTALL_INSTALL_ID node 0, s.receiptNode node, s.ga F.AG_INSTALL_STATE node 0, s.ga F.AG_INSTALL_REFUSAL node 0,
   s.ga F.AG_INSTALL_TABLE node 0, s.ga F.AG_NODE_EPOCH node 0, s.ga F.AG_INSTALL_MAP_MAP node 0,
   s.ga F.AG_INSTALL_MAP_MAP node 1]

/-- The agent queues a receipt: it goes up the install tree in a management slot (R106, Table 4.8). -/
def sendReceipt (s : State) (node : Nat) : State :=
  s.queueFrame node ⟨0xFF, 3, 64, none, ⟨.receiptFrame, node, 0, s.receiptFields node, []⟩⟩

/-- The tables of a manifest from its segments, over the shadow content that R136 copied. -/
def assembleShadow (a : Agent) (m : ManifestP) : Bank × List Nat :=
  m.tables.foldl (fun (acc : Bank × List Nat) d =>
    let bs := tableBytes a.segments d
    if d.code = 0x01 then ({ acc.1 with l2p := entries 8 bs }, acc.2)
    else if d.code = 0x02 then (acc.1, entries 8 bs)
    else
      match slotPort d.code with
      | some p => (acc.1.setPort p (entries 4 bs), acc.2)
      | none => acc) (a.shadow, (a.flows.filter (·.shadow)).map (·.word))

/-- Every listed segment is held: the checks of R108, and PREPARED or REFUSED. -/
def prepare (s : State) (node : Nat) (m : ManifestP) : State :=
  let a := s.ag node
  let bad := (m.tables.find? (fun d => crc64 (tableBytes a.segments d) != d.crc)).map (·.code)
  let (bank, flows) := assembleShadow a m
  let union := ((shadowFlows a.flows flows)).map (·.word)
  match tableRefusal s.spire (s.ga F.AG_IDENT_PORTS node 0) (s.ga F.AG_TREE_VARLOR_FACING node 0) bad bank flows union with
  | none =>
    let s1 := s.setAg { a with shadow := bank, flows := shadowFlows a.flows flows }
    (s1.pn F.AG_INSTALL_STATE node 2).sendReceipt node
  | some (code, table) =>
    let s1 := ((s.pn F.AG_INSTALL_STATE node 3).pn F.AG_INSTALL_REFUSAL node code).pn F.AG_INSTALL_TABLE node table
    (s1.raiseAgent F.AG_EVENT_REFUSED node).sendReceipt node

/-- Segment `i` is held and checked. -/
def markSegment (s : State) (node i : Nat) : State :=
  s.pa F.AG_INSTALL_MAP_MAP node (i / 64) (setBit (s.ga F.AG_INSTALL_MAP_MAP node (i / 64)) (i % 64) true)

/-- Every segment of the manifest is held. -/
def allHeld (s : State) (node n : Nat) : Bool :=
  (List.range n).all (fun i => hasBit (s.ga F.AG_INSTALL_MAP_MAP node (i / 64)) (i % 64))

/-- MANIFEST (R105, R136): earlier shadow content is discarded, unlisted tables of a repair or completion install are
copied from the active bank. -/
def manifest (s : State) (node : Nat) (m : ManifestP) : State :=
  let st := s.ga F.AG_INSTALL_STATE node 0
  if st = 4 || (st ≠ 0 && m.installId = s.ga F.AG_INSTALL_INSTALL_ID node 0) then s
  else
    let a := s.ag node
    let copy := m.kind = 1 || m.kind = 2
    let listed (c : Nat) : Bool := m.tables.any (fun d => d.code == c)
    let shadow : Bank :=
      ⟨if copy && !listed 0x01 then a.active.l2p else [],
       (List.range a.active.slots.length).map (fun p => if copy && !listed (0x10 + p) then a.active.port p else [])⟩
    let flows := (a.flows.filter (·.active)).map (fun e => { e with shadow := copy && !listed 0x02 })
    let s1 := s.setAg { a with manifest := some m, segments := [], shadow := shadow, flows := flows, hold := [], fence := [] }
    let s2 := (((s1.pn F.AG_INSTALL_STATE node 1).pn F.AG_INSTALL_REFUSAL node 0).pn F.AG_INSTALL_KIND node m.kind).pn
      F.AG_INSTALL_TABLE node 0
    let s3 := ((s2.pn F.AG_INSTALL_SEGMENTS node m.segments).pn F.AG_INSTALL_INSTALL_ID node m.installId).pn
      F.AG_ACT_ROUND_ROUND node m.actRound
    let s4 := ((s3.pa F.AG_INSTALL_MAP_MAP node 0 0).pa F.AG_INSTALL_MAP_MAP node 1 0).markSegment node 0
    if s4.allHeld node m.segments then s4.prepare node m else s4

/-- An agent keeps a table segment of its current install (R103). -/
def keepSegment (s : State) (node : Nat) (seg : Segment) : State :=
  if s.ga F.AG_INSTALL_STATE node 0 ≠ 1 || seg.installId ≠ s.ga F.AG_INSTALL_INSTALL_ID node 0 then s.countAg node 7
  else
    let s1 := (s.updAg node (fun a => { a with segments := setKey a.segments seg.index seg.payload })).markSegment node seg.index
    match (s1.ag node).manifest with
    | some m => if s1.allHeld node m.segments then s1.prepare node m else s1
    | none => s1

/-- The ingress port of what comes down the install tree: the uplink (R104). -/
def treeIngress (s : State) (node : Nat) : Nat := s.egressPort node (s.ga F.AG_TREE_UPLINK node 0)

/-- TABLE_SEGMENT (R103, R104): kept, queued for the next route port, or kept and replicated on the tree ports. -/
def tableSegment (s : State) (node : Nat) (seg : Segment) : State :=
  let out := fun (t : State) (p : Nat) (route : List Nat) => t.queueFrame node ⟨p, 6, 64 + seg.payload.length, some (t.treeIngress node),
    ⟨.relayed, node, p, [seg.installId, seg.target, seg.index, seg.epoch] ++ route, seg.payload⟩⟩
  if !seg.crcOk then s.countAg node 7
  else
    match seg.route with
    | p :: rest => out s p rest
    | [] =>
      if seg.target = 0xFFFFFFFF then
        let s1 := s.keepSegment node seg
        (bitsOf 16 (s.ga F.AG_TREE_DOWN node 0)).foldl (fun t p => out t p []) s1
      else if seg.target = s.agNode node || (s.ag node).manifest.any (fun m => m.node == seg.target) then
        s.keepSegment node seg
      else s.countAg node 7

/-- An ACTIVATE frame goes on down the install tree: the agent replicates it on the ports of its tree mask (R104, R109).
DEDUCED (log entry 126). -/
def relayActivate (s : State) (node : Nat) (f : ActivateP) : State :=
  (bitsOf 16 (s.ga F.AG_TREE_DOWN node 0)).foldl (fun (t : State) p => t.queueFrame node ⟨p, 3, 704, some (t.treeIngress node),
    ⟨.relayed, node, p, [f.installId, (if f.discard then 1 else 0), f.round] ++ f.held ++ f.fence, []⟩⟩) s

/-- ACTIVATE_FRAME (R109) at its agent: the first copy for a round not yet begun arms a PREPARED agent; others are ignored. -/
def activateFrame (s : State) (node : Nat) (f : ActivateP) : State :=
  let st := s.ga F.AG_INSTALL_STATE node 0
  let mine := f.installId == s.ga F.AG_INSTALL_INSTALL_ID node 0
  if st = 2 && mine && !f.discard && s.round < f.round then
    ((s.updAg node (fun a => { a with hold := f.held, fence := f.fence })).pn F.AG_INSTALL_STATE node 4).pn
      F.AG_ACT_ROUND_ROUND node f.round
  else if f.round ≤ s.round then s.countAg node 8 else s

/-- ACTIVATE_DISCARD (R115, Table 4.9): the shadow banks are dropped. -/
def activateDiscard (s : State) (node : Nat) (f : ActivateP) : State :=
  let st := s.ga F.AG_INSTALL_STATE node 0
  if f.discard && 1 ≤ st && st ≤ 3 && f.installId = s.ga F.AG_INSTALL_INSTALL_ID node 0 then
    let s1 := s.updAg node (fun a => { a with
      manifest := none, segments := [], shadow := ⟨[], []⟩, hold := [], fence := [],
      flows := (a.flows.filter (·.active)).map (fun e => { e with shadow := false }) })
    s1.pn F.AG_INSTALL_STATE node 0
  else s

/-- The hold merge of R112 on one port: a slot stays as it was where the active entry, or the shadow value, belongs to a
held cupola. -/
def mergeSlots (held : List Nat) (active shadow : List Nat) : List Nat :=
  (List.range (max active.length shadow.length)).map (fun i =>
    let a := active.getD i 0
    let n := shadow.getD i 0
    if held.contains (slotCupola a) || held.contains (slotCupola n) then a else n)

/-- The hold merge of R112: slots and flow entries of held cupolas keep their active content. `cup` names the cupola of a flow
that owns no slot at this agent, as a delivered flow does. -/
def holdMerge (a : Agent) (cup : Nat → Nat) : Agent :=
  if a.hold.isEmpty then a
  else
    let n := max a.active.slots.length a.shadow.slots.length
    let heldFlow (f : Nat) : Bool :=
      a.active.slots.any (fun p => p.any (fun e => slotFlow e == f && a.hold.contains (slotCupola e)))
        || a.shadow.slots.any (fun p => p.any (fun e => slotFlow e == f && a.hold.contains (slotCupola e)))
        || (cup f != 0 && a.hold.contains (cup f))
    { a with shadow := { a.shadow with slots := (List.range n).map (fun p => mergeSlots a.hold (a.active.port p) (a.shadow.port p)) },
             flows := a.flows.map (fun e => if heldFlow (feFlow e.word) then { e with shadow := e.active } else e) }

/-- The cupola of a flow under the tables in force, else under those being installed; 0 for none. -/
def flowCupola (s : State) (f : Nat) : Nat :=
  let c := s.tables.cupolaOfFlow f
  if c = 0 then (match s.bell.install with | some i => i.tables.cupolaOfFlow f | none => 0) else c

/-- BANK_SWITCH (R398, R399): the six steps at the boundary of A; the beacons show the new tables (R70). -/
def bankSwitch (s : State) (node : Nat) : State :=
  if s.ga F.AG_INSTALL_STATE node 0 = 4 && s.ga F.AG_ACT_ROUND_ROUND node 0 ≤ s.round then
    let a := holdMerge (s.ag node) s.flowCupola
    let flows := (a.flows.filter (·.shadow)).map (fun e => { e with active := true, shadow := false })
    let freed := (a.flows.filter (fun e => !e.shadow)).map (·.word)
    let stale : Queued → Bool := fun q => freed.any (fun w => feFlow w == q.flow
      && (feVariant w == 1) == q.frame.detour) && !flows.any (fun e => feFlow e.word == q.flow
      && (feVariant e.word == 1) == q.frame.detour)
    let n := (a.queue.filter stale).length
    let s1 := s.setAg { a with active := a.shadow, shadow := a.active, flows := flows,
                               queue := a.queue.filter (fun q => !stale q), hold := [], fence := [], segments := [] }
    let s2 := if n = 0 then s1 else (s1.bump .AG_COUNT node 15 n).raiseAgent F.AG_EVENT_ENTRY_RETIRED node
    let s3 := (a.seen.filter (fun e => a.fence.contains e.2.2)).foldl (fun (t : State) e => t.agPortDark node e.1 true) s2
    let s4 := match a.manifest with
      | some m =>
        let t := (s3.pn F.AG_NODE_NODE node m.node).pn F.AG_NODE_EPOCH node m.epoch
        if m.roundChange then t.pn F.AG_STATUS_ROUND_CODE node m.roundCode else t
      | none => s3
    let s5 := s4.pn F.AG_INSTALL_STATE node 0
    ((List.range 16).foldl (fun (t : State) p =>
      if t.portUp node p && t.ga F.AG_PORT_STATE node p ≠ 4 then t.pa F.AG_PORT_STATE node p (t.trainedState node p) else t) s5).sendBeacons
      node
  else s

end State

-- The meanings

/-- MANIFEST (R105). -/
def execManifest (node : Nat) (m : ManifestP) (s : State) : Host.Outcome State Fault Refusal := finish (s.manifest node m)
/-- TABLE_SEGMENT (R103). -/
def execTableSegment (node : Nat) (seg : Segment) (s : State) : Host.Outcome State Fault Refusal :=
  finish (s.tableSegment node seg)
/-- ACTIVATE_FRAME (R109). -/
def execActivateFrame (node : Nat) (a : ActivateP) (s : State) : Host.Outcome State Fault Refusal :=
  finish ((s.activateFrame node a).relayActivate node a)
/-- ACTIVATE_DISCARD (R115). -/
def execActivateDiscard (node : Nat) (a : ActivateP) (s : State) : Host.Outcome State Fault Refusal :=
  finish ((s.activateDiscard node a).relayActivate node a)
/-- BANK_SWITCH (R398). -/
def execBankSwitch (node : Nat) (s : State) : Host.Outcome State Fault Refusal := finish (s.bankSwitch node)

end Sys2Proof.Machine
end

