-- ==== Sys2Proof/Machine/Image.lean ====
section
/-! DEFINITION. The plan image (chapter 2): its container and sections as bytes, what they spell, and the checks of
verification in the order of R63. -/
namespace Sys2Proof.Machine

/-- A failure of verification: PLAN_ERR.CODE (Table 2.18), SECTION, ITEM, PLAN_ERR_OFFSET and PLAN_RATE_EXCESS. -/
structure PErr where
  code : Nat
  section_ : Nat
  item : Nat
  off : Nat
  excess : Nat
  deriving DecidableEq, Repr

-- Codes of Table 2.18
namespace PCode
abbrev incomplete : Nat := 0x01
abbrev magic : Nat := 0x02
abbrev layoutLevel : Nat := 0x03
abbrev length : Nat := 0x04
abbrev signerUnknown : Nat := 0x05
abbrev signature : Nat := 0x06
abbrev reserved : Nat := 0x07
abbrev sectionUnknown : Nat := 0x08
abbrev sectionMissing : Nat := 0x09
abbrev sectionDuplicate : Nat := 0x0A
abbrev identity : Nat := 0x0B
abbrev epoch : Nat := 0x0C
abbrev licence : Nat := 0x0D
abbrev graph : Nat := 0x0E
abbrev slotConflict : Nat := 0x0F
abbrev mgmtShare : Nat := 0x10
abbrev template : Nat := 0x11
abbrev protection : Nat := 0x12
abbrev repairCoverage : Nat := 0x13
abbrev rate : Nat := 0x14
abbrev sram : Nat := 0x15
abbrev dram : Nat := 0x16
end PCode

/-- A directory entry (Table 2.2) with the section's content. -/
structure Sec where
  idx : Nat
  type : Nat
  level : Nat
  minor : Nat
  flags : Nat
  off : Nat
  len : Nat
  body : Bytes
  deriving DecidableEq, Repr

/-- An image taken apart: its bytes and sections. -/
structure Img where
  bytes : Bytes
  secs : List Sec
  deriving DecidableEq, Repr

/-- Length of the signature trailer (R48). -/
def trailerLen : Nat := 29824

/-- Fixed-stride records of a section: their offsets in it, as many as fit. -/
def strides (body : Bytes) (first size count : Nat) : List Nat :=
  (List.range (min count ((body.length - first) / size))).map (fun i => first + size * i)

namespace Img

/-- The directory of an image (Table 2.2). -/
def parse (bs : Bytes) : Img :=
  let d := field bs 0x34 4
  ⟨bs, (List.range (min 64 (field bs 0x32 2))).map (fun i =>
    let e := d + 32 * i
    let off := field bs (e + 8) 8
    let len := field bs (e + 16) 8
    ⟨i, field bs e 2, field bs (e + 2) 2, field bs (e + 4) 2, field bs (e + 6) 2, off, len, (bs.drop off).take len⟩)⟩

/-- The section of a type. -/
def sec (im : Img) (t : Nat) : Option Sec := im.secs.find? (fun s => s.type == t)
/-- Its content; empty when there is none. -/
def body (im : Img) (t : Nat) : Bytes := match im.sec t with | some s => s.body | none => []
/-- Its offset in the image. -/
def base (im : Img) (t : Nat) : Nat := match im.sec t with | some s => s.off | none => 0
/-- Its directory index. -/
def index (im : Img) (t : Nat) : Nat := match im.sec t with | some s => s.idx | none => 0xFFFF

-- What the sections spell; each record with its offset in the section

/-- PORTS (Table 2.5). -/
def ports (im : Img) : List (Nat × PortRole) :=
  (strides (im.body 1) 0 8 96).map (fun o => (o, ⟨field (im.body 1) o 1, field (im.body 1) (o + 4) 4⟩))

/-- RATES (Table 2.8). -/
def rates (im : Img) : List (Nat × RateRec) :=
  let b := im.body 4
  (strides b 8 16 (field b 2 2)).map (fun o => (o, ⟨field b o 1, field b (o + 1) 1, field b (o + 4) 4, field b (o + 8) 8⟩))

/-- Element records (Table 2.10). -/
def elements (im : Img) : List (Nat × ElemRec) :=
  let b := im.body 5
  (strides b 8 32 (field b 0 4)).map (fun o => (o, ⟨field b o 4, field b (o + 4) 1, field b (o + 5) 1, field b (o + 6) 1,
    field b (o + 7) 1, field b (o + 8) 2, field b (o + 0x0A) 2, field b (o + 0x10) 16⟩))

/-- Link records (Table 2.11). -/
def links (im : Img) : List (Nat × LinkRec) :=
  let b := im.body 5
  (strides b (8 + 32 * field b 0 4) 16 (field b 4 4)).map (fun o => (o, ⟨field b o 4, field b (o + 4) 4, field b (o + 8) 1,
    field b (o + 9) 1, field b (o + 0x0A) 1, field b (o + 0x0C) 2⟩))

/-- The round code of SCHEDULE. -/
def roundCode (im : Img) : Nat := field (im.body 6) 0 1

/-- Offsets of the per-agent blocks of SCHEDULE. -/
def schedOffs (b : Bytes) (slots : Nat) : Nat → Nat → List Nat
  | 0, _ => []
  | n + 1, o => if b.length < o + 8 then [] else o :: schedOffs b slots n (o + 8 + 4 * slots * field b (o + 4) 2)

/-- Slots in a round of the schedule, none where the code is reserved. -/
def slots (im : Img) : Nat := if 8 ≤ im.roundCode && im.roundCode ≤ 12 then 2 ^ im.roundCode else 0

/-- SCHEDULE (Table 2.12). -/
def sched (im : Img) : List (Nat × SchedBlock) :=
  let b := im.body 6
  (schedOffs b im.slots (b.length / 8) 8).map (fun o =>
    (o, ⟨field b o 4, (List.range (min (field b (o + 4) 2) 64)).map (fun p =>
      entries 4 ((b.drop (o + 8 + 4 * im.slots * p)).take (4 * im.slots)))⟩))

/-- Offsets of the per-agent blocks of FLOWS. -/
def flowOffs (b : Bytes) : Nat → Nat → List Nat
  | 0, _ => []
  | n + 1, o => if b.length < o + 8 then [] else o :: flowOffs b n (o + 8 + 8 * field b (o + 4) 4)

/-- FLOWS (Table 2.12). -/
def flows (im : Img) : List (Nat × FlowBlock) :=
  let b := im.body 7
  ((flowOffs b (b.length / 8) 8).take (field b 0 4)).map (fun o =>
    (o, ⟨field b o 4, entries 8 ((b.drop (o + 8)).take (8 * field b (o + 4) 4))⟩))

/-- L2P (Table 2.12). -/
def l2p (im : Img) : List Nat := entries 8 (((im.body 8).drop 8).take (8 * field (im.body 8) 0 4))

/-- Cupola templates (Table 2.13). -/
def templates (im : Img) : List (Nat × TplRec) :=
  let b := im.body 9
  (strides b 8 64 (field b 0 4)).map (fun o => (o, ⟨field b o 2, field b (o + 2) 1, field b (o + 3) 1, field b (o + 4) 1,
    field b (o + 5) 1, field b (o + 6) 1, field b (o + 7) 1, field b (o + 8) 4, field b (o + 0x0C) 4, field b (o + 0x10) 2,
    field b (o + 0x12) 2, field b (o + 0x14) 2, field b (o + 0x18) 8, field b (o + 0x20) 8, field b (o + 0x28) 8⟩))

/-- Guard groups (Table 2.14). -/
def guard (im : Img) : List (Nat × GuardRec) :=
  let b := im.body 0x0A
  (strides b 8 96 (field b 0 4)).map (fun o => (o, ⟨field b o 1, field b (o + 1) 1, field b (o + 2) 1, field b (o + 3) 1,
    field b (o + 4) 2, field b (o + 6) 1, field b (o + 7) 1, field b (o + 8) 8, field b (o + 0x10) 8, field b (o + 0x18) 4,
    (List.range 3).map (fun j => field b (o + 0x1C + j) 1),
    (List.range (min 16 (field b (o + 1) 1))).map (fun j => field b (o + 0x20 + 4 * j) 4)⟩))

/-- Offsets of the variants of REPAIR: each record is followed by its delta tables (Table 2.16). -/
def variantOffs (b : Bytes) : Nat → Nat → List Nat
  | 0, _ => []
  | n + 1, o =>
    if b.length < o + 24 then []
    else o :: variantOffs b n (o + 24 + field b (o + 8) 4 + field b (o + 0x0C) 4 + field b (o + 0x10) 4)

/-- The offsets of one variant's deltas: L2P, slot map, flow (Table 2.21). -/
def deltaOffs (b : Bytes) (o : Nat) : List Nat × List Nat × List Nat :=
  let l := field b (o + 8) 4
  let s := field b (o + 0x0C) 4
  (strides b (o + 24) 8 (l / 8), strides b (o + 24 + l) 16 (s / 16), strides b (o + 24 + l + s) 16 (field b (o + 0x10) 4 / 16))

/-- REPAIR (Tables 2.16, 2.21). -/
def variants (im : Img) : List (Nat × Variant) :=
  let b := im.body 0x0C
  ((variantOffs b (b.length / 24) 8).take (field b 0 4)).map (fun o =>
    let d := deltaOffs b o
    (o, ⟨field b o 4, field b (o + 4) 1, d.1.map (fun x => field b x 8),
      d.2.1.map (fun x => ⟨field b x 4, field b (x + 4) 1, field b (x + 6) 2, field b (x + 8) 4⟩),
      d.2.2.map (fun x => ⟨field b x 4, field b (x + 4) 1 == 1, field b (x + 8) 8⟩)⟩))

/-- INSTALL's peer records (Table 2.17). -/
def peers (im : Img) : List (Nat × PeerRec) :=
  let b := im.body 0x0D
  (strides b 8 16 (field b 2 2)).map (fun o => (o, ⟨field b o 1, field b (o + 1) 1, field b (o + 2) 1⟩))

/-- INSTALL's lending-in records (Table 2.17). -/
def lends (im : Img) : List (Nat × LendRec) :=
  let b := im.body 0x0D
  (strides b (8 + 16 * field b 2 2) 16 (field b 4 2)).map (fun o =>
    (o, ⟨field b o 1, field b (o + 1) 1, field b (o + 2) 1, field b (o + 8) 8⟩))

/-- SENTINEL's tensor records (Table 8.4). -/
def tensors (im : Img) : List (Nat × TensorRec) :=
  let b := im.body 0x0E
  (strides b 16 32 (field b 0 4)).map (fun o => (o, ⟨field b o 1, field b (o + 1) 1, field b (o + 2) 2, field b (o + 4) 1,
    field b (o + 5) 1, field b (o + 8) 8, field b (o + 0x10) 8⟩))

/-- SENTINEL's rule records (Table 8.5). -/
def rules (im : Img) : List (Nat × RuleRec) :=
  let b := im.body 0x0E
  (strides b (16 + 32 * field b 0 4) 16 (field b 4 2)).map (fun o => (o, ⟨field b o 1, field b (o + 1) 1, field b (o + 2) 1,
    field b (o + 3) 1, field b (o + 4) 2, field b (o + 8) 8⟩))

/-- What the sections declare. -/
def decl (im : Img) : Plan :=
  let h := im.bytes
  let d := im.body 3
  let sp := im.body 0x0B
  { planId := field h 0x18 16, flags := field h 0x31 1 % 16, digest := [], ports := im.ports.map Prod.snd,
    fold := field (im.body 2) 0 4, graph := field (im.body 2) 4 4, sentinel := field (im.body 2) 8 4,
    stage := field (im.body 2) 12 4, tasks := field (im.body 2) 16 4, journal := field d 0 4, exportStage := field d 4 4,
    recon := field d 8 4, margin := field d 12 4, ceiling := field (im.body 4) 0 1, rates := im.rates.map Prod.snd,
    elements := im.elements.map Prod.snd, links := im.links.map Prod.snd,
    tables := ⟨im.roundCode, field h 0x28 4, im.sched.map Prod.snd, im.flows.map Prod.snd, im.l2p⟩,
    templates := im.templates.map Prod.snd, guard := im.guard.map Prod.snd, policy := field sp 0 1, rowCut := field sp 1 1,
    minActive := field sp 2 2, minRows := field sp 4 1, minCols := field sp 5 1, wraps := field sp 6 1,
    minEdges := field sp 7 1, twinRequired := field sp 8 1, variants := im.variants.map Prod.snd,
    spires := field (im.body 0x0D) 0 1, coordinator := field (im.body 0x0D) 1 1, peers := im.peers.map Prod.snd,
    lends := im.lends.map Prod.snd, tensors := im.tensors.map Prod.snd, rules := im.rules.map Prod.snd }

/-- The declared element record of a logical node. -/
def elementOf (p : Plan) (node : Nat) : Option ElemRec := p.elements.find? (fun e => e.node == node)

/-- What the image declares, with its digest. -/
def plan (im : Img) : Plan := { im.decl with digest := entries 8 (shake256 32 im.bytes) }

-- Reserved fields (R42): (offset in the section, bytes, mask) of everything that must be zero

/-- Reserved bits of a logical node number, a flow entry and an L2P entry. -/
def nodeMask : Nat := 0xFFFF0000
def flowMask : Nat := 0xFFFF0000FC000000
def l2pMask : Nat := 0xFFFC0000FFFF0000

/-- Reserved bits of a far end, by role (Table 2.5). -/
def farMask (role : Nat) : Nat :=
  if role = 1 then 0xFFFF0000 else if role = 2 then 0xFF80FF80 else if role = 3 then 0xFFFFFF80 else 0xFFFFFFFF

/-- A field all of whose bits are reserved. -/
def whole (o n : Nat) : Nat × Nat × Nat := (o, n, 2 ^ (8 * n) - 1)

/-- The reserved fields of a section's content. L2P entries from 512 on are reserved whole (R395). -/
def reservedFields (im : Img) (t : Nat) : List (Nat × Nat × Nat) :=
  let b := im.body t
  if t = 1 then
    (im.ports.take 48).flatMap (fun e => [whole (e.1 + 1) 3, (e.1 + 4, 4, farMask e.2.role)])
      ++ ((im.ports.drop 48).map (fun e => whole e.1 8))
  else if t = 2 then [whole 0x14 12]
  else if t = 3 then [whole 0x10 16]
  else if t = 4 then [whole 1 1, whole 4 4] ++ im.rates.map (fun e => whole (e.1 + 2) 2)
  else if t = 5 then
    im.elements.flatMap (fun e => [(e.1, 4, nodeMask), (e.1 + 8, 2, 0xFFF8), whole (e.1 + 0x0C) 4])
      ++ im.links.flatMap (fun e => [(e.1, 4, nodeMask), (e.1 + 4, 4, if e.2.bkind = 0 then nodeMask else 0),
        whole (e.1 + 0x0B) 1, whole (e.1 + 0x0E) 2])
  else if t = 6 then
    [whole 1 7] ++ im.sched.flatMap (fun e => [(e.1, 4, nodeMask), whole (e.1 + 6) 2]
      ++ (strides b (e.1 + 8) 4 (im.slots * e.2.ports.length)).map (fun o => (o, 4, 0xF0000000)))
  else if t = 7 then
    [whole 4 4] ++ im.flows.flatMap (fun e => [(e.1, 4, nodeMask)]
      ++ (strides b (e.1 + 8) 8 e.2.entries.length).map (fun o => (o, 8, flowMask)))
  else if t = 8 then
    [whole 4 4] ++ (strides b 8 8 im.l2p.length).map (fun o => if o < 8 + 8 * 512 then (o, 8, l2pMask) else whole o 8)
  else if t = 9 then
    [whole 4 4] ++ im.templates.flatMap (fun e => [(e.1, 2, 0xF000), (e.1 + 3, 1, 0xF0), whole (e.1 + 0x16) 2, whole (e.1 + 0x30) 16])
  else if t = 0x0A then
    [whole 4 4] ++ im.guard.flatMap (fun e => [(e.1 + 3, 1, 0xF0), (e.1 + 4, 2, 0xF000), whole (e.1 + 0x1F) 1]
      ++ (List.range 16).map (fun j => (e.1 + 0x20 + 4 * j, 4, if j < e.2.k then nodeMask else 0xFFFFFFFF)))
  else if t = 0x0B then [(0, 1, 0xF8), (6, 1, 0xFC), whole 9 7]
  else if t = 0x0C then
    [whole 4 4] ++ im.variants.flatMap (fun e => [(e.1, 4, nodeMask), whole (e.1 + 5) 3, whole (e.1 + 0x14) 4]
      ++ (deltaOffs b e.1).1.map (fun o => (o, 8, l2pMask))
      ++ (deltaOffs b e.1).2.1.flatMap (fun o => [(o, 4, nodeMask), whole (o + 5) 1, (o + 8, 4, 0xF0000000), whole (o + 12) 4])
      ++ (deltaOffs b e.1).2.2.flatMap (fun o => [(o, 4, nodeMask), whole (o + 5) 3, (o + 8, 8, flowMask)]))
  else if t = 0x0D then
    [whole 6 2] ++ im.peers.map (fun e => whole (e.1 + 3) 13) ++ im.lends.map (fun e => whole (e.1 + 3) 5)
  else if t = 0x0E then
    [whole 6 10] ++ im.tensors.flatMap (fun e => [(e.1 + 5, 1, 0xFC), whole (e.1 + 6) 2, whole (e.1 + 0x18) 8])
      ++ im.rules.map (fun e => whole (e.1 + 6) 2)
  else []

/-- The first reserved field of a section's content that is not zero: its offset in the section. A second section of one type
is judged by its own content. -/
def reservedBad (s : Sec) : Option Nat :=
  let one : Img := ⟨[], [s]⟩
  ((one.reservedFields s.type).find? (fun e => Nat.land (field s.body e.1 e.2.1) e.2.2 != 0)).map (·.1)

/-- Bytes with one reserved field cleared. -/
def clearField (b : Bytes) (o n mask : Nat) : Bytes :=
  let v := field b o n
  let r := Nat.land v mask
  if r = 0 then b else b.take o ++ leBytes (min n (b.length - o)) (v - r) ++ b.drop (o + n)

/-- R42: a section of a higher minor version is read without the fields that generation 1 reserves. -/
def knownPart (s : Sec) : Sec :=
  let one : Img := ⟨[], [s]⟩
  if s.minor = 0 then s
  else { s with body := (one.reservedFields s.type).foldl (fun b e => clearField b e.1 e.2.1 e.2.2) s.body }

/-- The image as generation 1 reads it. -/
def known (im : Img) : Img := { im with secs := im.secs.map knownPart }

end Img

-- Checks (R63)

/-- A failed check. -/
def bad (c : Bool) (code sec item off excess : Nat) : Option PErr := if c then some ⟨code, sec, item, off, excess⟩ else none

namespace Img

/-- A failed check in a section: offsets count from the section. -/
def badIn (im : Img) (t : Nat) (c : Bool) (code item off : Nat) : Option PErr :=
  bad c code (im.index t) item (im.base t + off) 0

/-- A failed check at the first offending field, where there is one. -/
def badAt (im : Img) (t : Nat) (off : Option Nat) (code item : Nat) : Option PErr :=
  off.bind (fun o => im.badIn t true code item o)

/-- The slot entries of a block of SCHEDULE, each with its port and its offset. -/
def slotOffs (im : Img) (e : Nat × SchedBlock) : List (Nat × Nat × Nat) :=
  e.2.ports.zipIdx.flatMap (fun q => q.1.zipIdx.map (fun x => (q.2, e.1 + 8 + 4 * (im.slots * q.2 + x.2), x.1)))

/-- The entries of a table of 8-byte entries that starts at `o`, each with its offset. -/
def offs8 (o : Nat) (l : List Nat) : List (Nat × Nat) := l.zipIdx.map (fun x => (o + 8 * x.2, x.1))

/-- Steps 2 and 3: magic, header length, layout level and reserved fields of the header. A section count outside 1-64, a link
mode 3 and a layout level 0 are reserved encodings of the header: the spec names neither code nor step for them, and they are
refused RESERVED_NONZERO at step 3. DESIGN CHOICE (log entry 116). -/
def checkHeader (im : Img) : Option PErr :=
  let h := im.bytes
  let f := 0xFFFF
  let m0 := field h 0x0A 2 == 0
  bad (field h 0 8 != 0x004E414C50565344) PCode.magic f 0 0 0
  <|> bad (field h 0x0C 4 != 256) PCode.length f 0 0x0C 0
  <|> bad (decide (1 < field h 8 2)) PCode.layoutLevel f 0 8 0
  <|> bad (field h 8 2 == 0) PCode.reserved f 0 8 0
  <|> bad (m0 && field h 0x31 1 / 16 != 0) PCode.reserved f 0 0x31 0
  <|> bad (field h 0x31 1 / 4 % 4 == 3) PCode.reserved f 0 0x31 0
  <|> bad (field h 0x32 2 == 0 || decide (64 < field h 0x32 2)) PCode.reserved f 0 0x32 0
  <|> bad (m0 && field h 0x38 8 != 0) PCode.reserved f 0 0x38 0
  <|> bad (m0 && field h 0x80 128 != 0) PCode.reserved f 0 0x80 0

/-- Step 4: the trailer, the signer key (R49) and the signature. -/
def checkTrailer (im : Img) (signers : List Bytes) : Option PErr :=
  let h := im.bytes
  let t := h.length - trailerLen
  let key := (h.drop 0x40).take 64
  bad (field h (t + 8) 24 != 0) PCode.reserved 0xFFFF 0 (t + 8) 0
  <|> bad (field h t 4 != 1) PCode.signature 0xFFFF 0 t 0
  <|> bad (field h (t + 4) 4 != 29792) PCode.signature 0xFFFF 0 (t + 4) 0
  <|> bad (!signers.contains (shake256 32 key)) PCode.signerUnknown 0xFFFF 0 0x40 0
  <|> bad (!Config.signatureOk key (h.take t) ((h.drop (t + 32)).take 29792)) PCode.signature 0xFFFF 0 (t + 32) 0

/-- Where a directory entry lies in the image. -/
def entryOff (im : Img) (s : Sec) : Nat := field im.bytes 0x34 4 + 32 * s.idx

/-- Two extents overlap. -/
def overlap (a al b bl : Nat) : Bool := a < b + bl && b < a + al

/-- The bytes of the image that belong to the header, the directory, a section or the trailer. -/
def covered (im : Img) : List (Nat × Nat) :=
  [(0, 256), (field im.bytes 0x34 4, 32 * im.secs.length), (im.bytes.length - trailerLen, trailerLen)]
    ++ im.secs.map (fun s => (s.off, s.len))

/-- The first padding byte that is not zero (R48). -/
def padding (im : Img) : Option Nat :=
  let c := im.covered
  (List.range im.bytes.length).find? (fun o =>
    !c.any (fun e => e.1 ≤ o && o < e.1 + e.2) && im.bytes.getD o 0 != 0)

/-- Types of Table 2.4. -/
def knownType (t : Nat) : Bool := 1 ≤ t && t ≤ 0x0E

/-- The types that Table 2.4 requires of this image. -/
def requiredTypes (im : Img) : List Nat :=
  let p := im.decl
  [1, 2, 3, 4, 5, 6, 7, 8, 9, 0x0B, 0x0C]
    ++ (if p.coordinatorFlag || p.guard.any (fun g => g.lanes.any (fun l => decide (0x80 ≤ l)))
          || p.links.any (fun l => l.bkind == 3) then [0x0D] else [])
    ++ (if p.templates.any TplRec.sentinel then [0x0E] else [])

/-- Step 5: the directory, in its own order. Step 5 does not place the padding between sections (R48): it is judged after the
entries' reserved fields, and reported with SECTION 0xFFFF. DESIGN CHOICE (log entry 115). -/
def checkDirectory (im : Img) : Option PErr :=
  let h := im.bytes
  let d := field h 0x34 4
  let t := h.length - trailerLen
  let n := 32 * im.secs.length
  let m0 := field h 0x0A 2 == 0
  bad (decide (d < 256) || decide (t < d + n) || d % 64 != 0) PCode.length 0xFFFF 0 0x34 0
  <|> im.secs.findSome? (fun s => bad (decide (s.off < 256) || decide (t < s.off + s.len) || s.off % 64 != 0
      || overlap s.off s.len d n || (im.secs.take s.idx).any (fun o => overlap s.off s.len o.off o.len))
      PCode.length s.idx 0 (im.entryOff s + 8) 0)
  <|> im.secs.findSome? (fun s =>
      bad (m0 && s.flags / 2 != 0) PCode.reserved s.idx 0 (im.entryOff s + 6) 0
      <|> bad (m0 && field h (im.entryOff s + 0x18) 8 != 0) PCode.reserved s.idx 0 (im.entryOff s + 0x18) 0)
  <|> (match (if m0 then im.padding else none) with
      | some o => some ⟨PCode.reserved, 0xFFFF, 0, o, 0⟩
      | none => none)
  <|> im.secs.findSome? (fun s =>
      bad (decide (1 < s.level)) PCode.layoutLevel s.idx 0 (im.entryOff s + 2) 0
      <|> (match (if s.minor = 0 then reservedBad s else none) with
          | some o => some ⟨PCode.reserved, s.idx, 0, s.off + o, 0⟩
          | none => none))
  <|> im.secs.findSome? (fun s => bad (!knownType s.type && s.flags % 2 == 0) PCode.sectionUnknown s.idx 0 (im.entryOff s) 0)
  <|> im.secs.findSome? (fun s => bad (knownType s.type && (im.secs.take s.idx).any (fun o => o.type == s.type))
      PCode.sectionDuplicate s.idx 0 (im.entryOff s) 0)
  <|> bad (im.requiredTypes.any (fun t => (im.sec t).isNone)) PCode.sectionMissing 0xFFFF 0 0 0

/-- Step 8 (R4, R435): the first feature, port or agent that the licence does not enable. Feature bits of Table 17.7. -/
def checkLicence (im : Img) (features ports agents : Nat) : Option PErr :=
  let p := im.decl
  let no (i : Nat) : Bool := !hasBit features i
  bad (p.confidentialFlag && no 3) PCode.licence 0xFFFF 0 0x31 0
  <|> bad (p.coordinatorFlag && no 5) PCode.licence 0xFFFF 0 0x31 0
  <|> im.ports.findSome? (fun e => im.badIn 1 (decide (ports ≤ e.1 / 8) && e.2.role != 0) PCode.licence 0 e.1)
  <|> (im.elements.drop agents).findSome? (fun e => im.badIn 5 true PCode.licence e.2.node e.1)
  <|> im.templates.findSome? (fun e => im.badIn 9 ((e.2.confidential && no 3) || (e.2.sentinel && no 2)) PCode.licence e.2.id (e.1 + 3))
  <|> im.badAt 0x0A (if (im.sec 0x0A).isSome && no 0 then some 8 else none) PCode.licence (match im.guard with | g :: _ => g.2.gid | [] => 0)
  <|> im.guard.findSome? (fun e => im.badIn 0x0A (e.2.lanes.any (fun l => decide (0x80 ≤ l)) && no 4) PCode.licence e.2.gid
      (e.1 + 0x1C + ((List.range 3).find? (fun j => decide (0x80 ≤ e.2.lanes.getD j 0))).getD 0))
  <|> im.lends.findSome? (fun e => im.badIn 0x0D (no 4) PCode.licence e.2.group e.1)
  <|> im.badAt 0x0E (if (im.sec 0x0E).isSome && no 2 then some 16 else none) PCode.licence (match im.tensors with | t :: _ => t.2.group | [] => 0)

/-- The format is listed in Table 8.1. -/
def formatTag (f : Nat) : Bool :=
  [0x00, 0x10, 0x11, 0x12, 0x20, 0x21, 0x30, 0x31, 0x32, 0x33, 0x34, 0x35, 0x40].contains f

/-- An L2P delta that breaks the layout of Table 16.3: it names its entry by NODE also where VALID is clear (Table 2.21). -/
def l2pDeltaBad (e : Nat) : Bool := l2pReserved e != 0 || (!l2pValid e && e != l2pNode e)

/-- A VALID L2P entry whose row is neither 0-16 nor 0xFF, or whose column is above 15 (Tables 2.10, 16.3). -/
def l2pPlaceBad (e : Nat) : Bool :=
  l2pValid e && ((decide (16 < l2pRow e) && l2pRow e != 0xFF) || decide (15 < l2pCol e))

/-- R42: reserved encodings in section content, in section order. A section whose length differs from what its own counts say,
and a template whose minimum rows are 0, above Rows, or below Rows without ELASTIC, have no code of their own in the spec: both
are refused RESERVED_NONZERO. DESIGN CHOICE (log entries 117, 118). -/
def checkEncodings (im : Img) : Option PErr :=
  let r (t : Nat) (c : Bool) (item off : Nat) : Option PErr := im.badIn t c PCode.reserved item off
  let part := im.body 2
  let el := im.body 5
  let lk := 8 + 32 * field el 0 4
  let spare := im.body 0x0B
  let p := im.decl
  r 1 ((im.body 1).length != 768) 0 0
  <|> im.ports.findSome? (fun e => r 1 (decide (3 < e.2.role)) 0 e.1)
  <|> [0, 4, 8].findSome? (fun o => r 2 (field part o 4 % 16 != 0) 0 o)
  <|> r 2 (field part 12 4 != 64) 0 12
  <|> r 2 (field part 16 4 == 0 || decide (65536 < field part 16 4)) 0 16
  <|> r 3 ((im.sec 0x0A).isSome && field (im.body 3) 0 4 == 0) 0 0
  <|> r 4 (decide (2 < field (im.body 4) 0 1)) 0 0
  <|> r 4 ((im.body 4).length != 8 + 16 * field (im.body 4) 2 2) 0 2
  <|> im.rates.findSome? (fun e => r 4 (e.2.engine == 0 || decide (5 < e.2.engine)) e.2.engine e.1
      <|> r 4 (decide (3 < e.2.fallback)) e.2.engine (e.1 + 1)
      <|> r 4 (e.2.fallback != 1 && e.2.param != 0) e.2.engine (e.1 + 4))
  <|> r 5 (el.length != lk + 16 * field el 4 4) 0 0
  <|> im.elements.findSome? (fun e =>
      r 5 (e.2.kind == 0 || decide (4 < e.2.kind)) e.2.node (e.1 + 4)
      <|> r 5 (field el (e.1 + 5) 1 != 1) e.2.node (e.1 + 5)
      <|> r 5 (if e.2.kind = 1 then decide (16 < e.2.row) else e.2.row != 0xFF) e.2.node (e.1 + 6)
      <|> r 5 (decide (15 < e.2.col)) e.2.node (e.1 + 7)
      <|> r 5 (e.2.ports == 0 || decide (16 < e.2.ports)) e.2.node (e.1 + 0x0A)
      <|> r 5 (e.2.pinned == (e.2.expectedId == 0)) e.2.node (e.1 + 0x10))
  <|> im.links.findSome? (fun e => r 5 (decide (3 < e.2.bkind)) e.2.a (e.1 + 0x0A)
      <|> r 5 ((e.2.bkind == 1 || e.2.bkind == 2) && decide (47 < e.2.b)) e.2.a (e.1 + 4)
      <|> r 5 (e.2.bkind == 3 && decide (127 < e.2.b)) e.2.a (e.1 + 4))
  <|> r 6 (im.slots == 0) 0 0
  <|> im.sched.findSome? (fun e =>
      im.badAt 6 (((im.slotOffs e).find? (fun o => slotReservedBad o.2.2)).map (fun o => o.2.1)) PCode.reserved e.2.node)
  <|> im.flows.findSome? (fun e =>
      r 7 (decide (16384 < field (im.body 7) (e.1 + 4) 4)) e.2.node (e.1 + 4)
      <|> im.badAt 7 (((offs8 (e.1 + 8) e.2.entries).find? (fun x =>
          flowReservedBad x.2 || (decide (16 ≤ feEgress x.2) && feEgress x.2 != 31))).map Prod.fst) PCode.reserved e.2.node)
  <|> r 7 (im.flows.length != field (im.body 7) 0 4) 0 0
  <|> r 8 (decide ((im.body 8).length ≠ 8 + 8 * field (im.body 8) 0 4) || decide (1024 < im.l2p.length)) 0 0
  <|> im.badAt 8 (((offs8 8 im.l2p).find? (fun x => l2pReservedBad x.2 || l2pPlaceBad x.2)).map Prod.fst) PCode.reserved 0
  <|> r 9 ((im.body 9).length != 8 + 64 * field (im.body 9) 0 4) 0 0
  <|> im.templates.findSome? (fun e =>
      let t := e.2
      let mode := if t.mode = 0 then p.linkMode else t.mode
      r 9 (t.rows == 0 || decide (16 < t.rows)) t.id (e.1 + 4)
      <|> r 9 (t.cols == 0 || decide (16 < t.cols)) t.id (e.1 + 5)
      <|> r 9 (t.minRows == 0 || decide (t.rows < t.minRows) || (!t.elastic && t.minRows != t.rows)) t.id (e.1 + 6)
      <|> r 9 (if mode = 2 then decide (t.rekey < 20) || decide (48 < t.rekey) else t.rekey != 0) t.id (e.1 + 7))
  <|> r 0x0A ((im.sec 0x0A).isSome && (im.body 0x0A).length != 8 + 96 * field (im.body 0x0A) 0 4) 0 0
  <|> im.guard.findSome? (fun e =>
      let g := e.2
      r 0x0A (decide (g.k < 2) || decide (16 < g.k)) g.gid (e.1 + 1)
      <|> r 0x0A (g.m == 0 || decide (3 < g.m)) g.gid (e.1 + 2)
      <|> r 0x0A (g.modes % 2 == 1 && (decide (g.altK ≤ g.k) || decide (16 < g.altK))) g.gid (e.1 + 6)
      <|> r 0x0A (hasBit g.modes 1 && (g.altM == 0 || decide (g.m ≤ g.altM))) g.gid (e.1 + 7)
      <|> r 0x0A (g.region % 4096 != 0 || g.region == 0 || decide (1048576 < g.region)) g.gid (e.1 + 0x18)
      <|> im.badAt 0x0A (((List.range 3).find? (fun j => decide (1 < g.lanes.getD j 0) && decide (g.lanes.getD j 0 < 0x80))).map
          (fun j => e.1 + 0x1C + j)) PCode.reserved g.gid)
  <|> r 0x0B (decide (spare.length ≠ 16)) 0 0
  <|> r 0x0B (decide (field spare 1 1 < 2) || decide (16 < field spare 1 1)) 0 1
  <|> r 0x0B (decide (1 < field spare 8 1)) 0 8
  <|> r 0x0C (im.variants.length != field (im.body 0x0C) 0 4) 0 0
  <|> im.variants.findSome? (fun e =>
      let v := e.2
      let b := im.body 0x0C
      r 0x0C (v.kind == 0 || decide (4 < v.kind)) v.failed (e.1 + 4)
      <|> r 0x0C (field b (e.1 + 8) 4 % 8 != 0) v.failed (e.1 + 8)
      <|> r 0x0C (field b (e.1 + 0x0C) 4 % 16 != 0) v.failed (e.1 + 0x0C)
      <|> r 0x0C (field b (e.1 + 0x10) 4 % 16 != 0) v.failed (e.1 + 0x10)
      <|> im.badAt 0x0C ((deltaOffs b e.1).1.find? (fun o => let x := field b o 8
          l2pDeltaBad x || l2pPlaceBad x || (elementOf p (l2pNode x)).isNone || decide (p.tables.l2p.length ≤ l2pNode x % 512))) PCode.reserved v.failed
      <|> im.badAt 0x0C ((deltaOffs b e.1).2.1.find? (fun o => slotReservedBad (field b (o + 8) 4)
          || decide (im.slots ≤ field b (o + 6) 2)
          || (match elementOf p (field b o 4) with
              | some el => decide (el.ports ≤ field b (o + 4) 1)
              | none => true))) PCode.reserved v.failed
      <|> im.badAt 0x0C ((deltaOffs b e.1).2.2.find? (fun o => decide (1 < field b (o + 4) 1)
          || flowReservedBad (field b (o + 8) 8)
          || (match elementOf p (field b o 4) with
              | some el => decide (el.ports ≤ feEgress (field b (o + 8) 8)) && feEgress (field b (o + 8) 8) != 31
              | none => true))) PCode.reserved v.failed)
  <|> r 0x0D ((im.sec 0x0D).isSome
      && (im.body 0x0D).length != 8 + 16 * field (im.body 0x0D) 2 2 + 16 * field (im.body 0x0D) 4 2) 0 0
  <|> r 0x0D (decide (128 < p.spires)) 0 0
  <|> r 0x0D (decide (127 < p.coordinator)) 0 1
  <|> im.peers.findSome? (fun e => r 0x0D (decide (127 < e.2.spire) || decide (47 < e.2.localOp) || decide (47 < e.2.remoteOp)) 0 e.1)
  <|> im.lends.findSome? (fun e => r 0x0D (decide (127 < e.2.spire) || decide (2 < e.2.lane)) e.2.group e.1)
  <|> r 0x0E ((im.sec 0x0E).isSome
      && (im.body 0x0E).length != 16 + 32 * field (im.body 0x0E) 0 4 + 16 * field (im.body 0x0E) 4 2) 0 0
  <|> im.tensors.findSome? (fun e => r 0x0E (decide (15 < e.2.member) && e.2.member != 0xFF) e.2.group (e.1 + 1)
      <|> r 0x0E (e.2.tensor == 0 || (im.tensors.any (fun x => x.1 < e.1 && x.2.group == e.2.group && x.2.tensor == e.2.tensor
          && (x.2.member == e.2.member || x.2.member == 0xFF || e.2.member == 0xFF)))) e.2.group (e.1 + 2))
  <|> im.rules.findSome? (fun e => r 0x0E (e.2.metric == 0 || decide (8 < e.2.metric)) e.2.group (e.1 + 1)
      <|> r 0x0E (decide (3 < e.2.action)) e.2.group (e.1 + 2))

/-- R51, R56: ports and the element graph. -/
def checkGraph (im : Img) : Option PErr :=
  let p := im.decl
  let roles := im.ports.take 48
  let ends := im.links.flatMap (fun e =>
    (e.1 + 8, e.2.a, e.2.pa) :: (if e.2.bkind = 0 then [(e.1 + 9, e.2.b, e.2.pb)] else []))
  im.badIn 1 (!roles.any (fun e => e.2.role == 3)) PCode.graph 0 0
  <|> roles.findSome? (fun e => im.badIn 1 (e.2.role == 3 && e.2.far != e.1 / 8) PCode.graph 0 (e.1 + 4))
  <|> im.elements.findSome? (fun e => im.badIn 5 (decide (510 ≤ e.2.node % 512)
      || im.elements.any (fun x => x.1 < e.1 && x.2.node == e.2.node)) PCode.graph e.2.node e.1)
  <|> ends.findSome? (fun e =>
      im.badIn 5 (match elementOf p e.2.1 with | some el => decide (el.ports ≤ e.2.2) | none => true) PCode.graph e.2.1 e.1)
  <|> ends.findSome? (fun e =>
      im.badIn 5 (ends.any (fun x => x.1 < e.1 && x.2.1 == e.2.1 && x.2.2 == e.2.2)) PCode.graph e.2.1 e.1)

/-- The two Varlor-facing ports of a node, as a mask (R357). -/
def facing (p : Plan) (node : Nat) : Nat :=
  maskOf ((p.links.filter (fun e => e.a == node && (e.bkind == 1 || e.bkind == 2))).map (fun e => e.pa))

/-- R57: the L2P map is one-to-one: a valid entry names its own index (R395), and no earlier entry its place. -/
def l2pClash (spire : Nat) (l : List Nat) (i : Nat) : Bool :=
  let e := l.getD i 0
  l2pValid e && (l2pNode e != spire * 512 + i
    || (l.take i).any (fun x => l2pValid x && (l2pNode x == l2pNode e
      || (decide (l2pRow e ≤ 16) && l2pRow x == l2pRow e && l2pCol x == l2pCol e))))

/-- R57: some entry of the map breaks the one-to-one rule. -/
def l2pTwofold (spire : Nat) (l : List Nat) : Bool := (List.range l.length).any (l2pClash spire l)

/-- R57: management share, ownership, and the framing of the tables against the element graph. -/
def checkTables (im : Img) (spire : Nat) : Option PErr :=
  let p := im.decl
  let flowsOf (n : Nat) : List Nat := p.tables.flowsOf n
  let slotsOf (n : Nat) : List (List Nat) := match p.tables.sched.find? (fun e => e.node == n) with | some e => e.ports | none => []
  im.sched.findSome? (fun e => (List.range e.2.ports.length).findSome? (fun q =>
    im.badIn 6 (mgmtShareBad (e.2.ports.getD q [])) PCode.mgmtShare e.2.node (e.1 + 8 + 4 * im.slots * q)))
  <|> im.sched.findSome? (fun e => im.badIn 6 (im.sched.any (fun x => x.1 < e.1 && x.2.node == e.2.node)) PCode.slotConflict e.2.node e.1
      <|> im.badAt 6 (((im.slotOffs e).find? (fun o =>
          !slotsNameFlows (facing p e.2.node) (flowsOf e.2.node) o.1 [o.2.2])).map (fun o => o.2.1)) PCode.slotConflict e.2.node)
  <|> im.flows.findSome? (fun e => im.badIn 7 (im.flows.any (fun x => x.1 < e.1 && x.2.node == e.2.node)) PCode.slotConflict e.2.node e.1
      <|> im.badAt 7 (((offs8 (e.1 + 8) e.2.entries).find? (fun o => (offs8 (e.1 + 8) e.2.entries).any (fun x =>
          x.1 < o.1 && x.2 % 2 ^ 17 == o.2 % 2 ^ 17))).map Prod.fst) PCode.slotConflict e.2.node)
  <|> im.sched.findSome? (fun e => im.badIn 6 (elementOf p e.2.node).isNone PCode.graph e.2.node e.1
      <|> im.badIn 6 (match elementOf p e.2.node with | some el => decide (el.ports < e.2.ports.length) | none => false)
        PCode.graph e.2.node (e.1 + 4))
  <|> im.flows.findSome? (fun e => im.badIn 7 (elementOf p e.2.node).isNone PCode.graph e.2.node e.1
      <|> im.badAt 7 (((offs8 (e.1 + 8) e.2.entries).find? (fun o =>
          !flowsOwnSlots 16 (facing p e.2.node) (slotsOf e.2.node) [o.2])).map Prod.fst) PCode.graph e.2.node)
  <|> im.badAt 8 (((List.range p.tables.l2p.length).find? (l2pClash spire p.tables.l2p)).map (fun i => 8 + 8 * i)) PCode.graph 0

/-- R58: templates. -/
def checkTemplates (im : Img) : Option PErr :=
  let p := im.decl
  im.templates.findSome? (fun e =>
    let t := e.2
    let mode := if t.mode = 0 then p.linkMode else t.mode
    im.badIn 9 (t.alarmShare == 0 || decide (4096 < t.alarmShare + t.exportShare + t.traceShare)) PCode.template t.id (e.1 + 0x10)
    <|> im.badIn 9 (t.mode != 0 && t.mode != p.linkMode) PCode.template t.id (e.1 + 2)
    <|> im.badIn 9 (t.confidential && (!p.confidentialFlag || mode == 0)) PCode.template t.id (e.1 + 3))

/-- R59, R150: guard groups. A group ID that appears twice has no code of its own in the spec: it is refused PROTECTION.
DESIGN CHOICE (log entry 119). -/
def checkGuard (im : Img) : Option PErr :=
  let p := im.decl
  let accel (n : Nat) : Bool := match elementOf p n with | some el => el.kind == 1 | none => false
  (im.guard.findSome? (fun e =>
    im.badAt 0x0A (((List.range 3).find? (fun j => decide (j < e.2.m) != (e.2.lanes.getD j 0 != 0))).map
      (fun j => e.1 + 0x1C + j)) PCode.protection e.2.gid
    <|> im.badIn 0x0A (im.guard.any (fun x => x.1 < e.1 && x.2.gid == e.2.gid)) PCode.protection e.2.gid e.1))
  <|> im.sched.findSome? (fun e => im.badAt 6 (((im.slotOffs e).find? (fun o =>
      slotCupola o.2.2 != 0 && (p.templateOf (slotCupola o.2.2)).isNone)).map (fun o => o.2.1)) PCode.template e.2.node)
  <|> im.guard.findSome? (fun e =>
    im.badAt 0x0A (((List.range e.2.members.length).find? (fun j =>
      let n := e.2.members.getD j 0
      !accel n || (e.2.members.take j).contains n || im.guard.any (fun x => x.1 < e.1 && x.2.members.contains n))).map
        (fun j => e.1 + 0x20 + 4 * j)) PCode.protection e.2.gid
    <|> im.badIn 0x0A (e.2.shard % 8 != 0) PCode.protection e.2.gid (e.1 + 8)
    <|> im.badIn 0x0A (e.2.base % 8 != 0) PCode.protection e.2.gid (e.1 + 0x10))

end Img

/-- Bytes of one block set of an MX format: 8 blocks of 32 elements with their scales (R228); 0 for other formats. -/
def mxSet (f : Nat) : Nat :=
  if f = 0x30 || f = 0x31 || f = 0x35 then 264 else if f = 0x32 || f = 0x33 then 200 else if f = 0x34 then 136 else 0

/-- Bytes of `n` elements of a format, block sets filled up (R228). -/
def formatBytes (f n : Nat) : Nat :=
  if mxSet f != 0 then ceilDiv n 256 * mxSet f
  else if f = 0x10 then 4 * n else if f = 0x11 || f = 0x12 then 2 * n else n

namespace Img

/-- R242: tensor records. -/
def checkTensors (im : Img) : Option PErr :=
  im.tensors.findSome? (fun e =>
    let t := e.2
    im.badIn 0x0E (match im.guard.find? (fun g => g.2.gid == t.group) with
      | none => true
      | some g => decide (g.2.shard < t.offset + formatBytes t.fmt t.count)) PCode.graph t.group e.1
    <|> im.badIn 0x0E (t.fmt == 0 || !formatTag t.fmt) PCode.graph t.group (e.1 + 4)
    <|> im.badIn 0x0E (mxSet t.fmt != 0 && t.offset % mxSet t.fmt != 0) PCode.graph t.group (e.1 + 8))

end Img

-- Repair variants against the tables

/-- An element of a list replaced where it exists. -/
def setAt (l : List Nat) (i v : Nat) : List Nat := l.set i v

/-- The tables with slot deltas applied (Table 2.21). -/
def Tables.applySlots (t : Tables) (ds : List SlotDelta) : Tables :=
  { t with sched := t.sched.map (fun b =>
      ds.foldl (fun (b : SchedBlock) d =>
        if d.node = b.node then { b with ports := b.ports.set d.port ((b.ports.getD d.port []).set d.slot d.entry) } else b) b) }

/-- Flow entries after one flow delta (Table 2.21). -/
def applyFlow (l : List Nat) (d : FlowDelta) : List Nat :=
  let kept := l.filter (fun e => e % 2 ^ 17 != d.entry % 2 ^ 17)
  if d.remove then kept else kept ++ [d.entry]

/-- The tables with flow deltas applied; an agent without a block gets one. -/
def Tables.applyFlows (t : Tables) (ds : List FlowDelta) : Tables :=
  let fresh := (ds.map (·.node)).eraseDups.filter (fun n => !t.flows.any (fun b => b.node == n))
  let all := t.flows ++ fresh.map (fun n => ⟨n, []⟩)
  { t with flows := all.map (fun b =>
      ds.foldl (fun (b : FlowBlock) d => if d.node = b.node then { b with entries := applyFlow b.entries d } else b) b) }

/-- The tables with L2P deltas applied: each replaces entry NODE [8:0]; an entry not in use is stored as 0 (Table 16.3).
DEDUCED (log entry 144). -/
def Tables.applyL2p (t : Tables) (ds : List Nat) : Tables :=
  { t with l2p := ds.foldl (fun l d => setAt l (l2pNode d % 512) (if l2pValid d then d else 0)) t.l2p }

/-- The tables with all deltas of a variant, or of an assignment, applied. -/
def Tables.apply (t : Tables) (l2p : List Nat) (slots : List SlotDelta) (flows : List FlowDelta) : Tables :=
  ((t.applyL2p l2p).applySlots slots).applyFlows flows

/-- R60: deltas name no slot twice and touch only the slots of the cupolas in `own` and the detour reserve. -/
def slotDeltasFree (t : Tables) (own : Nat → Bool) (ds : List SlotDelta) : Bool :=
  decide (ds.map (fun d => (d.node, d.port, d.slot))).Nodup &&
  ds.all (fun d =>
    let old := (t.slotsOf d.node d.port).getD d.slot 0
    isReserve old || (slotCupola old != 0 && own (slotCupola old)))

namespace Img

/-- R57: the map that each variant leaves is one-to-one as well. A variant that breaks this is named at its REPAIR record.
DEDUCED (log entry 122). -/
def checkVariantMaps (im : Img) (spire : Nat) : Option PErr :=
  im.variants.findSome? (fun v =>
    im.badIn 0x0C (l2pTwofold spire ((im.decl.tables.applyL2p v.2.l2p).l2p)) PCode.graph v.2.failed v.1)

/-- The element carries a slot of some cupola: a slot of its own slot maps; a port that faces it does not count. DESIGN CHOICE
(log entry 120). -/
def carriesSlot (p : Plan) (node : Nat) : Bool :=
  p.tables.sched.any (fun b => b.node == node && b.ports.any (fun q => q.any (fun x => slotCupola x != 0)))

/-- Step 10 (R60): coverage, then conflict freedom. -/
def checkRepair (im : Img) : Option PErr :=
  let p := im.decl
  im.elements.findSome? (fun e => im.badIn 0x0C (carriesSlot p e.2.node
      && (p.variants.filter (fun v => v.failed == e.2.node)).length != 1) PCode.repairCoverage e.2.node 0)
  <|> im.variants.findSome? (fun v =>
      let t := p.tables.apply v.2.l2p v.2.slots v.2.flows
      im.badIn 0x0C (!slotDeltasFree p.tables (fun c => usesElement p.tables p c v.2.failed) v.2.slots
        || t.sched.any (fun b => (List.range b.ports.length).any (fun q =>
            !slotsNameFlows (facing p b.node) (t.flowsOf b.node) q (b.ports.getD q [])))) PCode.slotConflict v.2.failed v.1)

end Img

-- Rates and capacity

/-- Table 1.6: an engine's figure at a ceiling point; point 0, economy, is the slow corner. -/
def engineFigure (engine point : Nat) : Nat :=
  if engine = 2 then [1500000000000, 2400000000000, 2700000000000].getD point 0
  else if engine = 3 then [1250000, 2000000, 2250000].getD point 0
  else if engine = 5 then [400000, 250000, 220000].getD point 0
  else [4500000000000, 7200000000000, 8100000000000].getD point 0

/-- R421: an engine's figure with `lanes` GF lanes present: fold and decode fall by 1/64 for each lane lost. -/
def figureWith (lanes engine point : Nat) : Nat :=
  if engine = 1 || engine = 2 then engineFigure engine point * lanes / 64 else engineFigure engine point

/-- R55: the work of a window of an engine. -/
def engineWork (engine : Nat) (guard : List GuardRec) : Nat :=
  if engine = 2 then guard.foldl (fun m g => max m g.shard) 0
  else if engine = 3 then 0
  else guard.foldl (fun n g => n + g.k * g.shard) 0

namespace Img

/-- Step 11 (R35, R55): one rate record, with the GF lanes that the die has left. -/
def checkRate (im : Img) (lanes o : Nat) (r : RateRec) : Option PErr :=
  let p := im.decl
  let slow := figureWith lanes r.engine 0
  let top := figureWith lanes r.engine p.ceiling
  let above := if r.engine = 5 then top - r.value else r.value - top
  let cond := if r.engine = 5 then slow - r.value else r.value - slow
  let e (c : Bool) (x : Nat) : Option PErr := bad c PCode.rate (im.index 4) r.engine (im.base 4 + o) x
  let need := max 1 (ceilDiv (engineWork r.engine p.guard * 1000000) (slow * 2 ^ p.tables.code))
  e (decide (0 < above)) above
  <|> e (decide (0 < cond) && r.fallback == 0) cond
  <|> e (r.fallback == 1 && r.engine != 5 && decide (r.param < need)) (need - r.param)
  <|> e (r.fallback == 2 && (r.engine == 1 || r.engine == 5)) 0
  <|> e (r.fallback == 1 && r.engine == 5) 0

/-- Step 11. -/
def checkRates (im : Img) (lanes : Nat) : Option PErr := im.rates.findSome? (fun e => im.checkRate lanes e.1 e.2)

end Img

/-- B_g (R162): bytes that the group's GUARD flows deliver to this Varlor in one round. -/
def Plan.guardBytes (p : Plan) (g : GuardRec) : Nat :=
  let fl := g.members.flatMap (fun n => (p.tables.flowsOf n).filterMap (fun e =>
    if feClass e = 2 && feVariant e = 0 && feEgress e != 31 then some (feFlow e) else none))
  let owned (kind : Nat) : Nat := p.links.foldl (fun n l =>
    if l.bkind = kind then n + ((p.tables.slotsOf l.a l.pa).filter (fun e => fl.contains (slotFlow e))).length else n) 0
  max (owned 1) (owned 2) * slotBytes

/-- r_g (R162). -/
def Plan.guardRegions (p : Plan) (g : GuardRec) : Nat := ceilDiv (p.guardBytes g) (max 1 (g.k * g.region))

/-- Lanes placed, here or at a peer. -/
def GuardRec.placed (g : GuardRec) : Nat := (g.lanes.filter (fun l => l != 0)).length
/-- Lanes held here. -/
def GuardRec.localLanes (g : GuardRec) : Nat := (g.lanes.filter (fun l => l == 1)).length

/-- R162: the full and the direct requirement of a group. -/
def Plan.foldFull (p : Plan) (g : GuardRec) : Nat := (g.placed * (p.guardRegions g + 2) + 5 * p.guardRegions g + 2) * g.region
def Plan.foldDirect (p : Plan) (g : GuardRec) : Nat := (2 * g.placed + 5 * p.guardRegions g + 2) * g.region

/-- The fold requirement, with the groups that `d` selects at their direct requirement. -/
def Plan.foldNeed (p : Plan) (d : GuardRec → Bool) : Nat :=
  p.guard.foldl (fun n g => n + (if d g then p.foldDirect g else p.foldFull g)) 0

/-- R249: pairs of member and tensor, and the SENTINEL requirement. -/
def Plan.sentinelNeed (p : Plan) : Nat :=
  p.tensors.foldl (fun n t => n + 1024 * (if t.member = 0xFF then
    (match p.guard.find? (fun g => g.gid == t.group) with | some g => g.k | none => 0) else 1)) 0 + 16 * p.rules.length

def mib : Nat := 1048576
def gib : Nat := 1073741824

/-- R204: the GRAPH requirement. -/
def Plan.graphNeed (p : Plan) : Nat := 192 * p.tasks + 4 * mib + 4096 * 32

/-- The SRAM regions: (declared, required) in bytes (R52). -/
def Plan.sramRegions (p : Plan) (d : GuardRec → Bool) : List (Nat × Nat) :=
  [(p.fold * mib, p.foldNeed d), (p.graph * mib, p.graphNeed), (p.sentinel * mib, p.sentinelNeed), (p.stage * mib, 64 * mib)]

/-- R64: the SRAM deficit against a capacity in bytes; 0 when the regions fit. -/
def Plan.sramDeficit (p : Plan) (d : GuardRec → Bool) (cap : Nat) : Nat :=
  let l := p.sramRegions d
  max (l.foldl (fun n e => n + (e.2 - e.1)) 0) (l.foldl (fun n e => n + max e.1 e.2) 0 - cap)

/-- The four declared LPDDR5X regions, in bytes. -/
def Plan.dramDeclared (p : Plan) : Nat := (p.journal + p.exportStage + p.recon + p.margin) * gib
/-- Lending-in lanes, in bytes. -/
def Plan.lendNeed (p : Plan) : Nat := p.lends.foldl (fun n l => n + l.size) 0

/-- R53: the parity need over groups given as (shard, local lanes, number of groups). -/
def Plan.parityNeed (p : Plan) (gs : List (Nat × Nat × Nat)) : Nat :=
  gs.foldl (fun n g => n + g.1 * g.2.1 * g.2.2) 0 + p.lendNeed

/-- R53: the whole LPDDR5X need as the plan is written. -/
def Plan.dramNeed (p : Plan) : Nat := p.parityNeed (p.guard.map (fun g => (g.shard, g.localLanes, 1))) + p.dramDeclared

/-- R65: the groups under LARGER_K. Where the replaced groups differ in placement, the rule gives only the largest shard size and
the largest m: a new group takes the largest number of local lanes. DESIGN CHOICE (log entry 121). -/
def Plan.largerK (p : Plan) : List (Nat × Nat × Nat) :=
  let decl := p.guard.filter (fun g => g.modes % 2 == 1)
  let keys := (decl.map (fun g => (g.tpl, g.altK))).eraseDups
  (p.guard.filter (fun g => g.modes % 2 == 0)).map (fun g => (g.shard, g.localLanes, 1))
    ++ keys.map (fun k =>
      let same := decl.filter (fun g => g.tpl == k.1 && g.altK == k.2)
      (same.foldl (fun m g => max m g.shard) 0, same.foldl (fun m g => max m g.localLanes) 0,
        ceilDiv (same.foldl (fun n g => n + g.k) 0) (max 1 k.2)))

/-- R65: the groups under SMALLER_M. -/
def Plan.smallerM (p : Plan) : List (Nat × Nat × Nat) :=
  p.guard.map (fun g => (g.shard, if hasBit g.modes 1 then ((g.lanes.take g.altM).filter (fun l => l == 1)).length else g.localLanes, 1))

/-- R65: the groups under LENDING. -/
def Plan.lendOut (p : Plan) : List (Nat × Nat × Nat) :=
  p.guard.map (fun g => (g.shard, if hasBit g.modes 2 then 0 else g.localLanes, 1))

/-- R65: PLAN_MODE_EVAL, as (declared, shortfall) for the four modes. -/
def Plan.modes (p : Plan) (sramCap dramCap : Nat) : List (Bool × Nat) :=
  let decl (i : Nat) : Bool := p.guard.any (fun g => hasBit g.modes i)
  let dram (gs : List (Nat × Nat × Nat)) : Nat := p.parityNeed gs + p.dramDeclared - dramCap
  [(decl 0, if decl 0 then dram p.largerK else 0), (decl 1, if decl 1 then dram p.smallerM else 0),
   (decl 2, if decl 2 then dram p.lendOut else 0),
   (decl 3, if decl 3 then p.sramDeficit (fun g => hasBit g.modes 3) sramCap else 0)]

namespace State

/-- Digests of the enrolled planning keys (R49, R331): slots of kind 1. -/
def planSigners (s : State) : List Bytes :=
  ((List.range 8).filter (fun i => s.gi F.KEY_SLOT_INFO_KIND i == 1)).map (fun i =>
    (List.range 4).flatMap (fun j => leBytes 8 (s.rd .KEY_SLOT_DIGEST 0 (4 * i + j)).toNat))

/-- Capacities of PLAN_CAPACITY in bytes. -/
def sramCap (s : State) : Nat := s.g F.PLAN_CAPACITY_SRAM_MIB * mib
def dramCap (s : State) : Nat := s.g F.PLAN_CAPACITY_DRAM_GIB * gib

/-- The staged image is complete (R63, step 1): the first offset that has not been written, or where the length differs. -/
def checkComplete (s : State) : Option PErr :=
  let l := s.plan.bytes
  bad (decide (l.length < s.plan.len)) PCode.incomplete 0xFFFF 0
    (((List.range s.plan.len).find? (fun o => match l[o]? with | some e => e.1 != o | none => true)).getD 0) 0
  <|> bad (field (l.map Prod.snd) 0x10 8 != s.plan.len) PCode.length 0xFFFF 0 0x10 0

/-- The staged image, taken apart. -/
def stagedImage (s : State) : Img := Img.parse (s.plan.bytes.map Prod.snd)

/-- The staged image as generation 1 reads it (R42). -/
def knownImage (s : State) : Img := s.stagedImage.known

/-- Verification (R63): the first check that fails, step by step; `none` when all pass. The header, the trailer and the directory
are judged as they were written, what follows on the part of each section that generation 1 knows (R42). -/
def verifyImage (s : State) : Option PErr :=
  let raw := s.stagedImage
  let im := raw.known
  let h := im.bytes
  let p := im.decl
  s.checkComplete
  <|> raw.checkHeader
  <|> raw.checkTrailer s.planSigners
  <|> raw.checkDirectory
  <|> bad (field h 0x2C 4 != s.g F.IDENT_SITE_INSTALLATION) PCode.identity 0xFFFF 0 0x2C 0
  <|> bad (field h 0x30 1 != s.spire) PCode.identity 0xFFFF 0 0x30 0
  <|> bad (decide (field h 0x28 4 ≤ s.g F.PLAN_EPOCH_CURRENT)) PCode.epoch 0xFFFF 0 0x28 0
  <|> bad (s.g F.IDENT_LIC_CODE == 0) PCode.licence 0xFFFF 0 0 0
  <|> im.checkLicence (s.g F.IDENT_LIC_PAIR_FEATURES) (s.g F.IDENT_LIC_PORTS) (s.g F.IDENT_LIC_AGENTS)
  <|> im.checkEncodings
  <|> im.checkGraph
  <|> im.checkTables s.spire
  <|> im.checkVariantMaps s.spire
  <|> im.checkTemplates
  <|> im.checkGuard
  <|> im.checkTensors
  <|> im.checkRepair
  <|> im.checkRates (s.g F.IDENT_INTERNAL_GF_LANES)
  <|> im.badIn 2 (decide (0 < p.sramDeficit (fun _ => false) s.sramCap)) PCode.sram 0 0
  <|> im.badIn 3 (decide (s.dramCap < p.dramNeed)) PCode.dram 0 0

end State

end Sys2Proof.Machine
end

