-- ==== Sys2Proof/Machine/Discovery.lean ====
section
/-! DEFINITION. The observed graph and its matching against the plan (R73 to R82), and the install tree (R104). Positions are
local node numbers; 510 and 511 stand for the Varlor modules A and B (R335). -/
namespace Sys2Proof.Machine

/-- An end of a link: position (or element ID, in the observed graph) and port. -/
abbrev End := Nat × Nat

/-- The two ends of a plan link as positions; links into a peer spire have none (B kind 3). -/
def LinkRec.ends (l : LinkRec) : Option (End × End) :=
  if l.bkind = 0 then some ((localOf l.a, l.pa), (localOf l.b, l.pb))
  else if l.bkind = 1 then some ((localOf l.a, l.pa), (510, l.b))
  else if l.bkind = 2 then some ((localOf l.a, l.pa), (511, l.b))
  else none

/-- A position and port that a plan link joins to a peer spire. -/
def Plan.interSpire (p : Plan) (e : End) : Bool := p.links.any (fun l => l.bkind == 3 && (localOf l.a, l.pa) == e)

/-- The plan links that touch an end, each with its far end and equivalence class. -/
def Plan.planEnds (p : Plan) (e : End) : List (End × Nat) :=
  p.links.filterMap (fun l =>
    match l.ends with
    | some (a, b) => if a = e then some (b, l.cls) else if b = e then some (a, l.cls) else none
    | none => none)

/-- R75: a link between two ends agrees with the plan: its record, or one permutation of an equivalence class. -/
def Plan.agrees (p : Plan) (x y : End) : Bool :=
  (p.planEnds x).any (fun e => e.1 == y) ||
  p.links.any (fun l =>
    match l.ends with
    | some (a, b) => l.cls != 0 && (
        (a == x && p.links.any (fun k => k.cls == l.cls && (match k.ends with | some (_, d) => d == y | none => false))) ||
        (b == x && p.links.any (fun k => k.cls == l.cls && (match k.ends with | some (c, _) => c == y | none => false))))
    | none => false)

/-- R76: observed exactly as a plan link. -/
def Plan.exact (p : Plan) (x y : End) : Bool := (p.planEnds x).any (fun e => e.1 == y)

/-- The beacon kind of a plan kind (Discovery, The planned element kinds). -/
def beaconKind (kind : Nat) : Nat := if kind = 1 then 1 else 2

/-- The element of a position. -/
def Plan.at (p : Plan) (pos : Nat) : Option ElemRec := p.element pos

/-- One observed link in a fixed order of its ends. -/
def ObsLink.mk' (a b : End) : ObsLink :=
  if a.1 < b.1 || (a.1 == b.1 && a.2 ≤ b.2) then ⟨a.1, a.2, b.1, b.2⟩ else ⟨b.1, b.2, a.1, a.2⟩

/-- Every observed link: from the replies' port records and from Varlor's own beacons, but for the own ports that lead out of
the graph (`out`). -/
def Disc.links (d : Disc) (own : Nat) (out : Nat × Beacon → Bool) : List ObsLink :=
  let mine := (d.beacons.filter (fun e => !out e)).map (fun e => ObsLink.mk' (own, e.1) (e.2.elementId, e.2.port))
  let theirs := d.observed.flatMap (fun o => (List.range o.ports.length).filterMap (fun p =>
    match o.ports[p]? with
    | some r => if (1 ≤ r.link && r.link ≤ 3) && r.farId != 0 then some (ObsLink.mk' (o.id, p) (r.farId, r.farPort)) else none
    | none => none))
  (mine ++ theirs).eraseDups

/-- The links of one element, each as (its port, far element ID, far port). -/
def linksOf (l : List ObsLink) (id : Nat) : List (Nat × Nat × Nat) :=
  l.filterMap (fun k =>
    if k.idA = id then some (k.portA, k.idB, k.portB)
    else if k.idB = id then some (k.portB, k.idA, k.portA) else none)

/-- Placement: (position, element ID), the anchors among them. -/
abbrev Placed := List (Nat × Nat)

/-- The position of an element ID. -/
def posOf (pl : Placed) (id : Nat) : Option Nat := (pl.find? (fun e => e.2 == id)).map (·.1)

/-- An element's own record contradicts a far end's claim to its port `q`: it names another far end there, or a port that is down
although the plan does not join the two ends at their places. -/
def Observed.denies (p : Plan) (pl : Placed) (o : Observed) (q : Nat) (e : End) : Bool :=
  match o.ports[q]? with
  | some r =>
    if r.link = 0 then
      match posOf pl o.id, posOf pl e.1 with
      | some a, some b => !p.exact (a, q) (b, e.2)
      | _, _ => true
    else decide (r.link ≤ 3) && (r.farId, r.farPort) != e
  | none => true

/-- R80: the ends that claim a port of an element from another place than its own record's: those that the record contradicts,
or, with no record, those after the first for one port. -/
def Disc.denied (d : Disc) (p : Plan) (pl : Placed) (l : List ObsLink) (id : Nat) : List (End × Nat) :=
  let claims := linksOf l id
  match d.observed.find? (fun o => o.id == id && o.replied && !o.ports.isEmpty) with
  | some o => (claims.filter (fun k => o.denies p pl k.1 (k.2.1, k.2.2))).map (fun k => ((k.2.1, k.2.2), k.1))
  | none => ((List.range claims.length).filterMap (fun i =>
      match claims[i]? with
      | some k => if (claims.take i).any (fun x => x.1 == k.1) then some ((k.2.1, k.2.2), k.1) else none
      | none => none))

/-- R80: element IDs that beacons from two different places carry. -/
def Disc.twofold (d : Disc) (p : Plan) (pl : Placed) (l : List ObsLink) (own : Nat) : List Nat :=
  ((d.observed.filter (fun o => o.kind != 3 && o.id != own && !(d.denied p pl l o.id).isEmpty)).map (·.id)).eraseDups

/-- R75: net(e, p) for an element's links at a position. -/
def net (p : Plan) (pl : Placed) (lk : List (Nat × Nat × Nat)) (pos : Nat) : Int :=
  lk.foldl (fun n k =>
    match posOf pl k.2.1 with
    | some far => if p.agrees (pos, k.1) (far, k.2.2) then n + 1 else n - 1
    | none => n) 0

/-- The position that an element chooses in a pass: greatest net of at least 1, reached by no other (R75). -/
def choose (p : Plan) (pl : Placed) (lk : List (Nat × Nat × Nat)) (free : List ElemRec) : Option ElemRec :=
  let nets := free.map (fun e => (e, net p pl lk (localOf e.node)))
  let best := nets.foldl (fun m e => max m e.2) 0
  match nets.filter (fun e => e.2 == best) with
  | [e] => if 1 ≤ best then some e.1 else none
  | _ => none

/-- Positions that a pass may fill: of the element's kind, not taken, ADOPTABLE only in the further passes (R75, R81). -/
def openPositions (p : Plan) (pl : Placed) (kind : Nat) (adopt : Bool) : List ElemRec :=
  p.elements.filter (fun e => beaconKind e.kind == kind && e.adoptable == adopt && !pl.any (fun x => x.1 == localOf e.node))

/-- One pass of R75. -/
def placePass (p : Plan) (l : List ObsLink) (obs : List (Nat × Nat)) (adopt : Bool) (pl : Placed) : Placed :=
  let free := obs.filter (fun o => !pl.any (fun x => x.2 == o.1))
  let picks := free.filterMap (fun o =>
    match choose p pl (linksOf l o.1) (openPositions p pl o.2 adopt) with
    | some e => if e.pinned && e.expectedId != o.1 then none else some (localOf e.node, o.1)
    | none => none)
  pl ++ picks.filter (fun x => (picks.filter (fun y => y.1 == x.1)).length == 1)

/-- Passes until one places nothing. -/
def placeAll (p : Plan) (l : List ObsLink) (obs : List (Nat × Nat)) (adopt : Bool) : Nat → Placed → Placed
  | 0, pl => pl
  | n + 1, pl =>
    let next := placePass p l obs adopt pl
    if next.length = pl.length then pl else placeAll p l obs adopt n next

/-- R80: a PINNED position whose only contender has another element ID. -/
def pinnedMismatch (p : Plan) (l : List ObsLink) (obs : List (Nat × Nat)) (pl : Placed) (pos : Nat) : Bool :=
  match p.at pos with
  | some e => e.pinned && !pl.any (fun x => x.1 == pos) && obs.any (fun o =>
      !pl.any (fun x => x.2 == o.1) && (match choose p pl (linksOf l o.1) (openPositions p pl o.2 false) with
        | some c => localOf c.node == pos
        | none => false))
  | none => false

/-- A link of the observed graph by its two positions; `none` for an end that is not placed. -/
def positioned (pl : Placed) (k : ObsLink) : Option End × Option End :=
  ((posOf pl k.idA).map (fun n => (n, k.portA)), (posOf pl k.idB).map (fun n => (n, k.portB)))

/-- The observed links that join placed ends. -/
def placedLinks (pl : Placed) (l : List ObsLink) : List (End × End) :=
  l.filterMap (fun k => match positioned pl k with
    | (some a, some b) => some (a, b)
    | _ => none)

/-- Some observed link joins two ends, either way. -/
def joined (ls : List (End × End)) (a b : End) : Bool := ls.any (fun k => (k.1 == a && k.2 == b) || (k.1 == b && k.2 == a))

/-- R78: the crossed pair that an observed link x–y is part of: the far ends q of x's plan link and r of y's plan link are
observed joined to each other. -/
def crossedWith (p : Plan) (ls : List (End × End)) (x y : End) : Option (End × End) :=
  (p.planEnds x).findSome? (fun q => (p.planEnds y).findSome? (fun r =>
    if q.1 != y && joined ls r.1 q.1 && (q.2 == 0 || q.2 != r.2) then some (r.1, q.1) else none))

/-- Table 3.3: the class of an observed link with both ends placed. -/
def linkClass (p : Plan) (ls : List (End × End)) (x y : End) : Nat :=
  if p.exact x y then 1
  else if p.agrees x y then 2
  else if (crossedWith p ls x y).isSome then 3
  else if (p.planEnds x).isEmpty && (p.planEnds y).isEmpty then 5
  else 4

/-- Hop depth of a position: the length of its route of first sight; 0 for the modules. -/
def depthOf (d : Disc) (pl : Placed) (pos : Nat) : Nat :=
  match pl.find? (fun e => e.1 == pos) with
  | some e => (match d.observed.find? (fun o => o.id == e.2) with | some o => o.route.length | none => 0)
  | none => 0

/-- R78: the corrective swap of a crossed pair observed as x–y and r–q, with plan links x–q and r–y (each a pair of ends). The
rule names the two ports in no order; the lower position and port comes first. DESIGN CHOICE (log entry 123). -/
def correctiveSwap (d : Disc) (pl : Placed) (x y r q : End) : End × End :=
  let ord (a b : End) : End × End := if a.1 < b.1 || (a.1 == b.1 && a.2 ≤ b.2) then (a, b) else (b, a)
  if x.1 = r.1 then ord x r
  else if q.1 = y.1 then ord q y
  else
    let da := max (depthOf d pl x.1) (depthOf d pl r.1)
    let db := max (depthOf d pl q.1) (depthOf d pl y.1)
    if db < da then ord x r
    else if da < db then ord q y
    else if max q.1 y.1 < max x.1 r.1 then ord x r else ord q y

-- The install tree (R104)

/-- Breadth-first: from the elements reached, over live links, in port order; each element with its route (OP port, then
egress ports). -/
def bfs (d : Disc) (live : Nat → Nat → Bool) : Nat → List (Nat × List Nat) → List (Nat × List Nat) → List (Nat × List Nat)
  | 0, _, seen => seen
  | n + 1, frontier, seen =>
    let step := frontier.foldl (fun (acc : List (Nat × List Nat) × List (Nat × List Nat)) f =>
      match d.observed.find? (fun o => o.id == f.1) with
      | none => acc
      | some o => (List.range o.ports.length).foldl (fun acc p =>
          match o.ports[p]? with
          | some r =>
            if (r.link == 1 || r.link == 2) && r.farKind != 3 && r.farId != 0 && live f.1 p && live r.farId r.farPort
                && !acc.1.any (fun e => e.1 == r.farId) then
              (acc.1 ++ [(r.farId, f.2 ++ [p])], acc.2 ++ [(r.farId, f.2 ++ [p])])
            else acc
          | none => acc) acc) (seen, [])
    if step.2.isEmpty then seen else bfs d live n step.2 step.1

namespace State

/-- A beacon of another module on a twin or peer port: that port is no link of the spire's graph (Table 2.5). -/
def outOfGraph (s : State) (e : Nat × Beacon) : Bool := e.2.kind == 3 && 2 ≤ s.gi F.PORT_STATUS_ROLE e.1

/-- Every observed link of the spire. -/
def obsLinks (s : State) : List ObsLink := s.disc.links s.ownId s.outOfGraph

/-- The placement with this module and its partner as anchors (R75): the partner is the module on the twin ports, or, while
none of them carries a beacon, the module that agents report beside this one. -/
def anchors (s : State) : Placed :=
  let own := 510 + s.g F.TWIN_STATUS_LETTER
  let twin := s.disc.beacons.filterMap (fun e =>
    if e.2.kind = 3 && s.gi F.PORT_STATUS_ROLE e.1 = 3 then some e.2.elementId else none)
  let told := s.disc.observed.flatMap (fun o => o.ports.filterMap (fun r =>
    if r.farKind = 3 && 1 ≤ r.link && r.link ≤ 3 then some r.farId else none))
  let ids := (twin ++ told).filter (fun i => i != s.ownId)
  (own, s.ownId) :: (ids.take 1).map (fun i => (1021 - own, i))

/-- The link at an element's port is held dark, or has failed: listed by either end's ID, or by its position. -/
def linkLive (s : State) (id port : Nat) : Bool :=
  let far := match s.disc.observed.find? (fun o => o.id == id) with
    | some o => (match o.ports[port]? with | some r => (r.farId, r.farPort) | none => (0, 0))
    | none => (0, 0)
  let listed (e : End) : Bool := s.disc.dark.contains e ||
    (match s.nodeOfId e.1 with
     | some n => s.rep.failedLinks.contains (n, e.2) || s.rep.flapHeld.contains (n, e.2) || s.rep.failedNodes.contains n
     | none => false)
  !listed (id, port) && !listed far

/-- The elements that Varlor's own trained ports reach, with the OP port as route. -/
def firstHops (s : State) : List (Nat × List Nat) :=
  (s.disc.beacons.filter (fun e => e.2.kind != 3 && s.gi F.PORT_STATUS_STATE e.1 == 2
      && !s.disc.dark.contains (s.ownId, e.1) && !s.disc.dark.contains (e.2.elementId, e.2.port))).foldl
    (fun acc e => if acc.any (fun a => a.1 == e.2.elementId) then acc else acc ++ [(e.2.elementId, [e.1])]) []

/-- The install tree: every element reached over live links, with its route (R104). -/
def tree (s : State) : List (Nat × List Nat) := bfs s.disc s.linkLive 25 s.firstHops s.firstHops

/-- The tree by position: (local node, route). -/
def treeNodes (s : State) : List (Nat × List Nat) :=
  s.tree.filterMap (fun e => (s.nodeOfId e.1).map (fun n => (n, e.2)))

/-- The route of a local node in the tree. -/
def treeRoute (s : State) (node : Nat) : Option (List Nat) := (s.treeNodes.find? (fun e => e.1 == node)).map (·.2)

/-- The tree parent of a local node: the node one hop nearer; `none` for those on Varlor's own ports. -/
def treeParent (s : State) (node : Nat) : Option Nat :=
  match s.treeRoute node with
  | some r => (s.treeNodes.find? (fun e => e.2 == r.dropLast && !e.2.isEmpty)).map (·.1)
  | none => none

/-- The port mask DOWN of AG_TREE: egress ports on which tree children hang. -/
def treeDown (s : State) (node : Nat) : Nat :=
  match s.treeRoute node with
  | some r => maskOf ((s.treeNodes.filter (fun e => e.2.length == r.length + 1 && e.2.dropLast == r)).map (fun e => e.2.getLastD 0))
  | none => 0

/-- The uplink port: the agent's own port of the link over which the tree reaches it. -/
def treeUplink (s : State) (node : Nat) : Option Nat :=
  match s.treeRoute node with
  | none => none
  | some r =>
    match r with
    | [op] => (s.disc.beacons.find? (fun e => e.1 == op)).map (fun e => e.2.port)
    | _ =>
      match s.treeParent node with
      | some up =>
        let id := lookupD s.disc.placed up 0
        (s.disc.observed.find? (fun o => o.id == id)).bind (fun o => (o.ports[r.getLastD 0]?).map (·.farPort))
      | none => none

/-- R104: Varlor writes the tree port mask of an agent, its uplink and its Varlor-facing ports, by management access. -/
def writeTree (s : State) (node : Nat) : State :=
  let facing := match s.plan.cur with
    | some p => maskOf ((p.links.filter (fun l => localOf l.a == node && (l.bkind == 1 || l.bkind == 2))).map (·.pa))
    | none => 0
  let up := s.treeUplink node
  let w := (match up with | some u => u % 16 + 16 | none => 0) + s.treeDown node % 2 ^ 16 * 2 ^ 16 + facing % 2 ^ 16 * 2 ^ 32
  s.send .access node Reg.AG_TREE.base [w]

/-- Every agent's tree port mask is written. -/
def writeTrees (s : State) : State := s.boundNodes.foldl (fun (t : State) n => t.writeTree n) s

end State

end Sys2Proof.Machine
end

