-- ==== Sys2Proof/Machine/Install.lean ====
section
/-! DEFINITION. Varlor's side of flows and table installation (R99 to R117): quiescing, the figures of R107, the segments of
an install, its phases, the commit point, and what a completion, repair or single-agent install carries. -/
namespace Sys2Proof.Machine

/-- An agent's install state at Varlor that needs nothing more: PREPARED or ARMED (Table 4.9). -/
def isPrepared (st : Nat) : Bool := st == 2 || st == 4

/-- The flow entries of an element: its own block, and, where it stands in for another node, that node's delivery entries
(R99); in a cut row's shift, the whole block of the role (R141). -/
def roleFlows (t : Tables) (spire pos role : Nat) (cut : Bool) : List Nat :=
  let own := t.flowsOf (spire * 512 + pos)
  let other := t.flowsOf (spire * 512 + role)
  if role = pos then own
  else if cut then other
  else own ++ (other.filter (fun e => feEgress e == 31)).filter (fun e => !own.any (fun o => o % 2 ^ 17 == e % 2 ^ 17))

/-- The tables of one agent beside the common L2P: code and bytes, slot maps first (Table 4.7). -/
def agentTables (t : Tables) (spire pos role : Nat) (cut : Bool) : List (Nat × Bytes) :=
  let src := spire * 512 + (if cut then role else pos)
  let ports := t.portsOf src
  ((List.range ports.length).filterMap (fun p =>
    let q := ports.getD p []
    if q.isEmpty then none else some (0x10 + p, (q.map (leBytes 4)).flatten)))
    ++ [(0x02, ((roleFlows t spire pos role cut).map (leBytes 8)).flatten)]

/-- R141: what an agent of a cut row that plays no role keeps of its tables: management and reserve slots, and the DETOUR slots and
variant-1 entries by which it forwards the column traffic. -/
def Tables.detourAt (t : Tables) (node : Nat) : Tables :=
  let kept := (t.flowsOf node).filter (fun e => feVariant e == 1)
  let slot (e : Nat) : Nat := if isMgmt e || isReserve e || kept.any (fun x => feFlow x == slotFlow e) then e else 0
  { t with
    sched := t.sched.map (fun (b : SchedBlock) => if b.node = node then { b with ports := b.ports.map (fun q => q.map slot) } else b)
    flows := t.flows.map (fun (b : FlowBlock) => if b.node = node then { b with entries := kept } else b) }

/-- The common L2P table as bytes. -/
def l2pBytes (t : Tables) : Bytes := (t.l2p.map (leBytes 8)).flatten

/-- Segments of a table (R103): 4,096 bytes each. -/
def segsOf (bs : Bytes) : Nat := ceilDiv bs.length 4096

/-- Table slots of a port's slot map: management slots j with (j × TABLE_SHARE) mod 16 < TABLE_SHARE (R94). -/
def tableSlots (share : Nat) (slots : List Nat) : List Nat :=
  let m := (List.range slots.length).filter (fun i => isMgmt (slots.getD i 0))
  ((List.range m.length).filter (fun j => j * share % 16 < share)).map (fun j => m.getD j 0)

/-- The greatest gap between successive places of a cycle of `n` slots, in slots of 1 µs. -/
def cycleGap (n : Nat) (l : List Nat) : Nat :=
  match l with
  | [] => n
  | x :: _ => ((l.zip (l.drop 1 ++ [x + n])).map (fun e => e.2 - e.1)).foldl max 0

/-- R111: cupolas of flows or slots; a straggler affects those that use it in either bank. -/
def affects (p : Plan) (old new : Tables) (c node : Nat) : Bool := usesElement old p c node || usesElement new p c node

/-- R111: the install changes the common unit: the L2P table, a management or reserve slot, or the round code. -/
def commonChanged (old new : Tables) : Bool :=
  let marks (t : Tables) : List (Nat × List (List Nat)) :=
    t.sched.map (fun b => (b.node, b.ports.map (fun q => q.map (fun e => if isMgmt e then 2 else if isReserve e then 1 else 0))))
  old.l2p != new.l2p || old.code != new.code || marks old != marks new

/-- R112: cupolas of new owners of slots that a held cupola's old entry also owns. -/
def mixedConflicts (old new : Tables) (held : List Nat) : List Nat :=
  new.sched.foldl (fun acc b => (List.range b.ports.length).foldl (fun acc q =>
    let o := old.slotsOf b.node q
    let n := b.ports.getD q []
    (List.range n.length).foldl (fun acc i =>
      let x := o.getD i 0
      let y := n.getD i 0
      if held.contains (slotCupola x) && slotCupola y != 0 && slotFlow y != slotFlow x && !held.contains (slotCupola y) then
        addOnce (slotCupola y) acc
      else acc) acc) acc) []

/-- R112: the hold set closed under the mixed schedule check. -/
def closeHold (old new : Tables) : Nat → List Nat → List Nat
  | 0, h => h
  | n + 1, h =>
    match mixedConflicts old new h with
    | [] => h
    | l => closeHold old new n (unionL h l)

/-- R102: flows whose entry or slots differ between two tables. -/
def changedFlows (old new : Tables) : List Nat :=
  let flowsIn (t : Tables) : List Nat := t.flows.foldl (fun acc b => b.entries.foldl (fun acc e => addOnce (feFlow e) acc) acc) []
  let entriesFor (t : Tables) (f : Nat) : List (Nat × Nat) := t.flows.flatMap (fun b => (b.entries.filter (fun e => feFlow e == f)).map (fun e => (b.node, e)))
  let slotsFor (t : Tables) (f : Nat) : List (Nat × List (List Nat)) :=
    t.sched.map (fun b => (b.node, b.ports.map (fun q => q.map (fun e => if slotFlow e = f then e else 0))))
  (unionL (flowsIn old) (flowsIn new)).filter (fun f => entriesFor old f != entriesFor new f || slotsFor old f != slotsFor new f)

/-- The largest drain bound among the changed flows (R107). -/
def changedBound (old new : Tables) : Nat :=
  (changedFlows old new).foldl (fun m f => max m (max (drainBound (old.classOfFlow f)) (drainBound (new.classOfFlow f)))) 0

namespace State

-- Flows (R101)

/-- AG_CTRL of an agent is written by management access. -/
def agCommand (s : State) (node cmd flow : Nat) : State := s.send .access node Reg.AG_CTRL.base [cmd + flow * 65536]

/-- QUIESCE_FLOW and RESUME_FLOW (R101): the flow's source agents are told; BELL_QUIESCE follows. Of a flow that Varlor itself
sources, R101 says nothing more: the first agent on its way is told, and Varlor's own tasks go on. DESIGN CHOICE (log
entry 127). -/
def stopFlow (s : State) (stop : Bool) : State :=
  let f := s.g F.BELL_ARG_ARG % 65536
  let src := s.tables.sourcesOf f
  if src.isEmpty then s.err Status.value 0
  else
    let s1 := src.foldl (fun (t : State) n => t.agCommand (localOf n) (if stop then 3 else 4) f) s
    let rest := s.bell.quiesced.filter (fun q => q.1 != f)
    let due := s.round + 1 + drainBound (s.tables.classOfFlow f)
    let s2 := { s1 with bell := { s1.bell with quiesced := if stop then rest ++ [(f, s.round + 1, due)] else rest } }
    ((((s2.p F.BELL_QUIESCE_FLOW f).p F.BELL_QUIESCE_PENDING (if stop then 1 else 0)).p F.BELL_QUIESCE_QUIESCED 0)).ok

/-- QUIESCE_DRAINED (R101). -/
def quiesceDrained (s : State) : State :=
  let f := s.g F.BELL_QUIESCE_FLOW
  if s.bell.quiesced.any (fun q => q.1 == f && q.2.2 ≤ s.round) && s.b F.BELL_QUIESCE_PENDING then
    (s.p F.BELL_QUIESCE_PENDING 0).p F.BELL_QUIESCE_QUIESCED 1
  else s

-- Admission filters as Varlor writes them (R121, R400)

/-- A filter entry is written by management access: cupola 0 clears it. -/
def writeFilter (s : State) (node idx cupola round : Nat) : State :=
  s.send .access node (Reg.AG_FILTER.base + 8 * idx) [round % 2 ^ 48 + cupola * 2 ^ 48]

/-- The filter entry that Varlor holds for a cupola in an agent. -/
def filterIndex (s : State) (node cupola : Nat) : Option Nat :=
  (s.cup.filters.find? (fun e => e.1 == cupola && e.2.1 == node)).map (·.2.2)

/-- The lowest filter entry that is free in an agent. -/
def freeFilter (s : State) (node : Nat) : Option Nat :=
  (List.range 64).find? (fun i => !s.cup.filters.any (fun e => e.2.1 == node && e.2.2 == i))

/-- R121: carve and retire rounds that would fall in A − 1 to A move to A + 1; a moved carve's entries are written again. DEDUCED
(log entry 146). -/
def moveRounds (s : State) (a : Nat) : State :=
  let hit (r : Nat) : Bool := decide (a ≤ r + 1) && decide (r ≤ a)
  let moved := s.cup.carves.filter (fun c => c.start.isSome && hit c.round)
  let s1 := { s with cup := { s.cup with
    carves := s.cup.carves.map (fun c => if c.start.isSome && hit c.round then { c with round := a + 1, unconfirmed := c.nodes } else c)
    retires := s.cup.retires.map (fun r => if hit r.round then { r with round := a + 1 } else r) } }
  moved.foldl (fun (t : State) c => c.nodes.foldl (fun (t : State) n =>
    match t.filterIndex n c.cupola with
    | some i => t.writeFilter n i c.cupola (a + 1)
    | none => t) t) s1

/-- R121: a round that would fall in A − 1 to A of the install in progress moves to A + 1. -/
def clearOfInstall (s : State) (r : Nat) : Nat :=
  match s.bell.install with
  | some _ =>
    let a := s.g F.BELL_ACT_ROUND_ROUND
    if a ≤ r + 1 && r ≤ a then a + 1 else r
  | none => r

-- Figures (R107)

/-- C and G under the tables in force: segments per round on one link, the greatest gap in µs. -/
def linkFigures (s : State) : Nat × Nat :=
  match s.bell.tables with
  | none => (45 * (s.slotsPerRound / 64), 64)
  | some t =>
    let share := s.g F.BELL_CFG_TABLE_SHARE
    let maps := t.sched.flatMap (fun b => (b.ports.filter (fun q => !q.isEmpty)).map (tableSlots share))
    let least := maps.foldl (fun m l => min m l.length) s.slotsPerRound
    (45 * least, maps.foldl (fun m l => max m (cycleGap s.slotsPerRound l)) 0)

/-- L: the most segments that a first hop carries, each target's count with the every-agent segments once. -/
def linkLoad (s : State) (segs : List (Nat × Nat)) (common : Nat) : Nat :=
  let heads := segs.filterMap (fun e => (s.treeRoute e.1).map (fun r => (r.headD 0, e.2)))
  ((heads.map (·.1)).eraseDups).foldl (fun m h => max m ((heads.filter (fun x => x.1 == h)).foldl (fun n x => n + x.2) common)) 0

/-- D: the depth of the install tree. -/
def treeDepth (s : State) : Nat := s.treeNodes.foldl (fun m e => max m e.2.length) 0

/-- The figures of R107: (L, D, G, H, S, E) for targets with their segment counts, the common segments and P. -/
def figures (s : State) (segs : List (Nat × Nat)) (common passes : Nat) : Nat × Nat × Nat × Nat × Nat × Nat :=
  let l := s.linkLoad segs common
  let d := s.treeDepth
  let (c, g) := s.linkFigures
  let h := ceilDiv (d * g) (2 ^ s.g F.BELL_STATUS_ROUND_CODE)
  let sd := ceilDiv l (max 1 c) + h
  (l, d, g, h, sd, sd + h + 1 + passes * (2 * h + 1))

/-- R107, R116: retransmission passes of a kind of install. -/
def passesOf (s : State) (kind : Nat) : Nat := if kind = 1 then s.g F.BELL_CFG_REPAIR_PASSES else s.g F.BELL_CFG_RETX_PASSES

/-- The plan whose elements an install is for. -/
def planFor (s : State) (kind : Nat) : Option Plan := if kind = 0 then s.plan.staged <|> s.plan.cur else s.plan.cur

/-- The tables that an element at a position carries under tables `t`: its role's, in a row cut; without a role there, only what
forwards the column traffic (R141). -/
def tablesAt (s : State) (p : Plan) (t : Tables) (node : Nat) : List (Nat × Bytes) :=
  let cut := !s.rep.rowsCut.isEmpty
  let role := roleOf p t node
  let idle := cut && role == node && playerOf p t (s.logical node) != node
  agentTables (if idle then t.detourAt (s.logical node) else t) s.spire node role cut

/-- Tables of a target: all of them, or in a repair or completion install only those that differ from what it holds (R136). In a
completion install that is the tables in force, or, for an agent that was late for them, those that held cupolas still run on. -/
def targetTables (s : State) (p : Plan) (kind : Nat) (new : Tables) (node : Nat) : List (Nat × Bytes) :=
  let l := s.tablesAt p new node
  let differs (old : Tables) (e : Nat × Bytes) : Bool := !(s.tablesAt p old node).contains e
  if kind = 1 then l.filter (differs s.tables)
  else if kind = 2 then
    match s.bell.heldTables with
    | some t => l.filter (fun e => differs s.tables e || differs t e)
    | none => l.filter (differs s.tables)
  else l

/-- Segment counts of the targets, the manifest among them. -/
def targetSegs (s : State) (p : Plan) (kind : Nat) (new : Tables) (targets : List Nat) : List (Nat × Nat) :=
  targets.map (fun n => (n, (s.targetTables p kind new n).foldl (fun a e => a + segsOf e.2) 1))

-- Sending

/-- The manifest of a target (Table 4.7): descriptors (code, first segment, count, check). -/
def manifestFor (s : State) (p : Plan) (i : Install) (a node : Nat) : ManifestP :=
  let c := segsOf (l2pBytes i.tables)
  let l := s.targetTables p i.kind i.tables node
  let descs := l.foldl (fun (acc : Nat × List TableDesc) e =>
    (acc.1 + segsOf e.2, acc.2 ++ [⟨e.1, acc.1, segsOf e.2, crc64 e.2⟩])) (1 + c, [⟨1, 1, c, crc64 (l2pBytes i.tables)⟩])
  ⟨i.id, i.kind, i.tables.code, i.tables.epoch, a, s.logical (roleOf p i.tables node), descs.1,
    i.tables.code != s.g F.BELL_STATUS_ROUND_CODE, descs.2⟩

/-- The payload of one segment of a target; segment 0 is the manifest. -/
def segmentBytes (s : State) (p : Plan) (i : Install) (node idx : Nat) : Bytes :=
  let all := (l2pBytes i.tables) :: (s.targetTables p i.kind i.tables node).map Prod.snd
  let parts := all.flatMap (fun b => (List.range (segsOf b)).map (fun k => (b.drop (4096 * k)).take 4096))
  parts.getD (idx - 1) []

/-- A manifest is sent along a route (R104, R105). -/
def sendManifest (s : State) (node : Nat) (route : List Nat) (m : ManifestP) : State :=
  s.send .manifest node 0 ([m.installId, m.kind, m.roundCode, m.epoch, m.actRound, m.node, m.segments,
    (if m.roundChange then 1 else 0)] ++ m.tables.flatMap (fun d => [d.code, d.first, d.count, d.crc]) ++ route)

/-- One segment is sent, targeted and source-routed; segment 0 as the manifest. An agent that no live route reaches receives no
table (R104). -/
def sendSegment (s : State) (p : Plan) (i : Install) (a node idx : Nat) : State :=
  match s.treeRoute node with
  | none => s
  | some route =>
    if idx = 0 then s.sendManifest node route (s.manifestFor p i a node)
    else s.emit .segment node 0 ([i.id, s.logical (roleOf p i.tables node), idx, i.tables.epoch] ++ route) (s.segmentBytes p i node idx)

/-- The segments of the common L2P table: to every agent, or, in a single-agent install, which involves no other agent, to its
target alone (R105, R115). -/
def sendCommon (s : State) (p : Plan) (i : Install) (a : Nat) : State :=
  let b := l2pBytes i.tables
  (List.range (segsOf b)).foldl (fun (t : State) k =>
    if i.kind = 3 then i.targets.foldl (fun (t : State) n => t.sendSegment p i a n (k + 1)) t
    else t.emit .segment 0xFFFFFFFF 0 [i.id, 0xFFFFFFFF, k + 1, i.tables.epoch] ((b.drop (4096 * k)).take 4096)) s

/-- The first send phase: manifests, the common table, and each target's own segments (R103 to R105). -/
def sendAll (s : State) (p : Plan) (i : Install) (a : Nat) : State :=
  let c := segsOf (l2pBytes i.tables)
  let t0 := i.targets.foldl (fun (t : State) n => t.sendSegment p i a n 0) s
  let t1 := t0.sendCommon p i a
  i.targets.foldl (fun (t : State) n =>
    let m := t.manifestFor p i a n
    ((List.range m.segments).filter (fun k => c < k)).foldl (fun (t : State) k => t.sendSegment p i a n k) t) t1

-- Starting

/-- An install starts (R105 to R107): its figures, its activation round, BELL_STATUS and BELL_AGENT, and its segments. `when`
gives A from the first send round and E. -/
def startInstall (s : State) (kind : Nat) (tables : Tables) (targets cupolas : List Nat) (planned : Bool) (action first : Nat)
    (actRound : Nat → Nat → Nat) : State :=
  match s.planFor kind with
  | none => s
  | some p =>
    let id := (s.g F.BELL_STATUS_INSTALL_ID + 1) % 65536
    let segs := s.targetSegs p kind tables targets
    let c := segsOf (l2pBytes tables)
    let (l, d, g, h, sd, e) := s.figures segs c (s.passesOf kind)
    let a := actRound first e
    let lacks : List Lack := segs.map (fun x => ⟨x.1, List.range (x.2 + c)⟩)
    let i : Install := ⟨id, kind, first, first + sd, h, sd, e, targets, lacks, tables, cupolas, planned, [], [], false, action⟩
    let s1 := { s with bell := { s.bell with install := some i } }
    let s2 := ((((s1.p F.BELL_STATUS_INSTALL_ID id).p F.BELL_STATUS_KIND kind).p F.BELL_STATUS_INSTALL_STATE 1).p
      F.BELL_STATUS_PASS 0).p F.BELL_STATUS_PREPARED 0
    let s3 := (s2.p F.BELL_STATUS_EXPECTED targets.length).p F.BELL_ACT_ROUND_ROUND a
    let s4 := ((((s3.p F.BELL_EST_LOAD l).p F.BELL_EST_DEPTH d).p F.BELL_EST_GAP_US g).p F.BELL_EST_H h).p F.BELL_EST_E e
    let s5 := segs.foldl (fun (t : State) x => t.wr .BELL_AGENT 0 x.1
      (BitVec.ofNat 64 ((x.2 + c) % 256 * 65536 + (x.2 + c) % 256 * 2 ^ 24))) (s4.rstAll .BELL_AGENT)
    let s6 := s5.bump .BELL_COUNT 0 0 (segs.foldl (fun n x => n + x.2) c)
    (s6.sendAll p i a).moveRounds a

/-- A plan, repair or completion install is in progress. -/
def installing (s : State) : Bool := s.bell.install.isSome

/-- The commit point of the install in progress has passed (INSTALL_STATE COMMITTED). -/
def committed (s : State) : Bool := s.g F.BELL_STATUS_INSTALL_STATE == 5

/-- The install is over: nothing of it stays at Varlor. -/
def endInstall (s : State) : State :=
  let s1 := { s with bell := { s.bell with install := none } }
  (s1.p F.BELL_STATUS_INSTALL_STATE 0).p F.BELL_ACT_ROUND_ROUND 0

/-- Copies of an ACTIVATE frame in a number of rounds: one in every table slot (R109); a DISCARD takes two table slots (R115). -/
def activateCopies (s : State) (discard : Bool) (rounds : Nat) : Nat := if discard then 2 else rounds * (s.linkFigures.1 / 45)

/-- ACTIVATE is sent to every target that the install tree reaches, with the number of its copies in so many rounds (R109,
Table 4.11). -/
def sendActivate (s : State) (i : Install) (a : Nat) (discard : Bool) (held fence : List Nat) (rounds : Nat) : State :=
  let bitmap := (List.range 512).map (fun b => BitVec.ofNat 8 (maskOf ((List.range 8).filter (fun k => held.contains (8 * b + k)))))
  (i.targets.filter (fun n => (s.treeRoute n).isSome)).foldl (fun (t : State) n =>
    t.emit .activateFrame n (s.activateCopies discard rounds)
      ([i.id, (if discard then 1 else 0), a, min 32 fence.length] ++ fence.take 32) bitmap) s

/-- R115: an install before its commit point is cancelled with DISCARD. -/
def cancelInstall (s : State) : State :=
  match s.bell.install with
  | none => s
  | some i => (((s.sendActivate i (s.g F.BELL_ACT_ROUND_ROUND) true [] [] 2).endInstall).raise F.BELL_EVENT_INSTALL_CANCELLED 0 1).count
      .BELL_COUNT 4

/-- Table 2.20: an armed plan returns to ADMITTED with a reason, and its install is cancelled. -/
def cancelActivation (s : State) (reason : Nat) : State :=
  if s.g F.PLAN_STATUS_STAGED_STATE = 5 then
    let s1 := (s.p F.PLAN_STATUS_STAGED_STATE 3).p F.PLAN_STATUS_CANCEL_REASON reason
    if s1.bell.install.any (fun i => i.kind == 0) then s1.cancelInstall else s1
  else s

/-- Targets of a plan install: every placed element but those FENCED. -/
def planTargets (s : State) : List Nat := s.boundNodes.filter (fun n => s.gi F.DISC_NODE_CLASS n != 4)

/-- R114: agents that carry a slot of a held cupola, in either bank. -/
def heldTargets (s : State) (held : List Nat) : List Nat :=
  let new := match s.plan.cur with | some p => p.tables | none => s.tables
  s.boundNodes.filter (fun n => held.any (fun c =>
    (new.portsOf (s.logical n)).any (fun q => ownsSlot q c) || (s.tables.portsOf (s.logical n)).any (fun q => ownsSlot q c)))

/-- The cupolas that BELL_HELD marks. -/
def heldCupolas (s : State) : List Nat :=
  (s.listed .BELL_HELD).flatMap (fun e => (bitsOf 64 e.2.toNat).map (fun b => 64 * e.1 + b))

/-- BELL_HELD and INSTALL_HELD are set for a set of cupolas, and clear for all others (R111, R114). -/
def setHeld (s : State) (held : List Nat) : State :=
  let s1 := s.heldCupolas.foldl (fun (t : State) c => t.pi F.CUP_ENTRY_INSTALL_HELD c 0) s
  let s2 := (List.range 64).foldl (fun (t : State) i =>
    t.wr .BELL_HELD 0 i (BitVec.ofNat 64 (maskOf ((held.filter (fun c => c / 64 == i)).map (fun c => c % 64))))) s1
  held.foldl (fun (t : State) c => t.pi F.CUP_ENTRY_INSTALL_HELD c 1) s2

/-- A completion install (R114): the current plan's tables for the held cupolas. -/
def startCompletion (s : State) : State :=
  let held := s.heldCupolas
  match s.plan.cur with
  | none => s
  | some p =>
    let b := changedBound s.tables p.tables
    let s1 := { s with bell := { s.bell with completionDue := false } }
    s1.startInstall 2 p.tables (s1.heldTargets held) held false 0 (s.round + 1) (fun q e => q + e + max 2 b)

/-- COMPLETION_INSTALL_START (R114): in the round after A, when no other install is in progress. -/
def completionInstallStart (s : State) : State :=
  if s.bell.completionDue && decide (s.bell.recentAt < s.round) && !s.installing && s.b F.BELL_STATUS_HELD then
    match s.plan.cur with
    | none => s
    | some p =>
      let b := changedBound s.tables p.tables
      let held := s.heldCupolas
      let s1 := { s with bell := { s.bell with completionDue := false } }
      s1.startInstall 2 p.tables (s1.heldTargets held) held false 0 s.round (fun q e => q + e + max 2 b)
  else s

/-- RETRY_HELD (R114). -/
def retryHeld (s : State) : State :=
  if s.heldCupolas.isEmpty || s.installing then s.err Status.state 0 else s.startCompletion.ok

/-- FENCE_NODE (R114): the element that plays a logical node of this spire is marked for the next commit point. -/
def fenceNode (s : State) : State :=
  let n := s.g F.BELL_ARG_ARG
  let pos := match s.plan.cur with | some p => playerOf p s.tables n | none => localOf n
  if n / 512 = s.spire && s.placedAt pos then
    ({ s with bell := { s.bell with fenceMarks := addOnce pos s.bell.fenceMarks } }).ok
  else s.err Status.value 0

/-- A single-agent install for one element (R115): its tables with an activation round named at its receipt. -/
def singleAgentInstallStart (s : State) (node : Nat) : State :=
  if s.installing || !s.bell.single.contains node then s
  else
    let s1 := { s with bell := { s.bell with single := s.bell.single.filter (fun n => n != node) } }
    s1.startInstall 3 s.tables [node] [] false 0 s.round (fun _ _ => 0)

/-- An element is to receive its tables by single-agent install (R87, R110, R111). -/
def wantSingle (s : State) (node : Nat) : State :=
  { s with bell := { s.bell with single := addOnce node s.bell.single } }

-- Receipts and phases

/-- The target that a receipt comes from: the element that plays its node under the tables in force, or, where that is no
target, the one that the install gives this node. -/
def receiptFrom (s : State) (i : Install) (logical : Nat) : Option Nat :=
  match s.planFor i.kind with
  | none => none
  | some p =>
    let old := playerOf p s.tables logical
    if logical / 512 ≠ s.spire then none
    else if s.bell.tables.isSome && i.targets.contains old then some old
    else i.targets.find? (fun n => s.logical (roleOf p i.tables n) == logical)

/-- RECEIPT (R106): recorded in BELL_AGENT; a PREPARED receipt of a single-agent install names its activation round. -/
def receipt (s : State) (r : Receipt) : State :=
  match s.bell.install with
  | none => s
  | some i =>
    match s.receiptFrom i r.node with
    | none => s
    | some n =>
    if !r.crcOk || r.installId != i.id then s
    else
      let segs := s.gi F.BELL_AGENT_SEGMENTS n
      let missing := (List.range segs).filter (fun k => !hasBit r.bitmap k)
      let i1 := { i with lacks := i.lacks.map (fun x => if x.node == n then { x with missing := missing } else x) }
      let s1 := ({ s with bell := { s.bell with install := some i1 } }).count .BELL_COUNT 2
      let s2 := ((s1.pi F.BELL_AGENT_STATE n r.state).pi F.BELL_AGENT_REFUSAL n r.refusal).pi F.BELL_AGENT_MISSING n missing.length
      let s3 := s2.p F.BELL_STATUS_PREPARED (i.targets.filter (fun m => isPrepared (s2.gi F.BELL_AGENT_STATE m))).length
      let s4 := if r.state = 3 then s3.raise F.BELL_EVENT_REFUSED n r.refusal else s3
      if i.kind = 3 && r.state = 2 && s4.g F.BELL_ACT_ROUND_ROUND = 0 then
        let a := s.round + 2
        let t := (s4.p F.BELL_ACT_ROUND_ROUND a).p F.BELL_STATUS_INSTALL_STATE 5
        (t.sendActivate i1 a false [] [] 2).moveRounds a
      else s4

/-- Every missing segment is sent again to the agents whose last receipt lacks it (R107). -/
def resend (s : State) (i : Install) : State :=
  match s.planFor i.kind with
  | none => s
  | some p =>
    let l := i.lacks.filter (fun x => !x.missing.isEmpty && !isPrepared (s.gi F.BELL_AGENT_STATE x.node))
    l.foldl (fun (t : State) x =>
      x.missing.foldl (fun (t : State) k => (t.sendSegment p i (s.g F.BELL_ACT_ROUND_ROUND) x.node k).count .BELL_COUNT 1) t) s

/-- The next retransmission pass begins, or the install waits for its commit point (R107). A single-agent install whose agent never
returns PREPARED has no activation round, and the spec gives it no end: it stays in progress. DESIGN CHOICE (log entry 128). -/
def nextPass (s : State) (i : Install) : State :=
  if s.g F.BELL_STATUS_PASS < s.passesOf i.kind then
    let i1 := { i with phaseEnd := s.round + 2 * i.h + 1 }
    let s1 := { s with bell := { s.bell with install := some i1 } }
    (s1.resend i1).p F.BELL_STATUS_INSTALL_STATE 3
  else s.p F.BELL_STATUS_INSTALL_STATE 4

/-- The receipt that an agent returns now (Table 4.8). -/
def heldReceipt (s : State) (node : Nat) : Receipt :=
  ⟨s.ga F.AG_INSTALL_INSTALL_ID node 0, s.receiptNode node, s.ga F.AG_INSTALL_STATE node 0, s.ga F.AG_INSTALL_REFUSAL node 0,
    s.ga F.AG_INSTALL_TABLE node 0, s.ga F.AG_NODE_EPOCH node 0,
    s.ga F.AG_INSTALL_MAP_MAP node 0 + 2 ^ 64 * s.ga F.AG_INSTALL_MAP_MAP node 1, true⟩

/-- The agents that still lack segments return a receipt at the end of a collection phase (R106); from an agent whose uplink is up
it reaches Varlor before the phase is over. DESIGN CHOICE (log entry 129). -/
def lateReceipts (s : State) (i : Install) : State :=
  (i.targets.filter (fun n => s.ga F.AG_INSTALL_STATE n 0 == 1 && s.ga F.AG_INSTALL_INSTALL_ID n 0 == i.id
      && (List.range 16).any (fun q => s.isUplink n q && s.portUp n q))).foldl
    (fun (t : State) n => t.receipt (t.heldReceipt n)) s

/-- The install in progress, moved on by `f`. -/
def withInstall (s : State) (f : State → Install → State) : State := match s.bell.install with | some i => f s i | none => s

/-- INSTALL_COLLECTION_END (R107): the send phase gives way to collection, and collection to the first pass. -/
def collectionEnd (s : State) : State :=
  match s.bell.install with
  | none => s
  | some i =>
    if s.round < i.phaseEnd then s
    else if s.g F.BELL_STATUS_INSTALL_STATE = 1 then
      let i1 := { i with phaseEnd := i.first + i.s + i.h + 1 }
      ({ s with bell := { s.bell with install := some i1 } }).p F.BELL_STATUS_INSTALL_STATE 2
    else if s.g F.BELL_STATUS_INSTALL_STATE = 2 then (s.lateReceipts i).withInstall nextPass
    else s

/-- RETRANSMISSION_PASS_END (R107). -/
def passEnd (s : State) : State :=
  match s.bell.install with
  | none => s
  | some i =>
    if s.g F.BELL_STATUS_INSTALL_STATE = 3 && i.phaseEnd ≤ s.round then
      let s1 := (s.lateReceipts i).p F.BELL_STATUS_PASS (s.g F.BELL_STATUS_PASS + 1)
      s1.withInstall nextPass
    else s

-- The commit point

/-- A cupola's policy on stragglers: its template fences (R111). -/
def fencesStragglers (p : Plan) (c : Nat) : Bool :=
  match p.templateOf c with
  | some t => t.fence
  | none => false

/-- What the commit point decides (R111 to R114, R116): stragglers, fenced ones and the hold set. -/
def commitDecision (s : State) (p : Plan) (i : Install) : List Nat × List Nat × List Nat :=
  let old := s.tables
  let late := i.targets.filter (fun n => !isPrepared (s.gi F.BELL_AGENT_STATE n))
  let cups := unionL old.cupolas i.tables.cupolas
  let all (n : Nat) : List Nat := cups.filter (fun c => affects p old i.tables c (s.logical n) && (i.kind != 2 || i.cupolas.contains c))
  let fence (n : Nat) : Bool := !(all n).isEmpty &&
    (i.kind == 1 || s.bell.fenceMarks.contains n || (all n).all (fencesStragglers p))
  let fenced := late.filter fence
  let heldBy := late.filter (fun n => !fence n && !(all n).isEmpty)
  let peer := s.bell.peerReports.flatMap (fun r => r.2.2)
  let hold0 := unionL (heldBy.foldl (fun acc n => unionL acc (all n)) []) (peer.filter (fun c => cups.contains c))
  let hold1 := if !heldBy.isEmpty && commonChanged old i.tables then cups else hold0
  (late, fenced, if i.kind = 1 then [] else closeHold old i.tables cups.length hold1)

/-- The fence list of an install: logical numbers of the roles that the fenced elements play, ascending (R113). -/
def fenceList (s : State) (i : Install) : List Nat :=
  match s.planFor i.kind with
  | some p => (i.fenced.map (fun n => s.logical (roleOf p s.tables n))).mergeSort
  | none => []

/-- R113: a straggler to be fenced beyond the 32 of the list has its neighbours' ports made dark by management access. -/
def darkNeighbours (s : State) (p : Plan) (node : Nat) : State :=
  ((p.neighbours (s.logical node)).filter (fun e => e.2.2.2 == 0)).foldl (fun (t : State) e =>
    t.portCfg (localOf e.2.1) e.2.2.1 0 true) s

/-- R25: an agent has refused a table in which a slot carries two owners (Table 4.10, code 2): the install activates nowhere. -/
def slotRefused (s : State) (i : Install) : Bool :=
  i.targets.any (fun n => s.gi F.BELL_AGENT_STATE n == 3 && s.gi F.BELL_AGENT_REFUSAL n == 2)

/-- What becomes of an install that R25 stops: an armed plan is ADMITTED again, with no CANCEL_REASON, since Table 2.20 lists none;
a repair is solved anew; a completion install is due again. DESIGN CHOICE (log entry 130). -/
def stopRefused (s : State) (i : Install) : State :=
  let t := s.cancelInstall
  if i.kind = 0 then (if t.g F.PLAN_STATUS_STAGED_STATE = 5 then t.p F.PLAN_STATUS_STAGED_STATE 3 else t)
  else if i.kind = 1 then
    if t.rep.chosen.isSome then ({ t with rep := { t.rep with chosen := none } }).p F.REP_STATUS_ENGINE 3 else t
  else { t with bell := { t.bell with completionDue := true } }

/-- The coordinator tells every peer spire of an installation-wide activation (R117): 1 names round A, 2 the cupolas held, 3
DISCARD. -/
def tellPeers (s : State) (p : Plan) (kind a : Nat) (held : List Nat) : State :=
  if !p.coordinatorFlag then s
  else (((p.peers.map (fun x => x.spire)).eraseDups).filter (fun q => q != s.spire)).foldl (fun (t : State) q =>
    t.send .installReport q kind (a :: held)) s

/-- R117: a change of round length that something would hold is given up; in an installation the coordinator names a new A, the
earliest that R107 allows, and the whole activation runs again. -/
def giveUpRound (s : State) (p : Plan) (i : Install) (a : Nat) : State :=
  let t := ((s.p F.PLAN_STATUS_STAGED_STATE 3).p F.PLAN_STATUS_CANCEL_REASON 4).cancelInstall
  let u := t.tellPeers p 3 a []
  if p.coordinatorFlag && !p.peers.isEmpty then
    let v := { u.p F.PLAN_STATUS_STAGED_STATE 5 with bell := { u.bell with peerReports := [], install := none } }
    let w := v.startInstall 0 i.tables v.planTargets [] false 0 (v.round + 1)
      (fun q e => q + e + max 2 (changedBound s.tables i.tables))
    (w.p F.PLAN_ACT_ROUND_ROUND (w.g F.BELL_ACT_ROUND_ROUND)).tellPeers p 1 (w.g F.BELL_ACT_ROUND_ROUND) []
  else u

/-- COMMIT_POINT (R68, R111 to R113, R117). -/
def commitPoint (s : State) : State :=
  match s.bell.install with
  | none => s
  | some i =>
    let a := s.g F.BELL_ACT_ROUND_ROUND
    if i.kind = 3 || s.committed || a = 0 || s.round + 2 < a then s
    else
      match s.planFor i.kind with
      | none => s
      | some p =>
        if s.slotRefused i then s.stopRefused i else
        let (late, fenced, held) := s.commitDecision p i
        let s1 := late.foldl (fun (t : State) n => (t.pi F.BELL_AGENT_STRAGGLER n 1).count .BELL_COUNT 5) s
        let s2 := if late.isEmpty then s1 else s1.raise F.BELL_EVENT_STRAGGLER 0 late.length
        let change := s.g F.PLAN_STATUS_STAGED_STATE == 5 && i.kind == 0 && i.tables.code != s.g F.BELL_STATUS_ROUND_CODE
        if change && !held.isEmpty then s2.giveUpRound p i a
        else
          let i1 := { i with fenced := fenced, held := held }
          let list := s.fenceList i1
          let s3 := { s2 with bell := { s2.bell with install := some i1, fenceMarks := [] } }
          let s4 := (list.drop 32).foldl (fun (t : State) n => t.darkNeighbours p (playerOf p s.tables n)) s3
          let s5 := (s4.sendActivate i1 a false held list 2).p F.BELL_STATUS_INSTALL_STATE 5
          if i.kind = 0 && s.g F.PLAN_STATUS_STAGED_STATE == 5 then s5.tellPeers p 2 a held else s5

/-- INSTALL_PEER_REPORT (R117): the coordinator records a peer's report. -/
def installPeerReport (s : State) (spire : Nat) (prepared : Bool) (held : List Nat) : State :=
  { s with bell := { s.bell with peerReports := s.bell.peerReports.filter (fun r => r.1 != spire) ++ [(spire, prepared, held)] } }

/-- INSTALL_REPORT_DEADLINE (R117): this Varlor reports by the end of A − 4; at the coordinator a peer that has not reported
holds every cupola that spans it, that is, whose flows use a link into that spire. -/
def reportDeadline (s : State) : State :=
  match s.bell.install with
  | none => s
  | some i =>
    if i.kind != 0 || s.committed || s.round + 4 < s.g F.BELL_ACT_ROUND_ROUND then s
    else
      match s.planFor 0 with
      | none => s
      | some p =>
        if p.coordinatorFlag then
          let peers := (p.peers.map (·.spire)).eraseDups.filter (fun q => !s.bell.peerReports.any (fun r => r.1 == q))
          let spans (q : Nat) : List Nat := i.tables.cupolas.filter (fun c =>
            p.links.any (fun l => l.bkind == 3 && l.b == q && i.tables.usesPort c l.a l.pa))
          peers.foldl (fun (t : State) q => t.installPeerReport q false (spans q)) s
        else
          let (late, _, held) := s.commitDecision p i
          s.send .installReport p.coordinator 0 ([if late.isEmpty then 1 else 0, late.length] ++ held)

end State

-- The meanings

/-- QUIESCE_FLOW (R101). -/
def execQuiesceFlow (s : State) : Host.Outcome State Fault Refusal := finish (s.stopFlow true)
/-- RESUME_FLOW (R101). -/
def execResumeFlow (s : State) : Host.Outcome State Fault Refusal := finish (s.stopFlow false)
/-- QUIESCE_DRAINED (R101). -/
def execQuiesceDrained (s : State) : Host.Outcome State Fault Refusal := finish s.quiesceDrained
/-- FENCE_NODE (R114). -/
def execFenceNode (s : State) : Host.Outcome State Fault Refusal := finish s.fenceNode
/-- RETRY_HELD (R114). -/
def execRetryHeld (s : State) : Host.Outcome State Fault Refusal := finish s.retryHeld
/-- COMMIT_POINT (R111). -/
def execCommitPoint (s : State) : Host.Outcome State Fault Refusal := finish s.commitPoint
/-- INSTALL_REPORT_DEADLINE (R117). -/
def execInstallReportDeadline (s : State) : Host.Outcome State Fault Refusal := finish s.reportDeadline
/-- INSTALL_PEER_REPORT (R117). -/
def execInstallPeerReport (spire : Nat) (prepared : Bool) (_stragglers : Nat) (held : List Nat) (s : State) :
    Host.Outcome State Fault Refusal := finish (s.installPeerReport spire prepared held)
/-- COMPLETION_INSTALL_START (R114). -/
def execCompletionInstallStart (s : State) : Host.Outcome State Fault Refusal := finish s.completionInstallStart
/-- SINGLE_AGENT_INSTALL_START (R115). -/
def execSingleAgentInstallStart (node : Nat) (s : State) : Host.Outcome State Fault Refusal :=
  finish (s.singleAgentInstallStart node)

end Sys2Proof.Machine
end

