-- ==== Sys2Proof/Machine/Numerics.lean ====
section
/-! DEFINITION. Numbers (R211, R226 to R233): the formats of Table 8.1 read exactly, rounded to nearest even or
stochastically, the MX block scales, fp64 comparison, the exact accumulator and int64 saturation. -/
namespace Sys2Proof.Machine

/-- What an element stands for: a dyadic number m × 2^e with its sign, Inf or NaN. -/
inductive FVal where
  | fin (neg : Bool) (m : Nat) (e : Int)
  | inf (neg : Bool)
  | nan (neg : Bool)
  deriving DecidableEq, Repr

/-- An element format (Table 8.1). `nanKind` 0: no NaN; 1: exponent all ones, mantissa non-zero; 2: S.1111.111 only. -/
structure Fmt where
  width : Nat
  ebits : Nat
  mbits : Nat
  bias : Nat
  inf : Bool
  nanKind : Nat
  /-- Elements under shared scales. -/
  mx : Bool
  /-- Two's complement with `mbits` fraction bits. -/
  int : Bool
  deriving DecidableEq, Repr

/-- fp64 (R227). -/
def Fmt.fp64 : Fmt := ⟨64, 11, 52, 1023, true, 1, false, false⟩

/-- R226: the format of a tag; tag 0 and a reserved tag have none. -/
def Fmt.ofTag (tag : Nat) : Option Fmt :=
  if tag = 0x10 then some ⟨32, 8, 23, 127, true, 1, false, false⟩
  else if tag = 0x11 then some ⟨16, 8, 7, 127, true, 1, false, false⟩
  else if tag = 0x12 then some ⟨16, 5, 10, 15, true, 1, false, false⟩
  else if tag = 0x20 then some ⟨8, 4, 3, 7, false, 2, false, false⟩
  else if tag = 0x21 then some ⟨8, 5, 2, 15, true, 1, false, false⟩
  else if tag = 0x30 then some ⟨8, 4, 3, 7, false, 2, true, false⟩
  else if tag = 0x31 then some ⟨8, 5, 2, 15, true, 1, true, false⟩
  else if tag = 0x32 then some ⟨6, 2, 3, 1, false, 0, true, false⟩
  else if tag = 0x33 then some ⟨6, 3, 2, 3, false, 0, true, false⟩
  else if tag = 0x34 then some ⟨4, 2, 1, 1, false, 0, true, false⟩
  else if tag = 0x35 then some ⟨8, 0, 6, 0, false, 0, true, true⟩
  else if tag = 0x40 then some ⟨8, 0, 0, 0, false, 0, false, true⟩
  else none

namespace Fmt

/-- R228: bytes of a block set, or of one element outside MX. -/
def unit (f : Fmt) : Nat := if f.mx then 8 + 32 * f.width else f.width / 8
/-- Elements in a unit. -/
def perUnit (f : Fmt) : Nat := if f.mx then 256 else 1
/-- The sign bit of an element's width. -/
def signBit (f : Fmt) : Nat := 2 ^ (f.width - 1)
/-- R237: the lowest bit of the high field: sign and exponent, or bits [7:5] of int8 and MXINT8. -/
def highBit (f : Fmt) : Nat := if f.int then 5 else f.mbits

/-- The value of an element pattern (Table 8.1). -/
def read (f : Fmt) (x : Nat) : FVal :=
  let x := x % 2 ^ f.width
  if f.int then
    if x < f.signBit then .fin false x (-(f.mbits : Int)) else .fin true (2 ^ f.width - x) (-(f.mbits : Int))
  else
    let neg := decide (f.signBit ≤ x)
    let ex := x / 2 ^ f.mbits % 2 ^ f.ebits
    let man := x % 2 ^ f.mbits
    let top := 2 ^ f.ebits - 1
    if f.nanKind = 1 && ex = top then (if man = 0 then .inf neg else .nan neg)
    else if f.nanKind = 2 && ex = top && man = 2 ^ f.mbits - 1 then .nan neg
    else if ex = 0 then .fin neg man (1 - (f.bias : Int) - f.mbits)
    else .fin neg (2 ^ f.mbits + man) ((ex : Int) - f.bias - f.mbits)

/-- The pattern of the largest finite magnitude. -/
def maxFinite (f : Fmt) : Nat :=
  if f.int then f.signBit - 1
  else if f.nanKind = 1 then (2 ^ f.ebits - 1) * 2 ^ f.mbits - 1
  else if f.nanKind = 2 then f.signBit - 2
  else f.signBit - 1

/-- The sign bit in place. -/
def signed (f : Fmt) (neg : Bool) (mag : Nat) : Nat :=
  if f.int then (if neg then (2 ^ f.width - mag) % 2 ^ f.width else mag)
  else if neg then mag + f.signBit else mag

/-- The NaN of a format, none where it has none; which payload is left open (R231). -/
def nanPattern (f : Fmt) (neg : Bool) : Option Nat :=
  if f.nanKind = 1 then
    some (f.signed neg ((2 ^ f.ebits - 1) * 2 ^ f.mbits + 1 + Config.nanPayload f.mbits % (2 ^ f.mbits - 1)))
  else if f.nanKind = 2 then some (f.signed neg (f.signBit - 1))
  else none

end Fmt

/-- How to round: to nearest, ties to even (R231), or away from zero when a random number is below the discarded part
(R233). -/
inductive Rounding where
  | nearest
  | random (r : Nat)
  deriving DecidableEq, Repr

/-- The integer that m × 2^e rounds to. -/
def roundInt (rnd : Rounding) (m : Nat) (e : Int) : Nat :=
  if 0 ≤ e then m * 2 ^ e.toNat
  else
    let d := (-e).toNat
    let n := m / 2 ^ d
    let rest := m % 2 ^ d
    match rnd with
    | .nearest => if 2 ^ d < 2 * rest || (2 ^ d == 2 * rest && n % 2 == 1) then n + 1 else n
    | .random r => if r < rest * 2 ^ 16 / 2 ^ d then n + 1 else n

/-- ⌊log2⌋ of a non-zero dyadic number. -/
def log2Dyadic (m : Nat) (e : Int) : Int := (Nat.log2 m : Int) + e

namespace Fmt

/-- R231, R233: a value as an element pattern; `none` where the value has no pattern and the whole MX block becomes
NaN. -/
def write (f : Fmt) (rnd : Rounding) (v : FVal) : Option Nat :=
  match v with
  | .nan neg => f.nanPattern neg
  | .inf neg =>
    if f.inf then some (f.signed neg ((2 ^ f.ebits - 1) * 2 ^ f.mbits)) else f.nanPattern neg
  | .fin neg m e =>
    if m = 0 then some (f.signed neg 0)
    else if f.int then some (f.signed neg (min f.maxFinite (roundInt rnd m (e + f.mbits))))
    else
      let low : Int := 1 - f.bias
      let top := max (log2Dyadic m e) low
      let n := roundInt rnd m (e - (top - f.mbits))
      let code := (top - low).toNat * 2 ^ f.mbits + n
      if code ≤ f.maxFinite then some (f.signed neg code)
      else if f.inf then some (f.signed neg ((2 ^ f.ebits - 1) * 2 ^ f.mbits))
      else some (f.signed neg f.maxFinite)

end Fmt

-- fp64

/-- The value of an fp64 pattern. -/
def readF64 (x : Nat) : FVal := Fmt.fp64.read x
/-- An fp64 NaN. -/
def nanF64 : Nat := (Fmt.fp64.nanPattern false).getD 0
/-- The pattern of +Inf. -/
def infF64 : Nat := 0x7FF0000000000000
/-- A value rounded once to fp64. -/
def writeF64 (v : FVal) : Nat := (Fmt.fp64.write .nearest v).getD 0
/-- A count as fp64. -/
def natF64 (n : Nat) : Nat := writeF64 (.fin false n 0)

/-- A finite value scaled by 2^1074, in which every fp64 is an integer. -/
def scaled (neg : Bool) (m : Nat) (e : Int) : Int :=
  let n : Nat := m * 2 ^ (e + 1074).toNat
  if neg then -(n : Int) else n

/-- The scaled value of an fp64 pattern; Inf beyond every finite one. -/
def scaledF64 (x : Nat) : Int :=
  match readF64 x with
  | .fin neg m e => scaled neg m e
  | .inf neg => if neg then -(2 ^ 4096 : Nat) else (2 ^ 4096 : Nat)
  | .nan _ => 0

/-- An fp64 pattern is NaN. -/
def isNanF64 (x : Nat) : Bool := match readF64 x with | .nan _ => true | _ => false
/-- An fp64 pattern is Inf of a sign. -/
def isInfF64 (x : Nat) (neg : Bool) : Bool := match readF64 x with | .inf n => n == neg | _ => false

/-- Numerical order of two fp64 patterns, neither NaN. -/
def ltF64 (a b : Nat) : Bool := decide (scaledF64 a < scaledF64 b)

/-- The magnitude of an fp64 pattern. -/
def absF64 (x : Nat) : Nat := x % 2 ^ 63

/-- The fp64 nearest to n / d, d > 0: 64 quotient bits and a sticky bit decide the rounding. -/
def ratioF64 (n d : Nat) : Nat :=
  if n = 0 then 0
  else
    let k := 64 + Nat.log2 d + 1
    let q := n * 2 ^ k / d
    let sticky := if n * 2 ^ k % d = 0 then 0 else 1
    writeF64 (.fin false (2 * q + sticky) (-(k : Int) - 1))

/-- A sum in the exact accumulator (R211): the scaled finite sum and the special values seen. -/
structure Exact where
  sum : Int
  nan : Bool
  pinf : Bool
  ninf : Bool
  deriving DecidableEq, Repr

/-- Add an fp64 pattern to the accumulator. -/
def Exact.add (a : Exact) (x : Nat) : Exact :=
  match readF64 x with
  | .nan _ => { a with nan := true }
  | .inf neg => if neg then { a with ninf := true } else { a with pinf := true }
  | .fin neg m e => { a with sum := a.sum + scaled neg m e }

/-- Two accumulators added, as the coordinator does (R211). -/
def Exact.join (a b : Exact) : Exact := ⟨a.sum + b.sum, a.nan || b.nan, a.pinf || b.pinf, a.ninf || b.ninf⟩

/-- The accumulator rounded once (R211). -/
def Exact.round (a : Exact) : Nat :=
  if a.nan || (a.pinf && a.ninf) then nanF64
  else if a.pinf then infF64
  else if a.ninf then infF64 + 2 ^ 63
  else writeF64 (.fin (decide (a.sum < 0)) a.sum.natAbs (-1074))

/-- The sum of fp64 patterns, rounded once. -/
def sumF64 (xs : List Nat) : Nat := (xs.foldl Exact.add ⟨0, false, false, false⟩).round

/-- R211: fp64 max or min: NaN if any is NaN, −0 below +0. -/
def pickF64 (wantMax : Bool) (a b : Nat) : Nat :=
  if isNanF64 a || isNanF64 b then nanF64
  else
    let less := ltF64 a b || (!ltF64 b a && decide (2 ^ 63 ≤ a) && decide (b < 2 ^ 63))
    if less == wantMax then b else a

/-- An int64 sum with saturation (R211): the pattern, and whether it saturated. -/
def satI64 (sum : Int) : Nat × Bool :=
  let hi : Int := (2 ^ 63 : Nat) - 1
  let lo : Int := -(2 ^ 63 : Nat)
  if hi < sum then (2 ^ 63 - 1, true) else if sum < lo then (2 ^ 63, true) else (toField 64 sum, false)

-- Elements in bytes

/-- Elements of `w` bits packed little-endian (R229). -/
def unpack (w : Nat) (bs : Bytes) (n : Nat) : List Nat :=
  let whole := leNat bs
  (List.range n).map (fun i => whole / 2 ^ (w * i) % 2 ^ w)

/-- Pack elements of `w` bits. -/
def pack (w : Nat) (xs : List Nat) : Bytes :=
  leBytes (w * xs.length / 8) ((List.range xs.length).zip xs |>.foldl (fun a e => a + e.2 % 2 ^ w * 2 ^ (w * e.1)) 0)

/-- `n` consecutive pieces of `len` bytes. -/
def pieces (len : Nat) : Nat → Bytes → List Bytes
  | 0, _ => []
  | n + 1, bs => bs.take len :: pieces len n (bs.drop len)

/-- The 8 blocks of a block set (R228): scale byte and 32 elements each. -/
def blocks (f : Fmt) (set : Bytes) : List (Nat × List Nat) :=
  let per := 4 * f.width
  ((set.take 8).zip (pieces per 8 (set.drop 8))).map (fun e => (e.1.toNat, unpack f.width e.2 32))

/-- The elements of bytes that hold whole units: plain elements, or those of every block of every set. -/
def elementsOf (f : Fmt) (bs : Bytes) : List Nat :=
  if f.mx then ((pieces f.unit (bs.length / f.unit) bs).map (fun x => ((blocks f x).map Prod.snd).flatten)).flatten
  else unpack f.width bs (bs.length / f.unit)

/-- A value scaled by a block's scale byte (E8M0). -/
def underScale (scale : Nat) (v : FVal) : FVal :=
  if scale = 0xFF then .nan false
  else
    match v with
    | .fin neg m e => .fin neg m (e + scale - 127)
    | w => w

/-- R230: the pairs of Table 8.2. -/
def legalPair (src dst : Nat) : Bool :=
  let mx := decide (0x30 ≤ dst) && decide (dst ≤ 0x35)
  (src == 0x10 && (dst == 0x11 || dst == 0x12 || dst == 0x20 || dst == 0x21 || mx)) ||
  ((src == 0x11 || src == 0x12) && (dst == 0x20 || dst == 0x21 || mx))

/-- R232: emax of an MX element format. -/
def emaxOf (tag : Nat) : Int :=
  if tag = 0x30 then 8 else if tag = 0x31 then 15 else if tag = 0x32 then 2 else if tag = 0x33 then 4
  else if tag = 0x34 then 2 else 0

/-- R232: the scale byte of a block: from the largest finite magnitude. -/
def scaleByte (tag : Nat) (vs : List FVal) : Nat :=
  let lead := vs.filterMap (fun v => match v with
    | .fin _ m e => if m = 0 then none else some (log2Dyadic m e)
    | _ => none)
  match lead with
  | [] => 0
  | x :: xs => (min 254 (max 0 (xs.foldl max x - emaxOf tag + 127))).toNat

/-- R233: the 16 random bits of an element. -/
def randomBits (seed tensor element : Nat) : Nat :=
  leNat (shake128 2 (leBytes 8 seed ++ leBytes 2 tensor ++ leBytes 8 element))

/-- The rounding of one element under a rule byte. -/
def roundingOf (stochastic : Bool) (seed tensor element : Nat) : Rounding :=
  if stochastic then .random (randomBits seed tensor element) else .nearest

/-- One MX block of 32 values: scale byte and elements; a value without a pattern makes the scale 0xFF (R231). -/
def writeBlock (tag : Nat) (f : Fmt) (rnd : Nat → Rounding) (vs : List FVal) : Nat × List Nat :=
  let scale := scaleByte tag vs
  let ps := ((List.range vs.length).zip vs).map (fun e =>
    match e.2 with
    | .fin neg m ex => f.write (rnd e.1) (.fin neg m (ex - ((scale : Int) - 127)))
    | v => f.write (rnd e.1) v)
  if ps.any Option.isNone then (0xFF, ps.map (·.getD 0)) else (scale, ps.map (·.getD 0))

/-- A list padded with zero values to a multiple of `n` (R228). -/
def padValues (n : Nat) (vs : List FVal) : List FVal :=
  vs ++ List.replicate ((n - vs.length % n) % n) (.fin false 0 0)

/-- Consecutive groups of `n` of a list. -/
def groupsOf {α : Type} (n : Nat) : Nat → List α → List (List α)
  | 0, _ => []
  | k + 1, xs => xs.take n :: groupsOf n k (xs.drop n)

/-- R218, R230 to R233: a tensor's bytes transcoded; `first` is the number of its first element. -/
def transcode (src dst : Nat) (stochastic : Bool) (seed tensor first : Nat) (bs : Bytes) : Bytes :=
  match Fmt.ofTag src, Fmt.ofTag dst with
  | some f, some g =>
    let vs := (elementsOf f bs).map f.read
    if g.mx then
      let ws := padValues 256 vs
      let bl := groupsOf 32 (ws.length / 32) ws
      let out := ((List.range bl.length).zip bl).map (fun e =>
        writeBlock dst g (fun i => roundingOf stochastic seed tensor (first + 32 * e.1 + i)) e.2)
      ((groupsOf 8 (out.length / 8) out).map (fun set =>
        (set.map (fun b => BitVec.ofNat 8 b.1)) ++ (set.map (fun b => pack g.width b.2)).flatten)).flatten
    else
      pack g.width (((List.range vs.length).zip vs).map (fun e =>
        (g.write (roundingOf stochastic seed tensor (first + e.1)) e.2).getD 0))
  | _, _ => bs

end Sys2Proof.Machine
end

