-- ==== Sys2Proof/Machine/Guard.lean ====
section
/-! DEFINITION. What the guardian is built from (chapter 6): the field GF(2^8) and the Cauchy code (R153 to R156), guard
groups with their regions, buffers and parity blocks (R150, R151, R161), the guardian's words (R169) and the sub-items
that carry guardian items out (R189). -/
namespace Sys2Proof.Machine

-- The field and the code

/-- R153: the product of two field elements, by shifting and adding. -/
def gfMulN : Nat → Nat → Nat → Nat
  | 0, _, _ => 0
  | n + 1, a, b =>
    let a2 := if a < 128 then 2 * a else Nat.xor (2 * a) 0x11D
    Nat.xor (if b % 2 = 1 then a else 0) (gfMulN n a2 (b / 2))

/-- R153: a·b in GF(2^8) modulo 0x11D. -/
def gfMul (a b : Nat) : Nat := gfMulN 8 (a % 256) (b % 256)

/-- R153: the inverse of a non-zero element. -/
def gfInv (a : Nat) : Nat := ((List.range 256).find? (fun b => gfMul a b == 1)).getD 0

/-- R154: c[j][i] = inverse(x_j XOR y_i), with x_j = j and y_i = 3 + i. -/
def coef (j i : Nat) : Nat := gfInv (Nat.xor j (3 + i))

/-- A constant times every byte. -/
def gfScale (c : Nat) (bs : Bytes) : Bytes := bs.map (fun b => BitVec.ofNat 8 (gfMul c b.toNat))

/-- A row times a constant, added to another. -/
def rowAdd (c : Nat) (a b : List Nat) : List Nat := List.zipWith (fun x y => Nat.xor y (gfMul c x)) a b

/-- One column of Gauss-Jordan elimination over the field: the pivot row is scaled and cleared from the others. -/
def gaussStep (col : Nat) (rows : List (List Nat)) : List (List Nat) :=
  match (rows.drop col).find? (fun r => r.getD col 0 != 0) with
  | none => rows
  | some p =>
    let piv := p.map (gfMul (gfInv (p.getD col 0)))
    let rest := rows.erase p
    let clear (r : List Nat) : List Nat := rowAdd (r.getD col 0) piv r
    (rest.take col).map clear ++ [piv] ++ (rest.drop col).map clear

/-- The solution rows of an e × e system: the inverse matrix, from [A | I]. -/
def gfInverse (a : List (List Nat)) : List (List Nat) :=
  let e := a.length
  let aug := ((List.range e).zip a).map (fun r => r.2 ++ (List.range e).map (fun j => if j = r.1 then 1 else 0))
  ((List.range e).foldl (fun rows c => gaussStep c rows) aug).map (fun r => r.drop e)

/-- XOR of a list of byte strings. -/
def xorAll (l : List Bytes) : Bytes := l.foldl xorBytes []

/-- R156: the shards of the erased members from the syndromes of the lanes: `lanes` and `erased` have one length. -/
def gfDecode (lanes erased : List Nat) (syndromes : List Bytes) : List Bytes :=
  (gfInverse (lanes.map (fun j => erased.map (coef j)))).map (fun row =>
    xorAll (List.zipWith gfScale row syndromes))

-- Guardian words (Table 6.7) and item types (Table 6.5)
namespace GWord
abbrev sealing : Nat := 0x40
abbrev sealAck : Nat := 0x41
abbrev rollback : Nat := 0x42
abbrev rollbackDone : Nat := 0x43
abbrev resend : Nat := 0x44
abbrev sendDeltas : Nat := 0x45
abbrev sendUndo : Nat := 0x46
abbrev sendShard : Nat := 0x47
abbrev resume : Nat := 0x48
abbrev release : Nat := 0x49
end GWord

namespace GType
abbrev delta : Nat := 0x30
abbrev gend : Nat := 0x31
abbrev sample : Nat := 0x32
abbrev shard : Nat := 0x33
abbrev rebuilt : Nat := 0x34
abbrev undo : Nat := 0x35
abbrev weights : Nat := 0x36
end GType

/-- Bytes 0x00 to 0x3B of a guardian item header (Table 6.4): flags and step with their reserved bits, and the reserved bytes. -/
def itemHeader (type flags fmt group member tensor step off len count check tensorOff rest : Nat) : Bytes :=
  leBytes 2 type ++ leBytes 1 flags ++ leBytes 1 fmt ++ leBytes 1 group ++ leBytes 1 member ++ leBytes 2 tensor ++ leBytes 8 step
    ++ leBytes 8 off ++ leBytes 4 len ++ leBytes 4 count ++ leBytes 8 check ++ leBytes 8 tensorOff ++ leBytes 12 rest

-- Group states and phases (Tables 6.1 and 6.2), reasons of HELD
namespace GState
abbrev unused : Nat := 0
abbrev idle : Nat := 1
abbrev exposed : Nat := 2
abbrev protectedS : Nat := 3
abbrev recovering : Nat := 4
abbrev held : Nat := 5
abbrev disabling : Nat := 6
abbrev disabled : Nat := 7
end GState

namespace GPhase
abbrev quiet : Nat := 0
abbrev ingest : Nat := 1
abbrev folded : Nat := 2
abbrev rollingBack : Nat := 3
abbrev reconstructing : Nat := 4
abbrev regenerating : Nat := 5
end GPhase

/-- A group as its record declares it: not bound (R152). -/
def Group.fresh (r : GuardRec) : Group :=
  { gid := r.gid, rcd := r, bound := false, job := 0, cupola := 0, current := [], parity := [], regions := [],
    items := [], progress := [], ends := [], samples := [], held := [], words := [], rollW := none,
    rollStarted := false, rollEnds := [], undoWant := [], undoCopies := [], shards := [], shardEnds := [],
    bytes := 0, checkOnly := 0, statsWait := none, evaluated := false, hold := false, resumeHeld := false, disableAt := none,
    before := 0, releaseDue := none, stopped := false, lentDue := [], next := none, epoch := 0 }

namespace Group

/-- Nothing of the step in progress is left: after a seal, a rollback or a regeneration. -/
def clearStep (g : Group) : Group :=
  { g with regions := [], items := [], progress := [], ends := [], samples := [], held := [], rollW := none,
           rollStarted := false, rollEnds := [], undoWant := [], undoCopies := [], bytes := 0, checkOnly := 0, statsWait := none,
           evaluated := false, hold := false, stopped := false, epoch := 0 }

/-- R151: regions of the shard. -/
def count (g : Group) : Nat := ceilDiv g.rcd.shard (max 1 g.rcd.region)
/-- R151: bytes of a region; the last may be short. -/
def span (g : Group) (r : Nat) : Nat := min g.rcd.region (g.rcd.shard - r * g.rcd.region)
/-- The region of a shard offset. -/
def regionOf (g : Group) (off : Nat) : Nat := off / max 1 g.rcd.region
/-- Lanes that the record places, by number. -/
def lanes (g : Group) : List Nat := (List.range 3).filter (fun j => g.rcd.lanes.getD j 0 != 0)
/-- The peer spire that holds a lane, `none` for a local one. -/
def peer (g : Group) (lane : Nat) : Option Nat :=
  let b := g.rcd.lanes.getD lane 0
  if 0x80 ≤ b then some (b - 0x80) else none

/-- RECON_STAGE bytes that a group's spilled regions take: the accumulations of every lane (R163). -/
def spillSize (g : Group) (r : Nat) : Nat := g.lanes.length * g.span r
def spillBytes (g : Group) : Nat := (g.regions.filter (·.spilled)).foldl (fun n b => n + g.spillSize b.region) 0

/-- The parity block of a lane and region; zeros where nothing has been folded. -/
def block (g : Group) (lane r : Nat) : Bytes :=
  match g.parity.find? (fun b => b.lane == lane && b.region == r) with
  | some b => b.block
  | none => zeros (g.span r)

/-- A parity block replaced. -/
def setBlock (g : Group) (lane r : Nat) (bs : Bytes) : Group :=
  { g with parity := (g.parity.filter (fun b => !(b.lane == lane && b.region == r))) ++ [⟨lane, r, bs⟩] }

/-- A lane forgotten: it is no longer current and its blocks are gone. -/
def dropLane (g : Group) (lane : Nat) : Group :=
  { g with current := g.current.filter (fun j => j != lane), parity := g.parity.filter (fun b => b.lane != lane) }

/-- The buffers of a region in progress, empty where none is kept yet. -/
def buffer (g : Group) (r : Nat) : RegionBuf :=
  match g.regions.find? (fun b => b.region == r) with
  | some b => b
  | none => ⟨r, g.lanes.map (fun j => ⟨j, zeros (g.span r)⟩), zeros (g.span r), false, false, false, [], []⟩

/-- The buffers of a region replaced. -/
def setBuffer (g : Group) (b : RegionBuf) : Group :=
  { g with regions := (g.regions.filter (fun x => x.region != b.region)) ++ [b] }

/-- R155, R161: δ of a member at an offset folded into a region's buffers and into its undo accumulator. -/
def foldDelta (g : Group) (member off : Nat) (d : Bytes) : Group :=
  let r := g.regionOf off
  let at_ := zeros (off - r * g.rcd.region) ++ d
  let b := g.buffer r
  g.setBuffer { b with
    bufs := b.bufs.map (fun x => { x with block := xorBytes x.block (gfScale (coef x.lane member) at_) })
    undo := xorBytes b.undo at_ }

/-- The accumulations of a region, of the lanes that `which` names, added to the current lanes' parity blocks (the
read-modify-write of R161, and of R173 when the region is rolled back). -/
def writeLanes (which : Nat → Bool) (g : Group) (b : RegionBuf) : Group :=
  (b.bufs.filter (fun x => which x.lane && g.current.contains x.lane)).foldl (fun h x =>
    h.setBlock x.lane b.region (xorBytes (h.block x.lane b.region) x.block)) g

/-- Every lane's accumulation of a region is added. -/
def writeRegion (g : Group) (b : RegionBuf) : Group := g.writeLanes (fun _ => true) b

/-- R164: one item's data is added to the local lanes at once: the read-modify-write of a group under direct fold. -/
def foldDirect (g : Group) (member off : Nat) (d : Bytes) : Group :=
  let r := g.regionOf off
  let at_ := zeros (off - r * g.rcd.region) ++ d
  (g.current.filter (fun j => (g.peer j).isNone)).foldl (fun h j =>
    h.setBlock j r (xorBytes (h.block j r) (gfScale (coef j member) at_))) g

/-- R171: the keepers of a region, without the lost members. -/
def keepers (g : Group) (lost : List Nat) (r : Nat) : List Nat :=
  let k := max 1 g.rcd.k
  ([r % k, (r + 1) % k].eraseDups).filter (fun i => !lost.contains i)

/-- R161: a member has delivered beyond the end of a region, or its END. -/
def passed (g : Group) (i r : Nat) : Bool :=
  g.ends.any (fun e => e.1 == i) || decide (lookupD g.progress i 0 > (r + 1) * g.rcd.region)

/-- R161: the region is complete; a region with a held item waits for it (R160). -/
def completeNow (g : Group) (r : Nat) : Bool :=
  (List.range g.rcd.k).all (fun i => g.passed i r) && !g.held.any (fun h => g.regionOf h.item.offset == r)

end Group

/-- The header check that an item must carry (R157). -/
def headerCheck (type : Nat) (it : GItem) : Nat :=
  crc32c (itemHeader type ((if it.rollback then 1 else 0) + (if it.resent then 2 else 0) + it.reserved % 64 * 4) it.fmt it.group
    it.member it.tensor (it.step + it.reserved / 64 % 2 ^ 16 * 2 ^ 48) it.offset it.payload.length it.count it.check it.tensorOffset
    (it.reserved / 2 ^ 22))

/-- R157: the header of a received item of a type is good: its reserved fields are zero and its CRC-32C agrees. -/
def headerOk (type : Nat) (it : GItem) : Bool := it.reserved == 0 && headerCheck type it == it.hdrCheck

/-- Members that a mask names. -/
def maskMembers (k mask : Nat) : List Nat := bitsOf k mask

namespace State

/-- R351, R353: late ciphertext is discarded and counted. -/
def lateFrames (s : State) (n : Nat) : State :=
  if n = 0 then s else (s.bump .KEY_COUNT 0 6 n).raise F.KEY_EVENT_KEY_LATE 0 n

/-- The group of an ID. -/
def group (s : State) (gid : Nat) : Option Group := s.grd.groups.find? (fun g => g.gid == gid)

/-- Change a group. -/
def updGroup (s : State) (gid : Nat) (f : Group → Group) : State :=
  { s with grd := { s.grd with groups := updWhere (fun g => g.gid == gid) f s.grd.groups } }

/-- GRD_GROUP fields of a group. -/
def gstate (s : State) (gid : Nat) : Nat := s.gi F.GRD_GROUP_STATE gid
def gphase (s : State) (gid : Nat) : Nat := s.gi F.GRD_GROUP_PHASE gid
/-- The recovery point p. -/
def recovery (s : State) (gid : Nat) : Nat := s.gi F.GRD_GROUP_STEP_RECOVERY gid
/-- W: written regions of the unsealed step (R161). -/
def watermark (s : State) (gid : Nat) : Nat := s.gi F.GRD_GROUP_PROG_WATERMARK gid
/-- Lost members (GRD_GROUP.LOST). -/
def lostOf (s : State) (g : Group) : List Nat := maskMembers g.rcd.k (s.gi F.GRD_GROUP_LOST g.gid)
/-- Members not lost. -/
def survivors (s : State) (g : Group) : List Nat :=
  (List.range g.rcd.k).filter (fun i => !(s.lostOf g).contains i)

def setPhase (s : State) (gid ph : Nat) : State := s.pi F.GRD_GROUP_PHASE gid ph

/-- A group's state changes; REASON is kept for HELD only. -/
def setGState (s : State) (gid st reason : Nat) : State :=
  (s.pi F.GRD_GROUP_STATE gid st).pi F.GRD_GROUP_REASON gid reason

/-- The current lanes of a group replaced; GRD_GROUP.LANES counts them. -/
def setCurrent (s : State) (gid : Nat) (l : List Nat) : State :=
  (s.updGroup gid (fun g => { g with current := l })).pi F.GRD_GROUP_LANES gid l.length

/-- Lost lanes of a group are no longer current. -/
def loseLanes (s : State) (gid : Nat) (l : List Nat) : State :=
  match s.group gid with
  | none => s
  | some g =>
    let g2 := l.foldl Group.dropLane g
    (s.updGroup gid (fun _ => g2)).pi F.GRD_GROUP_LANES gid g2.current.length

/-- GRD_SPILL: RECON_STAGE bytes held by spills (R163). -/
def showSpill (s : State) : State :=
  s.p F.GRD_SPILL_BYTES (s.grd.groups.foldl (fun n g => n + g.spillBytes) 0)

/-- R182: the exposure window: EXPOSED, an alarm, the event and a record of severity 5. -/
def expose (s : State) (gid : Nat) : State :=
  (((s.setGState gid GState.exposed 0).alarm 5 gid).raise F.GRD_EVENT_EXPOSED gid 1).eventRecord F.GRD_EVENT_EXPOSED 5 gid
    (leBytes 8 (s.rd .GRD_GROUP 0 gid).toNat)

/-- A group enters HELD with a reason. -/
def holdGroup (s : State) (gid reason : Nat) : State :=
  (s.setGState gid GState.held reason).raise F.GRD_EVENT_HELD gid reason

/-- The local node that plays a member's logical position. -/
def memberNode (s : State) (g : Group) (i : Nat) : Nat :=
  let n := g.rcd.members.getD i 0
  match s.plan.cur with
  | some p => playerOf p s.tables n
  | none => localOf n

/-- The member of a group whose position a local node plays. -/
def memberAt (s : State) (node : Nat) : Option (Group × Nat) :=
  s.grd.groups.findSome? (fun g =>
    ((List.range g.rcd.k).find? (fun i => s.memberNode g i == node)).map (fun i => (g, i)))

/-- Post a guardian word to a member (R169): mailbox 1 of its agent; a word with an answer is kept until it comes. -/
def guardWord (s : State) (gid member type payload : Nat) (kept : Bool) : State :=
  match s.group gid with
  | none => s
  | some g =>
    let s1 := s.post Party.agent (s.memberNode g member) 1 type payload
    if kept then
      s1.updGroup gid (fun g => { g with words :=
        (g.words.filter (fun w => !(w.type == type && w.member == member && w.payload == payload)))
          ++ [⟨type, member, payload, s.round, false⟩] })
    else s1

/-- Post a word to several members. -/
def guardWords (s : State) (gid : Nat) (members : List Nat) (type payload : Nat) (kept : Bool) : State :=
  members.foldl (fun (t : State) i => t.guardWord gid i type payload kept) s

/-- The answer to a kept word has come. -/
def answered (s : State) (gid member type : Nat) (p : Nat → Bool) : State :=
  s.updGroup gid (fun g => { g with words := g.words.filter (fun w => !(w.type == type && w.member == member && p w.payload)) })

/-- A kept word is outstanding. -/
def outstanding (g : Group) (member type : Nat) : Bool := g.words.any (fun w => w.type == type && w.member == member)

/-- The GUARD flow that Varlor sends to a member. -/
def guardFlowTo (s : State) (g : Group) (i : Nat) : Nat :=
  let n := g.rcd.members.getD i 0
  match s.plan.cur with
  | none => 0
  | some p => ((p.tables.flowsOf n).findSome? (fun e =>
      if feClass e = 2 && feEgress e = 31 && feVariant e = 0 then some (feFlow e) else none)).getD 0

/-- The cupola of a group is ACTIVE (R152). -/
def groupActive (s : State) (g : Group) : Bool := g.bound && s.cupState g.cupola == 3

/-- Varlor, as the source of a flow, starts an item in this round: the flow's drain bound counts from it (R100). -/
def startFlow (s : State) (flow : Nat) : State :=
  { s with bell := { s.bell with started := setKey s.bell.started flow s.round } }

/-- A guardian item leaves for an element (Table 6.4), with the header that R157 asks for: no flags, an opaque format, no tensor, no
count; its payload check is the CRC-64/XZ of the payload. The last field is the tag that its delivery receipt carries. DESIGN CHOICE
(log entry 143). -/
def sendItem (s : State) (node flow type group member step off tag : Nat) (payload : Bytes) : State :=
  let n := payload.length
  let check := crc64 payload
  (s.startFlow flow).emit .guardItem node flow
    [type, 0, 0, group, member, 0, step, off, n, 0, check, 0,
      crc32c (itemHeader type 0 0 group member 0 step off n 0 check 0 0), tag] payload

/-- The tag of a sub-item: its task's item ID and its sequence number (R189). -/
def subTag (s : State) (idx seq : Nat) : Nat := s.itemId idx * 2 ^ 32 + seq

/-- Bytes of a segment of a job table (R223). -/
def tableSpan (t : Task) (k : Nat) : Nat := min 4096 (t.param 8 4 - 4096 * k)

/-- Bytes of a sub-item. -/
def outLen (t : Task) (o : OutItem) : Nat := if o.kind = 4 then tableSpan t o.region else o.payload.length

/-- A sub-item leaves: a guardian item in its task's flow, an undo copy in the group's GUARD flow to the keeper (R171), the
accumulation of a lent lane over the peer ports (R184), or a segment of a job table (R223). -/
def sendSub (s : State) (t : Task) (o : OutItem) (tag : Nat) : State :=
  if o.kind = 4 then (s.startFlow t.flow).send .table o.node t.flow [t.param 0xC 4, o.region, o.offset, tableSpan t o.region, tag]
  else if o.kind = 3 then s.emit .laneAcc o.node o.group [o.member, o.region, tag] o.payload
  else if o.kind = 2 then
    let flow := match s.group o.group with | some g => s.guardFlowTo g o.member | none => t.flow
    s.sendItem o.node flow o.type o.group 0xFF o.step o.offset tag o.payload
  else
    s.sendItem o.node t.flow o.type o.group (if o.type = GType.weights then o.member else 0xFF) o.step o.offset tag o.payload

/-- R152: the guardian's work of a group waits while its cupola is not ACTIVE. -/
def subWaits (s : State) (t : Task) : Bool :=
  (t.kind == Kind.fold || t.kind == Kind.reconstruct || t.kind == Kind.regenerate)
    && (match s.group t.group with | some g => !s.groupActive g | none => true)

/-- R122: Varlor admits an item of its own only while its cupola is ACTIVE. -/
def subRefused (s : State) (t : Task) : Bool := t.cupola != 0 && s.cupState t.cupola != 3

/-- Issue the waiting sub-items of a task as its in-flight limit allows (R189); a STOPPING task issues none (R198), and one that is
refused at admission ends FAILED_POLICY (R122). -/
def pumpTask : Nat → Nat → State → State
  | 0, _, s => s
  | n + 1, idx, s =>
    match s.task idx, s.graph.outbox.find? (fun o => o.idx == idx) with
    | some t, some o =>
      if t.state == 3 && decide (t.inFlight.length < t.limit) && !s.subWaits t then
        let s1 := { s with graph := { s.graph with outbox := s.graph.outbox.erase o } }
        let x : SubItem := ⟨t.nextSeq, o.kind, o.node, outLen t o, false, o.member, o.region⟩
        let s2 := s1.updTask idx (fun t => { t with nextSeq := t.nextSeq + 1, subs := t.subs ++ [x] })
        if s.subRefused t then s2.endSubs idx [t.nextSeq] Fate.policy 3
        else pumpTask n idx (s2.sendSub t o (s.subTag idx t.nextSeq))
      else s
    | _, _ => s

/-- A task's sub-items leave as the limit allows. -/
def pump (s : State) (idx : Nat) : State := pumpTask (s.graph.outbox.length + 1) idx s

/-- A task's sub-items wait for their turn and leave as the limit allows. -/
def issueItems (s : State) (idx : Nat) (l : List OutItem) : State :=
  ({ s with graph := { s.graph with outbox := s.graph.outbox ++ l } } : State).pump idx

/-- A sub-item is confirmed: its bytes count, and the next leaves, or a STOPPING task of which nothing is in flight any more ends. The
bytes of a FOLD are those it has folded. -/
def subDone (s : State) (idx seq : Nat) : State :=
  match s.task idx with
  | none => s
  | some t =>
    match t.subs.find? (fun x => x.seq == seq) with
    | none => s
    | some x =>
      let left := t.subs.filter (fun y => y.seq != seq)
      let s1 := s.updTask idx (fun t => { t with
        subs := left, bytesDone := t.bytesDone + (if t.kind = Kind.fold then 0 else x.len) })
      if t.state = 4 && (left.filter (fun y => !y.done)).isEmpty then s1.stopTask idx Fate.cancelled 0 else s1.pump idx

/-- Every sub-item of a task has been issued and confirmed. -/
def subsOver (s : State) (idx : Nat) : Bool :=
  (match s.task idx with | some t => t.subs.isEmpty | none => true) && !s.graph.outbox.any (fun o => o.idx == idx)

/-- The running task of a kind for a group. -/
def groupTask (s : State) (kind gid : Nat) : Option Task :=
  s.graph.tasks.find? (fun t => t.kind == kind && t.group == gid && t.live)

/-- The task of a group that has a sub-item of a kind, part and region in flight, with its sequence number. -/
def subOf (s : State) (gid kind part region : Nat) : Option (Nat × Nat) :=
  (s.graph.tasks.filter (fun t => t.group == gid && t.live)).findSome? (fun t =>
    (t.subs.find? (fun x => x.kind == kind && x.part == part && x.region == region)).map (fun x => (t.idx, x.seq)))

/-- The plan under whose parameters a task finishes: that of the epoch in which it was admitted (Table 1.5). -/
def planAt (s : State) (epoch : Nat) : Option Plan :=
  (s.plan.cur.toList ++ s.plan.old).find? (fun p => p.tables.epoch == epoch) <|> s.plan.cur
def planOf (s : State) (t : Task) : Option Plan := s.planAt t.epoch

/-- The plan under whose parameters the step of a group in progress finishes (Table 1.5). -/
def foldPlan (s : State) (gid : Nat) : Option Plan :=
  match s.group gid with
  | some g => s.planAt g.epoch
  | none => s.plan.cur

/-- The first item of a step has come: the group is in INGEST, and the step goes by the current plan. -/
def enterIngest (s : State) (gid : Nat) : State :=
  if s.gphase gid = GPhase.quiet then
    (s.setPhase gid GPhase.ingest).updGroup gid (fun g => { g with epoch := s.g F.PLAN_EPOCH_CURRENT })
  else s

end State

end Sys2Proof.Machine
end

