-- ==== Sys2Proof/Machine/Sentinel.lean ====
section
/-! DEFINITION. The numerics sentinel (R235 to R249): what it reads out of folded items and samples, the metrics of
Table 8.6, rules and actions, and the words of a statistics block. -/
namespace Sys2Proof.Machine

/-- An empty statistics block. -/
def Stats.empty (group member tensor step : Nat) : Stats :=
  { group := group, member := member, tensor := tensor, step := step, reach := List.replicate 33 0,
    scaleReach := List.replicate 9 0, values := List.replicate 64 0, changed := 0, highField := 0, nan := 0, pinf := 0,
    ninf := 0, largest := 0, smallest := 0, sumSq := 0, analysed := 0, sampled := 0, flags := 0, haveSample := false }

/-- Flags of word 62: PARTIAL, SUMMARY_MISMATCH, SAMPLE_MISSING, SKIPPED; the highest action in bits [9:8]. -/
def Stats.flag (x : Stats) (bit : Nat) : Stats := { x with flags := setBit x.flags bit true }
/-- The highest action of the evaluation. -/
def Stats.action (x : Stats) (a : Nat) : Stats :=
  { x with flags := x.flags % 256 + max (x.flags / 256 % 4) a * 256 }

/-- Add one to a bin, saturating at 32 bits. -/
def binAdd (l : List Nat) (b : Nat) : List Nat := l.set b (sat 32 (l.getD b 0 + 1))

/-- R237: the bin of an element's delta: highest set bit plus one, 0 for none. -/
def reachBin (d : Nat) : Nat := if d = 0 then 0 else Nat.log2 d + 1

/-- R237: one element's delta counted. -/
def Stats.element (f : Fmt) (x : Stats) (d : Nat) (scaleChanged : Bool) : Stats :=
  { x with
    reach := binAdd x.reach (reachBin d)
    changed := x.changed + (if d = 0 then 0 else 1)
    highField := x.highField + (if d ≠ 0 && decide (f.highBit < reachBin d) then 1 else 0)
      + (if d ≠ 0 && scaleChanged then 1 else 0)
    analysed := x.analysed + 1 }

/-- R237: whole elements, or whole block sets, of a delta counted. -/
def Stats.delta (f : Fmt) (x : Stats) (bs : Bytes) : Stats :=
  if f.mx then
    (pieces f.unit (bs.length / f.unit) bs).foldl (fun x set =>
      (blocks f set).foldl (fun x b =>
        b.2.foldl (fun x d => x.element f d (b.1 != 0)) { x with scaleReach := binAdd x.scaleReach (reachBin b.1) }) x) x
  else (elementsOf f bs).foldl (fun x d => x.element f d false) x

/-- R239: the bin of a sampled value. -/
def valueBin (v : FVal) : Nat :=
  match v with
  | .fin _ m e => if m = 0 then 0 else (min 62 (max 1 (log2Dyadic m e + 32))).toNat
  | _ => 63

/-- R240: a sample contradicts the summary. -/
def contradicts (x : Stats) (v : FVal) : Bool :=
  match v with
  | .nan _ => x.nan == 0
  | .inf neg => if neg then x.ninf == 0 else x.pinf == 0
  | .fin neg m e =>
    let n := scaled neg m e
    decide (scaledF64 x.largest < n) || decide (n < scaledF64 x.smallest)

/-- R238: the samples of a payload past its summary: an MX sample is a scale byte and an element. -/
def samplesOf (f : Fmt) (bs : Bytes) (n : Nat) : List FVal :=
  if f.mx then
    (pieces 2 n bs).map (fun p => underScale (field p 0 1) (f.read (field p 1 1)))
  else (pieces (f.width / 8) n bs).map (fun p => f.read (leNat p))

/-- How many samples a tensor of `count` elements gives in a step (R238). -/
def sampleCount (count step : Nat) : Nat :=
  if count ≤ step % 256 then 0 else (count - step % 256 - 1) / 256 + 1

/-- Bytes of a sample (R238). -/
def Fmt.sampleBytes (f : Fmt) : Nat := if f.mx then 2 else f.width / 8

/-- R238 to R240: a SAMPLE payload counted. -/
def Stats.sample (f : Fmt) (x : Stats) (r : TensorRec) (step : Nat) (p : Bytes) : Stats :=
  let x := { x with nan := field p 0 8, pinf := field p 8 8, ninf := field p 0x10 8, largest := field p 0x18 8,
                    smallest := field p 0x20 8, sumSq := field p 0x28 8, haveSample := true }
  let vs := samplesOf f (p.drop 64) (min (sampleCount r.count step) ((p.length - 64) / f.sampleBytes))
  let x := { x with values := vs.foldl (fun l v => binAdd l (valueBin v)) x.values, sampled := vs.length }
  if vs.any (contradicts x) || field p 0x30 8 ≠ r.count then x.flag 1 else x

-- Metrics (Table 8.6)

/-- HIGH_REACH as numerator and denominator: 0 of 1 without a changed element. -/
def Stats.highReach (x : Stats) : Nat × Nat := if x.changed = 0 then (0, 1) else (x.highField, x.changed)

/-- MAX_DEV's largest magnitude. -/
def Stats.largestMag (x : Stats) : Nat :=
  if ltF64 (absF64 x.largest) (absF64 x.smallest) then absF64 x.smallest else absF64 x.largest

/-- R243: |log2(a / median)|: 0/0 deviates by 0, another zero term gives +Inf. -/
def logDev (a med : Nat) : Nat :=
  if absF64 a = 0 && absF64 med = 0 then 0
  else if absF64 a = 0 || absF64 med = 0 then infF64
  else Config.log2Ratio a med

/-- R243: the element at index ⌊(n − 1) / 2⌋ of a list sorted by `le`. -/
def median {α : Type} (le : α → α → Bool) (d : α) (l : List α) : α := (l.mergeSort le).getD ((l.length - 1) / 2) d

/-- Order of two ratios. -/
def leRatio (a b : Nat × Nat) : Bool := decide (a.1 * b.2 ≤ b.1 * a.2)

/-- A metric that compares members (Table 8.6). -/
def isComparison (m : Nat) : Bool := m == 4 || m == 5 || m == 6
/-- A metric that rests on samples (R248). -/
def isSampled (m : Nat) : Bool := m == 1 || m == 2 || m == 5 || m == 6 || m == 7

/-- The value of a metric of one member's block, as fp64, among the blocks that are compared (R243). -/
def metricOf (m : Nat) (all : List Stats) (x : Stats) : Nat :=
  if m = 1 then natF64 x.nan
  else if m = 2 then natF64 (x.pinf + x.ninf)
  else if m = 3 then ratioF64 x.highReach.1 x.highReach.2
  else if m = 4 then
    let a := x.highReach
    let b := median leRatio (0, 1) (all.map Stats.highReach)
    ratioF64 (max (a.1 * b.2) (b.1 * a.2) - min (a.1 * b.2) (b.1 * a.2)) (a.2 * b.2)
  else if m = 5 then logDev x.sumSq (median (fun a b => !ltF64 b a) 0 (all.map (·.sumSq)))
  else if m = 6 then logDev x.largestMag (median (fun a b => !ltF64 b a) 0 (all.map Stats.largestMag))
  else if hasBit x.flags 1 then natF64 1
  else 0

/-- R242: the rule triggers when the metric exceeds its threshold. -/
def exceeds (metric threshold : Nat) : Bool :=
  !isNanF64 metric && !isNanF64 threshold && ltF64 threshold metric

/-- R239, SEN_STAT: two 32-bit counts in one word. -/
def pairWord (l : List Nat) (i : Nat) : Word := BitVec.ofNat 64 (sat 32 (l.getD (2 * i) 0) + sat 32 (l.getD (2 * i + 1) 0) * 2 ^ 32)

/-- Word i of a statistics block (SEN_STAT). -/
def Stats.word (x : Stats) (i : Nat) : Word :=
  if i < 17 then pairWord x.reach i
  else if i < 22 then pairWord x.scaleReach (i - 17)
  else if i < 54 then pairWord x.values (i - 22)
  else BitVec.ofNat 64 (match i - 54 with
    | 0 => x.nan | 1 => x.pinf | 2 => x.ninf | 3 => x.largest | 4 => x.smallest | 5 => x.sumSq | 6 => x.analysed
    | 7 => x.sampled | 8 => x.flags | 9 => x.step | _ => 0)

namespace State

/-- The tensor record of a group, member and tensor index (Table 8.4). -/
def tensorRec (s : State) (gid member tensor : Nat) : Option TensorRec :=
  match s.foldPlan gid with
  | none => none
  | some p => p.tensors.find? (fun t => t.group == gid && t.tensor == tensor && (t.member == member || t.member == 0xFF))

/-- The template of a group's cupola sets SENTINEL (R235). -/
def sentinelOn (s : State) (g : Group) : Bool :=
  g.bound && (match (s.foldPlan g.gid).bind (fun p => p.templateOf g.cupola) with | some t => t.sentinel | none => false)

/-- Table 17.3: the SENTINEL region has lost bank groups, and the blocks that still fit in it. -/
def senShort (s : State) : Bool := s.pwr.regionLoss.contains 2
def senRoom (s : State) : Nat :=
  match s.plan.cur with
  | none => 0
  | some p => (p.sentinel * mib - 80 * mib * s.pwr.regionLoss.count 2 - 16 * p.rules.length) / 1024

/-- Change the block of a member and tensor in the step in progress, empty where there is none. -/
def updStats (s : State) (gid member tensor step : Nat) (f : Stats → Stats) : State :=
  let mine (x : Stats) : Bool := x.group == gid && x.member == member && x.tensor == tensor
  let held := s.sen.now.find? mine
  let old := held.getD (Stats.empty gid member tensor step)
  if held.isNone && s.senShort && decide (s.senRoom ≤ s.sen.now.length) then s else
  { s with sen := { s.sen with now := (s.sen.now.filter (fun x => !mine x)) ++ [f old] } }

/-- R235 to R237: a folded DELTA item is analysed. -/
def analyse (s : State) (g : Group) (it : GItem) : State :=
  match s.tensorRec g.gid it.member it.tensor with
  | none => s
  | some r =>
    if !s.sentinelOn g then s
    else if it.fmt ≠ r.fmt then (s.count .SEN_COUNT 4).raise F.SEN_EVENT_TAG_MISMATCH g.gid it.fmt
    else
      match Fmt.ofTag r.fmt with
      | none => s
      | some f =>
        let len := it.payload.length
        let size := if f.mx then ceilDiv r.count 256 * f.unit else r.count * f.unit
        let first := ceilDiv it.tensorOffset f.unit * f.unit
        let last := min (it.tensorOffset + len) size / f.unit * f.unit
        let n := last - first
        let bs := (it.payload.drop (first - it.tensorOffset)).take n
        let s1 := (s.bump .SEN_COUNT 0 0 n).bump .SEN_COUNT 0 3 (len - n)
        if r.flags % 2 = 0 then s1 else s1.updStats g.gid it.member it.tensor it.step (fun x => x.delta f bs)

/-- R238, R240: a SAMPLE item of the step in progress. -/
def takeSample (s : State) (g : Group) (it : GItem) : State :=
  match s.tensorRec g.gid it.member it.tensor with
  | none => s
  | some r =>
    match Fmt.ofTag r.fmt with
    | none => s
    | some f =>
      let s1 := s.updStats g.gid it.member it.tensor it.step (fun x => x.sample f r it.step it.payload)
      let x := (s1.sen.now.find? (fun x => x.group == g.gid && x.member == it.member && x.tensor == it.tensor)).getD
        (Stats.empty 0 0 0 0)
      let s2 := s1.bump .SEN_COUNT 0 1 x.sampled
      let s3 := s2.updGroup g.gid (fun g => { g with samples := addOnce (it.member, it.tensor) g.samples })
      if hasBit x.flags 1 then s3.raise F.SEN_EVENT_SUMMARY_MISMATCH g.gid it.member else s3

/-- Members and tensors that the plan's records declare for a group. -/
def tensorsOf (s : State) (g : Group) : List (Nat × TensorRec) :=
  match s.foldPlan g.gid with
  | none => []
  | some p => (p.tensors.filter (fun t => t.group == g.gid)).flatMap (fun t =>
      if t.member = 0xFF then (List.range g.rcd.k).map (fun i => (i, t)) else [(t.member, t)])

/-- R248: the SAMPLE items of the step that have not come. -/
def missingSamples (s : State) (g : Group) : List (Nat × Nat) :=
  if s.sentinelOn g then
    (s.tensorsOf g).filterMap (fun e =>
      if e.2.flags / 2 % 2 = 1 && !g.samples.contains (e.1, e.2.tensor) then some (e.1, e.2.tensor) else none)
  else []

/-- A rule of the SENTINEL section applies to a group and tensor. -/
def ruleFits (r : RuleRec) (gid tensor : Nat) : Bool :=
  (r.group == 0xFF || r.group == gid) && (r.tensor == 0xFFFF || r.tensor == tensor)

/-- R244: the record of a trigger: the rule record, member, tensor, step and metric value. -/
def triggerRecord (s : State) (r : RuleRec) (gid member tensor step metric : Nat) : State :=
  let body := [BitVec.ofNat 8 r.set, BitVec.ofNat 8 r.metric, BitVec.ofNat 8 r.action, BitVec.ofNat 8 r.group]
    ++ leBytes 2 r.tensor ++ [0, 0] ++ leBytes 8 r.threshold ++ leBytes 1 member ++ leBytes 2 tensor ++ leBytes 8 step
    ++ leBytes 8 metric
  ((s.count .SEN_COUNT 2).raise F.SEN_EVENT_TRIGGER gid r.metric).eventRecord F.SEN_EVENT_TRIGGER
    (s.sevOf (sourceOf F.SEN_EVENT_TRIGGER)) gid body

end State

/-- What an evaluation found: blocks with their flags, triggers as (rule, member, tensor, metric), comparisons skipped. -/
structure Verdict where
  blocks : List Stats
  triggers : List (RuleRec × Nat × Nat × Nat)
  skipped : Nat
  deriving DecidableEq, Repr

/-- R243, R248: one rule on the blocks of one tensor of a group; 0xFF names no member. -/
def judge (v : Verdict) (tensor : Nat) (sampleTensor : Bool) (r : RuleRec) : Verdict :=
  let mine := v.blocks.filter (fun x => x.tensor == tensor)
  let complete := mine.filter (fun x => x.haveSample || !sampleTensor)
  if r.metric = 8 then
    let norm := Config.sqrt64 (sumF64 ((mine.filter (·.haveSample)).map (·.sumSq)))
    if exceeds norm r.threshold then { v with triggers := v.triggers ++ [(r, 0xFF, tensor, norm)] } else v
  else if isComparison r.metric && decide (complete.length < 3) then
    { v with blocks := v.blocks.map (fun x => if x.tensor == tensor then x.flag 3 else x), skipped := v.skipped + 1 }
  else
    let use := if isComparison r.metric then complete
      else if isSampled r.metric then mine.filter (·.haveSample) else mine
    let hits := use.filterMap (fun x =>
      let m := metricOf r.metric complete x
      if exceeds m r.threshold then some (r, x.member, tensor, m) else none)
    { v with
      blocks := v.blocks.map (fun x =>
        if x.tensor == tensor && hits.any (fun h => h.2.1 == x.member) then x.action r.action else x)
      triggers := v.triggers ++ hits }

/-- R243: the rules of a set on the tensors of a group. -/
def judgeAll (gid : Nat) (tensors : List (Nat × Bool)) (rules : List RuleRec) (blocks : List Stats) : Verdict :=
  rules.foldl (fun v r =>
    tensors.foldl (fun v t => if State.ruleFits r gid t.1 then judge v t.1 t.2 r else v) v) ⟨blocks, [], 0⟩

namespace State

/-- R244: a member is marked suspect in SEN_SUSPECT, by its logical position. -/
def markSuspect (s : State) (g : Group) (member : Nat) : State :=
  let n := localOf (g.rcd.members.getD member 0)
  let w := s.gi F.SEN_SUSPECT_MARK (n / 64)
  ((s.pi F.SEN_SUSPECT_MARK (n / 64) (setBit w (n % 64) true)).count .SEN_COUNT 7).raise F.SEN_EVENT_SUSPECT n 1

/-- A logical position is marked suspect. -/
def suspect (s : State) (n : Nat) : Bool := hasBit (s.gi F.SEN_SUSPECT_MARK (localOf n / 64)) (localOf n % 64)

/-- R247: a mark is cleared. -/
def unmark (s : State) (n : Nat) : State :=
  s.pi F.SEN_SUSPECT_MARK (localOf n / 64) (setBit (s.gi F.SEN_SUSPECT_MARK (localOf n / 64)) (localOf n % 64) false)

/-- The highest action among the triggers that name a member. -/
def topAction (v : Verdict) (member : Nat) : Nat :=
  (v.triggers.filter (fun t => t.2.1 == member)).foldl (fun a t => max a t.1.action) 0

/-- R244: the records and the actions of an evaluation, the highest action once per member; whether a hold is asked
for. -/
def act (s : State) (g : Group) (step : Nat) (v : Verdict) : State × Bool :=
  let s1 := v.triggers.foldl (fun (t : State) e => t.triggerRecord e.1 g.gid e.2.1 e.2.2.1 step e.2.2.2) s
  let named := (v.triggers.map (fun e => e.2.1)).eraseDups
  let s2 := named.foldl (fun (t : State) m =>
    let a := topAction v m
    let t1 := if 1 ≤ a then t.alarm (t.sevOf (sourceOf F.SEN_EVENT_TRIGGER)) g.gid else t
    if 3 ≤ a && m ≠ 0xFF then t1.markSuspect g m else t1) s1
  (s2.bump .SEN_COUNT 0 5 v.skipped, named.any (fun m => decide (2 ≤ topAction v m)))

/-- The blocks of a group for a step, empty ones for members and tensors without any. -/
def blocksFor (s : State) (g : Group) (step : Nat) (from_ : List Stats) : List Stats :=
  (s.tensorsOf g).filterMap (fun e =>
    let mine (x : Stats) : Bool := x.group == g.gid && x.member == e.1 && x.tensor == e.2.tensor && x.step == step
    match from_.find? mine with
    | some x => some x
    | none => if s.senShort then none else some (Stats.empty g.gid e.1 e.2.tensor step))

/-- Tensors of a group with their SAMPLE flag. -/
def tensorFlags (s : State) (g : Group) : List (Nat × Bool) :=
  ((s.tensorsOf g).map (fun e => (e.2.tensor, e.2.flags / 2 % 2 == 1))).eraseDups

/-- The rules of a set under a plan. -/
def rulesOf (p : Option Plan) (set : Nat) : List RuleRec :=
  match p with
  | none => []
  | some p => p.rules.filter (fun r => r.set == set)

/-- R245, R248: set 0 is evaluated for a FOLDED group on what has arrived; the blocks become those of the last evaluated
step. -/
def evaluateFold (s : State) (gid : Nat) : State :=
  match s.group gid with
  | none => s
  | some g =>
    if !s.sentinelOn g then s.updGroup gid (fun g => { g with evaluated := true, hold := false, statsWait := none })
    else
      let step := s.recovery gid + 1
      let missing := s.missingSamples g
      let flagged := (s.blocksFor g step s.sen.now).map (fun x =>
        if missing.contains (x.member, x.tensor) then (x.flag 0).flag 2 else x)
      let v := judgeAll gid (s.tensorFlags g) (rulesOf (s.foldPlan gid) 0) flagged
      let (s1, hold) := s.act g step v
      let s2 := { s1 with sen := { s1.sen with
        now := s1.sen.now.filter (fun x => x.group != gid)
        last := s1.sen.last.filter (fun (x : Stats) => x.group != gid) ++ v.blocks } }
      let s3 := if missing.isEmpty then s2
        else (s2.raise F.SEN_EVENT_INCOMPLETE gid 1).raise F.SEN_EVENT_SAMPLE_MISSING gid missing.length
      s3.updGroup gid (fun g => { g with evaluated := true, hold := hold, statsWait := none })

/-- The flags that an evaluation leaves on the blocks that are kept (SEN_STAT word 62). -/
def keepFlags (bs l : List Stats) : List Stats :=
  l.map (fun x => (bs.find? (fun y => y.group == x.group && y.member == x.member && y.tensor == x.tensor && y.step == x.step)).getD x)

/-- R246: SENTINEL_CHECK evaluates the rules of its set, in the plan it was admitted under, for a step; whether a hold is asked for. -/
def evaluateSet (s : State) (p : Option Plan) (g : Group) (set step : Nat) : State × Bool :=
  let v := judgeAll g.gid (s.tensorFlags g) (rulesOf p set) (s.blocksFor g step (s.sen.last ++ s.sen.now))
  let s1 := { s with sen := { s.sen with now := keepFlags v.blocks s.sen.now, last := keepFlags v.blocks s.sen.last } }
  s1.act g step v

/-- R249: a rollback discards the blocks of the rolled-back step. -/
def discardStats (s : State) (gid step : Nat) : State :=
  let keep (x : Stats) : Bool := !(x.group == gid && x.step == step)
  { s with sen := { s.sen with now := s.sen.now.filter keep, last := s.sen.last.filter keep } }

/-- SEN_HOLD and SEN_HOLD_STEP show the first hold in force. -/
def showHold (s : State) : State :=
  let (job, step) := s.sen.holds.headD (0, 0)
  ((s.p F.SEN_HOLD_JOB job).p F.SEN_HOLD_STEP_LOW (step % 2 ^ 32)).p F.SEN_HOLD_STEP_STEP step

/-- R245: the seal of a job and step is held. -/
def holdSeal (s : State) (job step : Nat) : State :=
  if s.sen.holds.contains (job, step) then s
  else
    let s1 := { s with sen := { s.sen with holds := s.sen.holds ++ [(job, step)] } }
    ((s1.showHold).count .SEN_COUNT 6).raise F.SEN_EVENT_HOLD job 1

/-- R245: the hold of a job ends. -/
def endHold (s : State) (job : Nat) : State :=
  ({ s with sen := { s.sen with holds := s.sen.holds.filter (fun h => h.1 != job) } } : State).showHold

/-- SEN_STAT[i]: word i of the block that SEN_SEL names (R249). -/
def senWord (s : State) (i : Nat) : Word :=
  let from_ := if s.g F.SEN_SEL_LAST = 1 then s.sen.last else s.sen.now
  match from_.find? (fun x => x.group == s.g F.SEN_SEL_GROUP && x.member == s.g F.SEN_SEL_MEMBER
      && x.tensor == s.g F.SEN_SEL_TENSOR) with
  | some x => x.word i
  | none => 0

end State

end Sys2Proof.Machine
end

