-- ==== Sys2Proof/Machine/Guardian.lean ====
section
/-! DEFINITION. The State Guardian (chapter 6): delta items and folding, sealing, member loss and rollback folds,
reconstruction and regeneration, lending, disabling; and the meanings of the guardian's commands but for those that also
serve exports. -/
namespace Sys2Proof.Machine

/-- R155: a lane's block of a region from every member's bytes. -/
def encodeBlock (lane : Nat) (shards : List Bytes) : Bytes :=
  xorAll (((List.range shards.length).zip shards).map (fun e => gfScale (coef lane e.1) e.2))

namespace Group

/-- Bytes of a member's gathered SHARD items within a region. -/
def shardBytes (g : Group) (i r : Nat) : Bytes :=
  (g.shards.filter (fun x => x.member == i)).foldl (fun acc x =>
    let lo := r * g.rcd.region
    let n := g.span r
    let piece := (x.payload.drop (lo - x.offset)).take (n - (x.offset - lo))
    let at_ := x.offset - lo
    if lo < x.offset + x.payload.length && x.offset < lo + n then
      fit n (acc.take at_ ++ piece ++ acc.drop (at_ + piece.length))
    else acc) (zeros (g.span r))

/-- A member's SHARD items cover a region, or its END has closed them. -/
def shardCovers (g : Group) (i r : Nat) : Bool :=
  let lo := r * g.rcd.region
  let n := g.span r
  g.shardEnds.contains i || n ≤ (g.shards.filter (fun x => x.member == i)).foldl (fun m x =>
    m + (min (x.offset + x.payload.length) (lo + n) - max x.offset lo)) 0

/-- Every member's shard has come whole. -/
def shardsWhole (g : Group) : Bool :=
  g.lentDue.isEmpty && (List.range g.count).all (fun r => (List.range g.rcd.k).all (fun i => g.shardCovers i r))

/-- R156: the lanes L for e erasures: the current lanes of lowest number. -/
def decodeLanes (g : Group) (e : Nat) : List Nat := (g.current.mergeSort).take e

/-- R156: the lost members' bytes of a region, from the survivors' shards and the lanes of L. -/
def decodeRegion (g : Group) (erased : List Nat) (r : Nat) : List Bytes :=
  let lanes := g.decodeLanes erased.length
  let rest := (List.range g.rcd.k).filter (fun i => !erased.contains i)
  gfDecode lanes erased (lanes.map (fun j =>
    xorAll (g.block j r :: rest.map (fun i => gfScale (coef j i) (g.shardBytes i r)))))

/-- Every member's bytes of a region: gathered, or rebuilt for the erased ones. -/
def allShards (g : Group) (erased : List Nat) (rebuilt : List Bytes) (r : Nat) : List Bytes :=
  (List.range g.rcd.k).map (fun i =>
    match (erased.zip rebuilt).find? (fun e => e.1 == i) with
    | some e => e.2
    | none => g.shardBytes i r)

/-- R179: a current lane outside L disagrees with the rebuilt region. -/
def laneDisagrees (g : Group) (erased : List Nat) (rebuilt : List Bytes) (r : Nat) : Bool :=
  (g.current.filter (fun j => !(g.decodeLanes erased.length).contains j)).any (fun j =>
    encodeBlock j (g.allShards erased rebuilt r) != g.block j r)

end Group

namespace State

-- The job of a group

/-- Bound groups of a job that take part in its seal: a group DISABLING or DISABLED does not (R187). -/
def jobGroups (s : State) (job : Nat) : List Group :=
  s.grd.groups.filter (fun g => g.bound && g.job == job && s.gstate g.gid != GState.disabling
    && s.gstate g.gid != GState.disabled)

/-- Spires of the installation, this one first. -/
def allSpires (s : State) : List Nat :=
  match s.plan.cur with
  | some p => if p.spires ≤ 1 then [s.spire] else (s.spire :: p.peers.map (·.spire)).eraseDups
  | none => [s.spire]

/-- The spires of a job: those of the span mask with which a cupola of it was carved here (R337), and every spire of the installation
where no mask was given. DEDUCED (log entry 137). -/
def jobSpires (s : State) (job : Nat) : List Nat :=
  let at_ (c : Nat) : Bool := s.gi F.CUP_JOB_JOB c == job && decide (2 ≤ s.cupState c) && decide (s.cupState c ≤ 6)
  match s.cup.spans.find? (fun e => at_ e.1 && e.2 != 0) with
  | some e => s.allSpires.filter (fun q => hasBit e.2 q)
  | none => s.allSpires

/-- The other spires of a job. -/
def jobPeers (s : State) (job : Nat) : List Nat := (s.jobSpires job).filter (fun q => q != s.spire)

/-- R167: this Varlor decides the seals of a job: a job of this spire alone, or the coordinator. -/
def decides (s : State) (job : Nat) : Bool :=
  match s.plan.cur with
  | some p => p.coordinatorFlag || (s.jobPeers job).isEmpty
  | none => true

/-- The coordinator's spire. -/
def coordinator (s : State) : Nat := match s.plan.cur with | some p => p.coordinator | none => 0

/-- The seal of a job and step has been decided and its record is still to be written. -/
def sealDecided (s : State) (job step : Nat) : Bool :=
  s.grd.seals.any (fun x => x.job == job && x.step == step && !x.written)

-- Rollback (R172 to R174)

/-- The registers of the step in progress start anew; its spilled regions leave RECON_STAGE (R163). -/
def clearProgress (s : State) (gid : Nat) : State :=
  ((s.updGroup gid Group.clearStep).showSpill.pi F.GRD_GROUP_PROG_WATERMARK gid 0).pi F.GRD_GROUP_PROG_ENDS gid 0

/-- R187: RELEASE goes to the members of the job's disabled groups at the seal or the rollback of the step that they were in. -/
def releaseGroups (s : State) (job step : Nat) : State :=
  let due (g : Group) : Bool := g.job == job && (match g.releaseDue with | some q => decide (q ≤ step) | none => false)
  (s.grd.groups.filter due).foldl (fun (t : State) g =>
    (t.updGroup g.gid (fun g => { g with releaseDue := none })).guardWords g.gid (t.survivors g) GWord.release step false) s

/-- R173, R247: RESUME(p) to the members, unless a member of the group is marked suspect. -/
def resumeGroup (s : State) (gid : Nat) : State :=
  match s.group gid with
  | none => s
  | some g =>
    if g.rcd.members.any s.suspect then s.updGroup gid (fun g => { g with resumeHeld := true })
    else (s.updGroup gid (fun g => { g with resumeHeld := false })).guardWords gid (s.survivors g) GWord.resume
      (s.recovery gid) false

/-- A rollback fold has ended: the group is QUIET at p; RESUME goes to a group that lost no member. -/
def endRollback (s : State) (gid : Nat) : State :=
  match s.group gid with
  | none => s
  | some g =>
    let s1 := (s.clearProgress gid).setPhase gid GPhase.quiet
    if (s.lostOf g).isEmpty then s1.resumeGroup gid else s1

/-- R174: each lost member's delta can be formed for every region below W: at most one lost, or two that are not both
keepers of such a region. -/
def rollbackPossible (k w : Nat) (lost : List Nat) : Bool :=
  match lost with
  | [] => true
  | [_] => true
  | [a, b] => !(List.range (min w k)).any (fun r =>
      (r % k == a && (r + 1) % k == b) || (r % k == b && (r + 1) % k == a))
  | _ => w == 0

/-- R174: the written regions cannot be returned: HELD with INGEST_LOSS, and a service request. -/
def ingestLoss (s : State) (gid : Nat) : State :=
  (((s.clearProgress gid).setPhase gid GPhase.quiet).holdGroup gid 2).service gid

/-- R164, R173: what a group under direct fold has added to its local lanes for regions that are not written is taken back; no lane of
another group holds anything of them. -/
def Group.undoDirect (g : Group) : Group :=
  (g.regions.filter (fun b => !b.written)).foldl (fun h b => h.writeLanes (fun j => (g.peer j).isNone) b) g

/-- A group is sent back to p: its members get ROLLBACK(p); with written regions it waits for its rollback fold, without
any it is back at once. -/
def rollGroup (s : State) (gid : Nat) : State :=
  match s.group gid with
  | none => s
  | some g =>
    let p := s.recovery gid
    let w := s.watermark gid
    let ph := s.gphase gid
    let s0 := if s.gi F.GRD_GROUP_DIRECT gid = 1 then s.updGroup gid Group.undoDirect else s
    let s1 := (s0.guardWords gid (s0.survivors g) GWord.rollback p true).discardStats gid (p + 1)
    if ph = GPhase.rollingBack || ph = GPhase.reconstructing || ph = GPhase.regenerating then s1
    else if w = 0 then s1.endRollback gid
    else
      let copies := g.regions.filterMap (fun b => if b.written then some (b.region, b.undo) else none)
      (((s1.updGroup gid Group.clearStep).updGroup gid (fun g => { g with
        rollW := some w, undoCopies := copies })).showSpill).setPhase gid GPhase.rollingBack

/-- R172: the job goes back to its recovery point here: SEAL and FOLD tasks of p + 1 end CANCELLED (bit 16 of the detail
by command), every member gets ROLLBACK(p), and a group that is being disabled gets RELEASE (R187). -/
def rollbackLocal (s : State) (job p : Nat) (command : Bool) : State :=
  let by_ := if command then 2 ^ 16 else 0
  let mine := s.jobGroups job
  let s1 := s.stopWhere (fun t => t.step == p + 1 && ((t.kind == Kind.sealing && t.job == job)
    || (t.kind == Kind.fold && mine.any (fun g => g.gid == t.group)))) Fate.cancelled by_
  let s2 := (mine.foldl (fun (t : State) g => t.rollGroup g.gid) s1)
  let s3 := s2.releaseGroups job (p + 1)
  let s4 := { s3 with grd := { s3.grd with reports := s3.grd.reports.filter (fun r => r.job != job) } }
  ((s4.endHold job).count .GRD_COUNT 5).raise F.GRD_EVENT_ROLLBACK job 1

/-- The rollback of a job is ordered where it is decided: here and at every other spire of the job. -/
def orderRollback (s : State) (job p : Nat) (command : Bool) : State :=
  (s.jobPeers job).foldl (fun (t : State) q => t.send .jobRollback q 0 [job, p]) (s.rollbackLocal job p command)

/-- R172: a rollback is needed: ordered here, or reported to the coordinator. -/
def requestRollback (s : State) (job p : Nat) (command : Bool) : State :=
  if s.decides job then s.orderRollback job p command else s.send .memberLoss s.coordinator 0 [job, p + 1]

/-- ROLLBACK(p) has gone to the members of a job in this round. -/
def rollbackOut (s : State) (job p : Nat) : Bool :=
  s.grd.groups.any (fun g => g.job == job
    && g.words.any (fun w => w.type == GWord.rollback && w.payload == p && w.since == s.round))

/-- R186: the FOLDs of these groups have ended otherwise than DONE: the step in progress of none of them can seal, and their jobs roll
back to p, once each. A disabled group's step goes on without it (R187). -/
def foldsLost (s : State) (gids : List Nat) : State :=
  let hit (g : Group) : Bool := gids.contains g.gid && g.bound && !g.stopped && s.gstate g.gid != GState.disabling
    && s.gstate g.gid != GState.disabled && !s.rollbackOut g.job (s.recovery g.gid)
  let l := s.grd.groups.filter hit
  let s1 := l.foldl (fun (t : State) g => t.updGroup g.gid (fun g => { g with stopped := true })) s
  ((l.map (fun g => (g.job, s.recovery g.gid))).eraseDups).foldl (fun (t : State) e => t.requestRollback e.1 e.2 false) s1

/-- R186: the FOLDs of these groups end otherwise than DONE. -/
def foldsFail (s : State) (gids : List Nat) (status detail : Nat) : State :=
  (s.stopWhere (fun t => t.kind == Kind.fold && gids.contains t.group && t.step == s.recovery t.group + 1) status detail).foldsLost
    gids

/-- R186: the FOLD of a group ends otherwise than DONE. -/
def foldFails (s : State) (gid status detail : Nat) : State := s.foldsFail [gid] status detail

-- Sealing (R166 to R168)

/-- R167: every bound group of the job here is FOLDED and evaluated for a step. -/
def jobFolded (s : State) (job step : Nat) : Bool :=
  let gs := s.jobGroups job
  !gs.isEmpty && gs.all (fun g =>
    s.gphase g.gid == GPhase.folded && g.evaluated && !g.stopped && s.recovery g.gid + 1 == step)

/-- R167: every group of the job is FOLDED, here and by the reports of the job's other spires. A spire that has no group of the job has
only those reports to go by. -/
def allFolded (s : State) (job step : Nat) : Bool :=
  let told (q : Nat) : Bool := s.grd.reports.any (fun r => r.spire == q && r.job == job && r.step == step)
  (s.jobFolded job step || ((s.jobGroups job).isEmpty && (s.jobPeers job).any told)) && (s.jobPeers job).all told

/-- R167: the decision: the SEAL task ends DONE and every Varlor is told. -/
def decideSeal (s : State) (job step : Nat) : State :=
  let s1 := s.stopWhere (fun t => t.kind == Kind.sealing && t.job == job && t.step == step) Fate.done 0
  let x : Seal := ⟨job, step, false⟩
  let s2 := { s1 with grd := { s1.grd with seals := s1.grd.seals ++ [x] } }
  let s3 := s2.decision Sent.sealRecord.ctorIdx job step
  (s3.jobPeers job).foldl (fun (t : State) q => t.send .sealRecord q 0 [job, step, t.g F.PLAN_EPOCH_CURRENT]) s3

/-- R167: everything that a seal waits for has come. -/
def sealReady (s : State) (job step : Nat) : Bool :=
  s.decides job && s.allFolded job step && !s.sealDecided job step && !s.sen.holds.contains (job, step)

/-- R167: the SEAL task decides as soon as it runs and everything has come. -/
def trySeal (s : State) (job step : Nat) : State :=
  if s.sealReady job step && s.graph.tasks.any (fun t => t.kind == Kind.sealing && t.job == job && t.step == step && t.live)
  then s.decideSeal job step else s

/-- R167, R245: every group of the job here is FOLDED: reported to the coordinator, or taken to the decision here. -/
def reportFolded (s : State) (job step : Nat) : State :=
  if !s.jobFolded job step then s
  else
    let gs := s.jobGroups job
    let hold := gs.any (·.hold)
    if s.decides job then (if hold then s.holdSeal job step else s).trySeal job step
    else s.send .foldedReport s.coordinator 0 ([job, step, if hold then 1 else 0] ++ gs.map (·.gid))

/-- R245: set 0 is evaluated and the result goes with the report. -/
def settleFold (s : State) (gid : Nat) : State :=
  match s.group gid with
  | none => s
  | some g => (s.evaluateFold gid).reportFolded g.job (s.recovery gid + 1)

/-- R166: the conditions of FOLDED. -/
def foldDone (s : State) (g : Group) : Bool :=
  let ph := s.gphase g.gid
  (ph == GPhase.quiet || ph == GPhase.ingest) &&
  (List.range g.rcd.k).all (fun i => match g.ends.find? (fun e => e.1 == i) with
    | some e => e.2 == lookupD g.items i 0
    | none => false) &&
  s.watermark g.gid == g.count && g.held.isEmpty &&
  g.regions.all (fun b => b.written && b.lentWait.isEmpty && b.keeperWait.isEmpty)

/-- R166, R248: a group becomes FOLDED: its FOLD task ends DONE; missing samples are waited for, up to 4 rounds. -/
def checkFolded (s : State) (gid : Nat) : State :=
  match s.group gid with
  | none => s
  | some g =>
    if !s.foldDone g then s
    else
      let s1 := s.setPhase gid GPhase.folded
      let due := s1.tasksWhere (fun t => t.kind == Kind.fold && t.group == gid && t.step == s.recovery gid + 1 && t.live)
      let s2 := due.foldl (fun (t : State) x =>
        (t.updTask x.idx (fun y => { y with bytesDone := g.bytes })).stopTask x.idx Fate.done g.checkOnly) s1
      if (s2.missingSamples g).isEmpty then s2.settleFold gid
      else s2.updGroup gid (fun g => { g with statsWait := some (s.round + 4) })

-- Regions (R161 to R164, R171)

/-- The port channel on which a member's guardian items arrive: that of the OP port its GUARD flow enters by. -/
def guardChannel (s : State) (g : Group) (i : Nat) : Nat :=
  match s.plan.cur with
  | none => 0
  | some p =>
    let fl := (p.tables.flowsOf (g.rcd.members.getD i 0)).filterMap (fun e =>
      if feClass e = 2 && feEgress e != 31 && feVariant e = 0 then some (feFlow e) else none)
    match p.links.find? (fun l => (l.bkind == 1 || l.bkind == 2)
        && (p.tables.slotsOf l.a l.pa).any (fun e => fl.contains (slotFlow e))) with
    | some l => 2 * l.pb
    | none => 0

/-- A region's buffers are forgotten once it is written, its lent lanes acknowledged and its keepers' receipts in. -/
def dropRegion (s : State) (gid : Nat) : State :=
  s.updGroup gid (fun g => { g with
    regions := g.regions.filter (fun b => !(b.written && b.lentWait.isEmpty && b.keeperWait.isEmpty)) })

/-- The tag of an undo copy that no FOLD has issued: it names its group and region, and no item ID is so large. -/
def undoTag (gid r : Nat) : Nat := 2 ^ 64 + gid * 2 ^ 24 + r

/-- R161: a region becomes complete: its lent lanes' accumulations go to the peers, X_r to its two keepers. They are sub-items of the
FOLD that runs (R189); where none runs, the guardian sends them by itself, and once a FOLD of the step has failed it sends none (R198).
DEDUCED (log entry 136). -/
def completeRegion (s : State) (gid r : Nat) : State :=
  match s.group gid with
  | none => s
  | some g =>
    let b := g.buffer r
    if b.complete then s
    else
      let lent := g.lanes.filterMap (fun j => (g.peer j).map (fun q => (j, q)))
      let keep := g.keepers (s.lostOf g) r
      let b2 := { b with complete := true, lentWait := lent.map Prod.fst, keeperWait := keep }
      let s1 := s.updGroup gid (fun g => g.setBuffer b2)
      let acc (j : Nat) : Bytes := ((b.bufs.find? (fun x => x.lane == j)).map (·.block)).getD []
      let step := s.recovery gid + 1
      let off := r * g.rcd.region
      match s.groupTask Kind.fold gid with
      | some t =>
        s1.issueItems t.idx (lent.map (fun e => (⟨t.idx, 3, 0, e.1, e.2, gid, step, r, off, acc e.1⟩ : OutItem))
          ++ keep.map (fun i => (⟨t.idx, 2, GType.undo, i, s.memberNode g i, gid, step, r, off, b.undo⟩ : OutItem)))
      | none =>
        if g.stopped then s1
        else
          let s2 := lent.foldl (fun (t : State) e => t.emit .laneAcc e.2 gid [e.1, r, 0] (acc e.1)) s1
          keep.foldl (fun (t : State) i =>
            (t.sendItem (t.memberNode g i) (t.guardFlowTo g i) GType.undo gid 0xFF step off (undoTag gid r) b.undo).bump
              .GRD_COUNT 0 9 1) s2

/-- Regions at or above the watermark that have become complete. -/
def completeRegions (s : State) (gid : Nat) : State :=
  match s.group gid with
  | none => s
  | some g =>
    ((List.range g.count).filter (fun r => decide (s.watermark gid ≤ r) && g.completeNow r)).foldl
      (fun (t : State) r => t.completeRegion gid r) s

/-- RECON_STAGE bytes in use by staged shards. -/
def stagedBytes (s : State) : Nat := s.grd.staged.foldl (fun n e => n + e.2.2.length) 0

/-- RECON_STAGE bytes left. -/
def reconRoom (s : State) : Nat :=
  match s.plan.cur with
  | none => 0
  | some p => p.recon * gib - s.g F.GRD_SPILL_BYTES - s.stagedBytes

/-- R162, R163: the fold buffers of a group, in regions. -/
def bufferRegions (s : State) (g : Group) : Nat :=
  match s.plan.cur with
  | some p => p.guardRegions g.rcd + 2
  | none => 2

/-- R163: a new region needs buffers: when they are all in use, the oldest incomplete region is spilled; `false` when
RECON_STAGE has no room for it. A group under direct fold needs none. DEDUCED (log entry 140). -/
def makeRoom (s : State) (gid r : Nat) : State × Bool :=
  match s.group gid with
  | none => (s, true)
  | some g =>
    let inUse := g.regions.filter (fun b => !b.spilled && !b.written)
    if g.regions.any (fun b => b.region == r) || s.gi F.GRD_GROUP_DIRECT gid = 1 || inUse.length < s.bufferRegions g then
      (s, true)
    else
      match (inUse.filter (fun b => !b.complete)).mergeSort (fun a b => decide (a.region ≤ b.region)) with
      | [] => (s, true)
      | b :: _ =>
        let n := g.spillSize b.region
        if s.reconRoom < n then (s, false)
        else
          let s1 := s.updGroup gid (fun g => g.setBuffer { b with spilled := true })
          (s1.showSpill.bump .GRD_COUNT 0 8 n, true)

/-- A DELTA item's data is folded (R155, R161), under direct fold into the local lanes at once (R164), and analysed (R235); `again`: it
was counted when it first arrived. -/
def foldItem (s : State) (gid : Nat) (it : GItem) (again : Bool) : State :=
  match s.group gid with
  | none => s
  | some g =>
    let r := g.regionOf it.offset
    let (s1, room) := s.makeRoom gid r
    if !room then (s1.raise F.GRD_EVENT_SPILL_EXHAUSTED gid 1).foldFails gid Fate.capacity 1
    else
      let upd (g : Group) : Group :=
        let d := g.foldDelta it.member it.offset it.payload
        let h := if s.gi F.GRD_GROUP_DIRECT gid = 1 then d.foldDirect it.member it.offset it.payload else d
        { h with
          bytes := h.bytes + it.payload.length
          items := if again then h.items else setKey h.items it.member (lookupD h.items it.member 0 + 1)
          progress := setKey h.progress it.member (max (lookupD h.progress it.member 0) (it.offset + it.payload.length)) }
      let s2 := s1.enterIngest gid
      let s3 := ((s2.updGroup gid upd).count .GRD_COUNT 0).bump .GRD_COUNT 0 1 it.payload.length
      ((s3.analyse g it).completeRegions gid).checkFolded gid

/-- An item that nothing admits (R160). -/
def refuseItem (s : State) : State :=
  if 6 ≤ s.g F.KEY_STATUS_REMOVE_STEP then s.lateFrames 1 else s.count .GRD_COUNT 10

/-- R160: RESEND is posted for a held item. -/
def postResend (s : State) (gid member off : Nat) : State :=
  ((s.guardWord gid member GWord.resend (off / 8) true).count .GRD_COUNT 3).raise F.GRD_EVENT_CHECK_RETRY gid 1

/-- R160, R261: an item whose payload check fails is held and asked for again; `false` when no resend is allowed. -/
def holdItem (s : State) (g : Group) (it : GItem) : State × Bool :=
  let c := s.guardChannel g it.member
  let s1 := s.chkMismatch c it.offset it.payload
  if s.resendLimit = 0 then (s1.chkFailed c it.offset, false)
  else
    let s2 := s1.updGroup g.gid (fun g => { g with held := g.held ++ [⟨it, 1⟩] })
    (s2.postResend g.gid it.member it.offset, true)

/-- What a resent item settles (Table 9.4): `some true`, its data is used; `some false`, it failed for good; `none`, it
was asked for again or answers nothing. -/
def settleResent (s : State) (g : Group) (it : GItem) (good : Bool) : State × Option Bool :=
  match g.held.find? (fun h => h.item.member == it.member && h.item.offset == it.offset
      && h.item.rollback == it.rollback) with
  | none => (s.refuseItem, none)
  | some h =>
    let c := s.guardChannel g it.member
    let s1 := s.answered g.gid it.member GWord.resend (fun p => p == it.offset / 8)
    let drop (t : State) : State := t.updGroup g.gid (fun g => { g with held := g.held.erase h })
    if good then
      if it.payload = h.item.payload then
        (((drop s1).chkOnly c it.offset 2).updGroup g.gid (fun g => { g with checkOnly := g.checkOnly + 1 }), some true)
      else ((drop s1).chkCorrected c it.offset, some true)
    else if s.resendLimit ≤ h.resends then ((drop s1).chkFailed c it.offset, some false)
    else
      let s2 := s1.updGroup g.gid (fun g => { g with
        held := updWhere (fun x => x == h) (fun x => { x with resends := x.resends + 1 }) g.held })
      (s2.postResend g.gid it.member it.offset, none)

/-- R158: a DELTA item is well formed for its group. -/
def deltaFormed (g : Group) (it : GItem) : Bool :=
  let n := it.payload.length
  decide (it.member < g.rcd.k) && it.offset % 8 == 0 && n % 8 == 0 && decide (8 ≤ n) && decide (n ≤ 1048576)
    && decide (it.offset + n ≤ g.rcd.shard) && g.regionOf it.offset == g.regionOf (it.offset + n - 1)

/-- R160, R187: a DELTA item of the step in progress is admitted; a group being disabled admits none from the next round
boundary. -/
def deltaAdmitted (s : State) (g : Group) (it : GItem) : Bool :=
  let st := s.gstate g.gid
  let ph := s.gphase g.gid
  it.step == s.recovery g.gid + 1 && (ph == GPhase.quiet || ph == GPhase.ingest) && g.next.isNone
    && (st == GState.protectedS || (st == GState.disabling && g.before == GState.protectedS && g.disableAt == some s.round))
    && !(s.lostOf g).contains it.member && !g.ends.any (fun e => e.1 == it.member)
    && (it.resent || decide (lookupD g.progress it.member 0 ≤ it.offset))

/-- R160: a DELTA item of a rollback fold is admitted. -/
def rollAdmitted (s : State) (g : Group) (it : GItem) : Bool :=
  it.step == s.recovery g.gid + 1 && s.gphase g.gid == GPhase.rollingBack && g.rollStarted
    && !(s.lostOf g).contains it.member && !g.rollEnds.contains it.member
    && (match g.rollW with | some w => decide (g.regionOf it.offset < w) | none => false)

-- The rollback fold (R173)

/-- Regions below W whose undo copies a keeper returns on SEND_UNDO (R171). -/
def undoRegions (k w : Nat) (lost : List Nat) (i : Nat) : List Nat :=
  (List.range w).filter (fun r => r % k == i || ((r + 1) % k == i && lost.contains (r % k)))

/-- Everything that the rollback fold waits for has come. -/
def rollReady (s : State) (g : Group) (w : Nat) : Bool :=
  let lost := s.lostOf g
  g.rollStarted && g.held.isEmpty
    && (s.survivors g).all (fun i => g.rollEnds.contains i && lookupD g.ends i 0 == lookupD g.items i 0)
    && (lost.isEmpty || (List.range w).all (fun r => g.undoCopies.any (fun e => e.1 == r)))

/-- R173: one region is restored: the survivors' deltas and, for each lost member, δ_f = X_r XOR the survivors' deltas,
are folded into the same lanes. -/
def restoreRegion (lost : List Nat) (g : Group) (r : Nat) : Group :=
  let sum := (g.buffer r).undo
  let x := ((g.undoCopies.find? (fun e => e.1 == r)).map Prod.snd).getD (zeros (g.span r))
  let h := lost.foldl (fun h f => h.foldDelta f (r * g.rcd.region) (xorBytes x sum)) g
  h.writeRegion (h.buffer r)

/-- R173: when every region below W is restored the rollback fold ends; lent lanes go back through their peers. It runs only while the
cupola is ACTIVE (R152). -/
def checkRollback (s : State) (gid : Nat) : State :=
  match s.group gid with
  | none => s
  | some g =>
    match g.rollW with
    | none => s
    | some w =>
      if !s.rollReady g w || !s.groupActive g then s
      else
        let lost := s.lostOf g
        let h := (List.range w).foldl (restoreRegion lost) g
        let s1 := s.updGroup gid (fun _ => h)
        let lent := g.lanes.filterMap (fun j => (g.peer j).map (fun q => (j, q)))
        let s2 := lent.foldl (fun (t : State) e => (List.range w).foldl (fun (t : State) r =>
          t.emit .laneAcc e.2 gid [e.1, r, 0] (((h.buffer r).bufs.find? (fun x => x.lane == e.1)).map (·.block) |>.getD [])) t) s1
        s2.endRollback gid

/-- ROLLBACK_FOLD_START (R152, R173): when the cupola is ACTIVE, SEND_DELTAS(W) goes to the survivors and, for lost
members, SEND_UNDO(W, mask) to the keepers. -/
def rollbackFoldStart (s : State) (gid : Nat) : State :=
  match s.group gid with
  | none => s
  | some g =>
    match g.rollW with
    | none => s
    | some w =>
      if g.rollStarted || !s.groupActive g || s.gphase gid ≠ GPhase.rollingBack then s
      else
        let lost := s.lostOf g
        if !rollbackPossible g.rcd.k w lost then s.ingestLoss gid
        else
          let want := (s.survivors g).filterMap (fun i =>
            let n := (undoRegions g.rcd.k w lost i).length
            if lost.isEmpty || n = 0 then none else some (i, n))
          let s1 := s.updGroup gid (fun g => { g with rollStarted := true, undoWant := want })
          let s2 := s1.guardWords gid (s.survivors g) GWord.sendDeltas w true
          (s2.guardWords gid (want.map Prod.fst) GWord.sendUndo (w + maskOf lost * 2 ^ 32) true).checkRollback gid

/-- A DELTA item of a rollback fold is folded: its data adds to its region's lanes and to the survivors' sum. -/
def rollItem (s : State) (gid : Nat) (it : GItem) (again : Bool) : State :=
  ((s.updGroup gid (fun g =>
    let h := g.foldDelta it.member it.offset it.payload
    { h with items := if again then h.items else setKey h.items it.member (lookupD h.items it.member 0 + 1) })).count
      .GRD_COUNT 0).bump .GRD_COUNT 0 1 it.payload.length |>.checkRollback gid

/-- A held item counts as received. -/
def countItem (s : State) (gid : Nat) (it : GItem) : State :=
  s.updGroup gid (fun g => { g with
    items := setKey g.items it.member (lookupD g.items it.member 0 + 1)
    progress := setKey g.progress it.member (max (lookupD g.progress it.member 0) (it.offset + it.payload.length)) })

/-- DELTA (R157, R158, R160, R161, R163, R235, R261). -/
def delta (s : State) (it : GItem) : State :=
  if !headerOk GType.delta it then s.count .GRD_COUNT 2
  else
    match s.group it.group with
    | none => s.refuseItem
    | some g =>
      let good := crc64 it.payload == it.check
      let use (t : State) (again : Bool) : State := if it.rollback then t.rollItem g.gid it again else t.foldItem g.gid it again
      if !deltaFormed g it || !(if it.rollback then s.rollAdmitted g it else s.deltaAdmitted g it) then s.refuseItem
      else if it.resent then
        match s.settleResent g it good with
        | (t, some true) => use t true
        | (t, some false) => if it.rollback then t else t.foldFails g.gid Fate.check (g.regionOf it.offset)
        | (t, none) => t
      else if good then use s false
      else
        let s1 := if it.rollback then s else s.enterIngest g.gid
        match (s1.countItem g.gid it).holdItem g it with
        | (t, true) => t
        | (t, false) => if it.rollback then t else t.foldFails g.gid Fate.check (g.regionOf it.offset)

/-- END of a step (R158, R166): the member's count, and regions that it completes. -/
def endStep (s : State) (g : Group) (it : GItem) : State :=
  let ok := it.step == s.recovery g.gid + 1 && (s.gphase g.gid == GPhase.quiet || s.gphase g.gid == GPhase.ingest)
    && (s.gstate g.gid == GState.protectedS || (s.gstate g.gid == GState.disabling && g.before == GState.protectedS))
    && !(s.lostOf g).contains it.member && !g.ends.any (fun e => e.1 == it.member)
  if !ok then s.refuseItem
  else
    let s1 := s.updGroup g.gid (fun g => { g with ends := g.ends ++ [(it.member, it.count)] })
    let s2 := s1.pi F.GRD_GROUP_PROG_ENDS g.gid (setBit (s1.gi F.GRD_GROUP_PROG_ENDS g.gid) it.member true)
    (s2.completeRegions g.gid).checkFolded g.gid

/-- END of a rollback batch (Table 6.7): it answers SEND_DELTAS. -/
def endRoll (s : State) (g : Group) (it : GItem) : State :=
  if s.gphase g.gid == GPhase.rollingBack && g.rollStarted && it.step == s.recovery g.gid + 1
      && (s.survivors g).contains it.member && !g.rollEnds.contains it.member then
    let s1 := s.updGroup g.gid (fun g => { g with
      rollEnds := g.rollEnds ++ [it.member], ends := setKey g.ends it.member it.count })
    (s1.answered g.gid it.member GWord.sendDeltas (fun _ => true)).checkRollback g.gid
  else s.refuseItem

/-- SAMPLE (R238): a sample of the step in progress that its tensor record asks for. -/
def sampleItem (s : State) (it : GItem) : State :=
  if !headerOk GType.sample it then s.count .GRD_COUNT 2
  else
    match s.group it.group with
    | none => s.refuseItem
    | some g =>
      let ph := s.gphase g.gid
      let asked := match s.tensorRec g.gid it.member it.tensor with
        | some r => r.flags / 2 % 2 == 1
        | none => false
      if !asked || !s.sentinelOn g || it.step ≠ s.recovery g.gid + 1 || crc64 it.payload ≠ it.check
          || !(ph == GPhase.quiet || ph == GPhase.ingest || g.statsWait.isSome) || g.samples.contains (it.member, it.tensor)
          || (s.lostOf g).contains it.member then s.refuseItem
      else
        let s1 := s.takeSample g it
        match s1.group g.gid with
        | some h => if h.statsWait.isSome && (s1.missingSamples h).isEmpty then s1.settleFold g.gid else s1
        | none => s1

/-- UNDO (R160, R171, R173): an undo copy that answers SEND_UNDO. -/
def undoItem (s : State) (it : GItem) : State :=
  if !headerOk GType.undo it then s.count .GRD_COUNT 2
  else
    match s.group it.group with
    | none => s.refuseItem
    | some g =>
      let r := g.regionOf it.offset
      let w := g.rollW.getD 0
      let good := crc64 it.payload == it.check
      let use (t : State) : State :=
        let left := lookupD g.undoWant it.member 0 - 1
        let t1 := t.updGroup g.gid (fun g => { g with
          undoCopies := if g.undoCopies.any (fun e => e.1 == r) then g.undoCopies else g.undoCopies ++ [(r, it.payload)]
          undoWant := if left = 0 then g.undoWant.filter (fun e => e.1 != it.member) else setKey g.undoWant it.member left })
        (if left = 0 then t1.answered g.gid it.member GWord.sendUndo (fun _ => true) else t1).checkRollback g.gid
      if !outstanding g it.member GWord.sendUndo || !decide (r < w) || it.offset % max 1 g.rcd.region ≠ 0
          || it.payload.length ≠ g.span r || it.step ≠ s.recovery g.gid + 1 then s.refuseItem
      else if it.resent then
        match s.settleResent g it good with
        | (t, some true) => use t
        | (t, _) => t
      else if good then use s
      else (s.holdItem g it).1

/-- REGION_WRITTEN (R161): the local read-modify-writes of the region at the watermark have finished; under direct fold each item had
its own (R164). -/
def regionWritten (s : State) (gid r : Nat) : State :=
  match s.group gid with
  | none => s
  | some g =>
    let b := g.buffer r
    if r ≠ s.watermark gid || !b.complete || b.written then s
    else
      let which (j : Nat) : Bool := s.gi F.GRD_GROUP_DIRECT gid = 0 || (g.peer j).isSome
      let s1 := s.updGroup gid (fun g => (g.writeLanes which b).setBuffer { b with written := true, spilled := false })
      (((s1.showSpill.pi F.GRD_GROUP_PROG_WATERMARK gid (r + 1)).dropRegion gid)).checkFolded gid

/-- R181, R183, R184: every lane of a regenerated group is written and, where a peer holds it, acknowledged: all lanes are current, and
the group is PROTECTED; a REGENERATE ends DONE. -/
def finishRegen (s : State) (gid : Nat) : State :=
  match s.group gid with
  | none => s
  | some g =>
    let s1 := ((s.setCurrent gid g.lanes).pi F.GRD_GROUP_LOST gid 0).setPhase gid GPhase.quiet
    let s2 := { s1 with
      grd := { s1.grd with regen := s1.grd.regen.filter (fun x => x != gid) }
      twin := { s1.twin with regenDue := s1.twin.regenDue.filter (fun x => x != gid) } }
    let s3 := ((s2.setGState gid GState.protectedS 0).count .GRD_COUNT 7).raise F.GRD_EVENT_REGENERATED gid 1
    match s.groupTask Kind.regenerate gid with
    | some t => s3.stopTask t.idx Fate.done t.checkOnly
    | none => s3

/-- LENT_ACK (R166, R184): a peer has acknowledged a region of a lent lane: of the step in progress, or of a lane that is being
regenerated. -/
def lentAck (s : State) (gid lane r : Nat) : State :=
  let s1 := match s.subOf gid 3 lane r with
    | some (idx, seq) => s.subDone idx seq
    | none => s
  let due := (match s.group gid with | some g => g.lentDue.contains (lane, r) | none => false)
  let s2 := ((s1.updGroup gid (fun g => { g with
    lentDue := g.lentDue.filter (fun e => e != (lane, r))
    regions := updWhere (fun b => b.region == r) (fun b => { b with lentWait := b.lentWait.filter (fun j => j != lane) })
      g.regions })).dropRegion gid).checkFolded gid
  match s2.group gid with
  | some g => if due && g.lentDue.isEmpty && s2.gphase gid = GPhase.regenerating then s2.finishRegen gid else s2
  | none => s2

/-- A keeper's receipt of an undo copy (R166). -/
def undoReceipt (s : State) (gid r member : Nat) : State :=
  ((s.updGroup gid (fun g => { g with
    regions := updWhere (fun b => b.region == r) (fun b => { b with keeperWait := b.keeperWait.filter (fun j => j != member) })
      g.regions })).dropRegion gid).checkFolded gid

-- Member loss (R172)

/-- R177: the cupola's own GUARD layout: the plan's entries wherever the plan or the tables in force give a slot to one of
its GUARD flows. -/
def ownGuardLayout (p : Plan) (t : Tables) (c : Nat) : List SlotDelta :=
  let guard (u : Tables) (e : Nat) : Bool := slotCupola e == c && u.classOfFlow (slotFlow e) == 2
  t.sched.flatMap (fun b => (List.range b.ports.length).flatMap (fun q =>
    let now := b.ports.getD q []
    (List.range now.length).filterMap (fun i =>
      let e := now.getD i 0
      let o := (p.tables.slotsOf b.node q).getD i 0
      if e ≠ o && (guard t e || guard p.tables o) then some ⟨b.node, q, i, o⟩ else none)))

/-- R177: the cupola's own GUARD layout is reinstalled as a repair install, now or when the install in progress ends. -/
def restoreLayout (s : State) (c : Nat) : State :=
  match s.plan.cur with
  | none => s
  | some p =>
    let ds := ownGuardLayout p s.tables c
    if ds.isEmpty then s
    else if s.bell.install.isSome then { s with rep := { s.rep with restores := addOnce c s.rep.restores } }
    else s.startInstall 1 (s.tables.applySlots ds) ((ds.map (fun d => localOf d.node)).eraseDups) [c] true 0 s.round
      (fun q e => q + e + 2)

/-- A member's loss ends the group's reconstruction, regeneration and exports (Table 6.9, R180); after a RECONSTRUCT the cupola's own
GUARD layout returns (R177). -/
def endGroupWork (s : State) (gid status detail : Nat) : State :=
  let s1 := s.stopWhere (fun t => t.group == gid && t.live
    && (t.kind == Kind.reconstruct || t.kind == Kind.regenerate || t.kind == Kind.exp)) status detail
  let s2 := s1.updGroup gid (fun g => { g with shards := [], shardEnds := [], lentDue := [],
                                               words := g.words.filter (fun w => w.type != GWord.sendShard) })
  let s3 := if s.gphase gid = GPhase.reconstructing || s.gphase gid = GPhase.regenerating then s2.setPhase gid GPhase.quiet else s2
  match s.group gid with
  | some g => if (s.groupTask Kind.reconstruct gid).isSome then s3.restoreLayout g.cupola else s3
  | none => s3

/-- R173: a member is lost during the rollback fold: it starts again, with SEND_DELTAS to those who are left and SEND_UNDO for every lost
member, on ROLLBACK_FOLD_START; the undo copies that have come are kept. -/
def Group.restartRoll (g : Group) : Group :=
  { g with
    rollStarted := false, rollEnds := [], undoWant := [], regions := [], items := [], ends := [], held := []
    words := g.words.filter (fun w => w.type != GWord.sendDeltas && w.type != GWord.sendUndo && w.type != GWord.resend) }

/-- R182, R176, Table 6.1: the state of a group with lost members: RECOVERING where its current lanes allow, else HELD. -/
def judgeLoss (s : State) (gid : Nat) : State :=
  match s.group gid with
  | none => s
  | some g =>
    if g.current.length < (s.lostOf g).length then s.holdGroup gid 1
    else if s.gstate gid = GState.held then s
    else s.setGState gid GState.recovering 0

/-- Table 6.8: where the job's step stands when a member of group `g` has been lost in state `s`; `u` is the state since. Once the seal
is decided, or can be, nothing rolls back. -/
def lossStep (s u : State) (g : Group) (logical : Nat) : State :=
  let gid := g.gid
  let p := s.recovery gid
  let gs := s.jobGroups g.job
  let ingest := gs.any (fun x => s.gphase x.gid == GPhase.ingest)
  let folded := gs.any (fun x => s.gphase x.gid == GPhase.folded) || s.grd.reports.any (fun r => r.job == g.job && r.step == p + 1)
  if s.sealDecided g.job (p + 1) then u
  else if s.decides g.job && s.allFolded g.job (p + 1) then u.trySeal g.job (p + 1)
  else if !ingest && !folded then u
  else
    let mine := s.gphase gid == GPhase.ingest
    let u1 := if mine then
        u.stopWhere (fun t => t.kind == Kind.fold && t.group == gid && t.step == p + 1) Fate.peerLost (logical % 2 ^ 16)
      else u
    let u2 := u1.requestRollback g.job p false
    if (mine || s.gphase gid == GPhase.folded) && !rollbackPossible g.rcd.k (s.watermark gid) (u.lostOf g) then u2.ingestLoss gid
    else u2

/-- R172, R174, R176, R180, R182: a member of a bound group is lost. During a REGENERATE the group stays EXPOSED (Table 6.9) unless its
current lanes allow a recovery. DEDUCED (log entry 139). -/
def memberLost (s : State) (logical : Nat) : State :=
  match s.grd.groups.findSome? (fun g =>
      if g.bound then ((List.range g.rcd.k).find? (fun i => g.rcd.members.getD i 0 == logical)).map (fun i => (g, i)) else none) with
  | none => s
  | some (g, i) =>
    if (s.lostOf g).contains i then s
    else
      let gid := g.gid
      let s1 := s.pi F.GRD_GROUP_LOST gid (setBit (s.gi F.GRD_GROUP_LOST gid) i true)
      let s2 := s1.updGroup gid (fun g => { g with words := g.words.filter (fun w => w.member != i),
                                                   held := g.held.filter (fun h => h.item.member != i) })
      let s3 := (s2.raise F.GRD_EVENT_MEMBER_LOST gid i).endGroupWork gid Fate.peerLost (logical % 2 ^ 16)
      let st := s.gstate gid
      if st = GState.disabling || st = GState.disabled then s3
      else
        let lost := s3.lostOf g
        let stays := s.gphase gid == GPhase.regenerating && decide (g.current.length < lost.length)
        let s4 := if stays then s3 else s3.judgeLoss gid
        let s5 :=
          if s.gphase gid ≠ GPhase.rollingBack then s4
          else if rollbackPossible g.rcd.k (g.rollW.getD 0) lost then s4.updGroup gid Group.restartRoll
          else s4.ingestLoss gid
        s.lossStep s5 g logical

/-- MEMBER_LOSS_REPORT (R172, Table 6.8): while the step is not sealed the coordinator decides the seal, where every group is FOLDED, and
else orders the job back. -/
def memberLossReport (s : State) (job step : Nat) : State :=
  if !s.decides job || s.sealDecided job step || step = 0 then s
  else if s.allFolded job step then s.trySeal job step
  else s.orderRollback job (step - 1) false

/-- JOB_ROLLBACK_ORDER (R172): the groups of the job that stand at the named recovery point go back to it. -/
def jobRollbackOrder (s : State) (job p : Nat) : State :=
  if (s.jobGroups job).any (fun g => s.recovery g.gid == p) then s.rollbackLocal job p false else s

/-- FOLDED_REPORT (R167, R245) at the coordinator. -/
def foldedReport (s : State) (spire job step : Nat) (groups : List Nat) (hold : Bool) : State :=
  if !s.decides job then s
  else
    let r : Report := ⟨spire, job, step, groups, hold⟩
    let keep := s.grd.reports.filter (fun x => !(x.spire == spire && x.job == job && x.step == step))
    let s1 := { s with grd := { s.grd with reports := keep ++ [r] } }
    (if hold then s1.holdSeal job step else s1).trySeal job step

/-- SEAL_RECORD (R168): the record goes to JOURNAL, the job's FOLDED groups advance to the step, their members get SEAL, and those of a
group that has lost a member ROLLBACK to the step too (Table 6.8); a group that is being disabled gets RELEASE (R187). -/
def sealRecord (s : State) (job step : Nat) : State :=
  if s.decides job && !s.sealDecided job step then s
  else
    let mine := (s.jobGroups job).filter (fun g => s.gphase g.gid == GPhase.folded && s.recovery g.gid + 1 == step)
    let s1 := { s with grd := { s.grd with
      seals := updWhere (fun x => x.job == job && x.step == step) (fun x => { x with written := true }) s.grd.seals
      reports := s.grd.reports.filter (fun r => !(r.job == job && r.step == step))
      journal := s.grd.journal ++ [(job, step, s.g F.PLAN_EPOCH_CURRENT)] } }
    let s2 := mine.foldl (fun (t : State) g =>
      (((t.pi F.GRD_GROUP_STEP_RECOVERY g.gid step).clearProgress g.gid).setPhase g.gid GPhase.quiet).guardWords g.gid
        (t.survivors g) GWord.sealing step true) s1
    let s3 := (mine.filter (fun g => !(s2.lostOf g).isEmpty)).foldl (fun (t : State) g =>
      t.guardWords g.gid (t.survivors g) GWord.rollback step true) s2
    ((s3.releaseGroups job step).count .GRD_COUNT 4).raise F.GRD_EVENT_SEALED job 1

/-- SEAL_ACK and ROLLBACK_DONE (R169): the word is not posted again. -/
def wordAnswer (s : State) (node word step : Nat) : State :=
  match s.memberAt node with
  | none => s
  | some (g, i) => s.answered g.gid i word (fun p => p == step)

/-- GUARDIAN_WORD_REPOST (R169): each unanswered word of an earlier round is posted again where the mailbox is free. -/
def repostWords (s : State) : State :=
  s.grd.groups.foldl (fun (t : State) g => g.words.foldl (fun (t : State) w =>
    let n := t.memberNode g w.member
    if decide (w.since < t.round) && !t.outFull Party.agent n 1
        && !t.mbx.waiting.any (fun x => x.party == Party.agent && x.node == n && x.idx == 1) then
      t.post Party.agent n 1 w.type w.payload
    else t) t) s

/-- ACK_TIMEOUT (R169). -/
def ackTimeout (s : State) (gid member type : Nat) : State :=
  match s.group gid with
  | none => s
  | some g =>
    match g.words.find? (fun w => w.type == type && w.member == member && !w.timedOut) with
    | none => s
    | some w =>
      if s.round < w.since + s.g F.GRD_CFG_ACK_LIMIT then s
      else
        let s1 := s.updGroup gid (fun g => { g with
          words := updWhere (fun x => x == w) (fun x => { x with timedOut := true }) g.words })
        let s2 := s1.raise F.GRD_EVENT_ACK_TIMEOUT gid type
        if type = GWord.rollback then
          { s2 with rep := { s2.rep with declared := addOnce (s.memberNode g member) s2.rep.declared } }
        else s2

-- Reconstruction and regeneration (R175 to R181)

/-- Lost members that a RECONSTRUCT rebuilds: its mask, every lost member for a mask of 0. -/
def erasedOf (s : State) (g : Group) (t : Task) : List Nat :=
  if t.param 0 2 = 0 then s.lostOf g else maskMembers g.rcd.k (t.param 0 2)

/-- RECONSTRUCT to STAGE, and from STAGE (Table 7.3). -/
def toStage (t : Task) : Bool := t.param 2 1 == 1
def fromStage (t : Task) : Bool := t.param 3 1 == 1

/-- A position is served: an element plays it that has not failed. -/
def served (s : State) (g : Group) (i : Nat) : Bool :=
  let n := s.memberNode g i
  s.placedAt n && !s.rep.failedNodes.contains n

/-- R178, R179: a RECONSTRUCT has ended DONE, or the rebuild that Varlor runs by itself after a shrink (R145). -/
def reconstructed (s : State) (gid : Nat) (erased : List Nat) (staged : Bool) (t : Option Task) : State :=
  match s.group gid with
  | none => s
  | some g =>
    let s0 := s.updGroup gid (fun g => { g with shards := [], shardEnds := [],
                                                words := g.words.filter (fun w => w.type != GWord.sendShard) })
    let s1 := (s0.setPhase gid GPhase.quiet).count .GRD_COUNT 6
    let s2 :=
      if staged then s1
      else
        let m := erased.foldl (fun m i => setBit m i false) (s1.gi F.GRD_GROUP_LOST gid)
        let u := erased.foldl (fun (t : State) i => t.unmark (g.rcd.members.getD i 0)) (s1.pi F.GRD_GROUP_LOST gid m)
        if m ≠ 0 then u
        else if g.current.length = g.rcd.m then (u.setGState gid GState.protectedS 0).resumeGroup gid
        else (u.expose gid).resumeGroup gid
    match t with
    | some t => ((s2.raise F.GRD_EVENT_RECONSTRUCTED gid 1).stopTask t.idx Fate.done t.checkOnly).restoreLayout g.cupola
    | none => { s2 with grd := { s2.grd with stageDue := s2.grd.stageDue.filter (fun x => x != gid) } }

/-- A RECONSTRUCT's REBUILT items have all been confirmed and cover the lost shards (R178). -/
def checkRebuilt (s : State) (idx : Nat) : State :=
  match s.task idx with
  | none => s
  | some t =>
    match s.group t.group with
    | none => s
    | some g =>
      let erased := if fromStage t then [t.param 4 1] else s.erasedOf g t
      if t.state = 3 && s.subsOver idx && decide (g.rcd.shard * erased.length ≤ t.bytesDone) then
        let s1 := if fromStage t then
            { s with grd := { s.grd with staged := s.grd.staged.filter (fun e => !(e.1 == g.gid && e.2.1 == t.param 4 1)) } }
          else s
        s1.reconstructed g.gid erased false (some t)
      else s

/-- REBUILT items of a region for each lost member. -/
def rebuiltItems (s : State) (g : Group) (t : Task) (erased : List Nat) (bs : List Bytes) (off : Nat) : List OutItem :=
  (erased.zip bs).map (fun e =>
    ⟨t.idx, 0, GType.rebuilt, e.1, s.memberNode g e.1, g.gid, s.recovery g.gid, g.regionOf off, off, e.2⟩)

/-- R185: the blocks of the current lanes that peers hold are asked for, for a region. -/
def askLent (s : State) (g : Group) (r : Nat) : State :=
  (g.current.filterMap (fun j => (g.peer j).map (fun q => (j, q)))).foldl (fun (t : State) e =>
    t.send .laneRequest e.2 g.gid [e.1, r]) s

/-- R156, R176: the erasures exceed the current lanes: nothing is decoded, the RECONSTRUCT ends FAILED_PEER_LOST, and the group is
HELD. -/
def tooManyLost (s : State) (g : Group) (erased : List Nat) : State :=
  (s.endGroupWork g.gid Fate.peerLost (g.rcd.members.getD (erased.headD 0) 0 % 2 ^ 16)).holdGroup g.gid 1

/-- R178, R179, R185: a region of a RECONSTRUCT has become complete: lent blocks asked for, decoded, compared, sent to the spare. -/
def rebuildRegion (s : State) (t : Task) (g : Group) (erased : List Nat) (r : Nat) : State :=
  let out := g.decodeRegion erased r
  if g.current.length < erased.length then s.tooManyLost g erased
  else
    let s1 := s.askLent g r
    if g.laneDisagrees erased out r then s1.endGroupWork g.gid Fate.check r
    else s1.issueItems t.idx (s1.rebuiltItems g t erased out (r * g.rcd.region))

/-- R179, R145: a RECONSTRUCT to STAGE has every region. -/
def stageShards (s : State) (t : Option Task) (g : Group) (erased : List Nat) : State :=
  let rs := (List.range g.count).map (fun r => (r, g.decodeRegion erased r))
  let s := (List.range g.count).foldl (fun (t : State) r => t.askLent g r) s
  if g.current.length < erased.length then s.tooManyLost g erased else
  match rs.find? (fun e => g.laneDisagrees erased e.2 e.1) with
  | some e => s.endGroupWork g.gid Fate.check e.1
  | none =>
    let whole : List (Nat × Nat × Bytes) := (List.range erased.length).map (fun k =>
      (g.gid, erased.getD k 0, (rs.map (fun e => e.2.getD k [])).flatten))
    let s1 := { s with grd := { s.grd with
      staged := s.grd.staged.filter (fun (e : Nat × Nat × Bytes) => !(e.1 == g.gid && erased.contains e.2.1)) ++ whole } }
    s1.reconstructed g.gid erased true t

/-- R181, R183, R184: every member's state has come: the blocks of `lanes` are computed. Local ones are written; for a lent one the peer
gets what turns the block it has into the new one, as an accumulation that it adds (R184), and acknowledges it. They are sub-items of the
REGENERATE, where a task runs. DEDUCED (log entry 141). -/
def regenerated (s : State) (g : Group) (lanes : List Nat) : State :=
  let blocks := lanes.flatMap (fun j => (List.range g.count).map (fun r =>
    (⟨j, r, encodeBlock j (g.allShards [] [] r)⟩ : ParityBlock)))
  let lent := blocks.filterMap (fun b => (g.peer b.lane).map (fun q => (b, q)))
  let s1 := s.updGroup g.gid (fun g => { g with
    parity := g.parity.filter (fun b => !lanes.contains b.lane) ++ blocks, shards := [], shardEnds := []
    lentDue := lent.map (fun e => (e.1.lane, e.1.region))
    words := g.words.filter (fun w => w.type != GWord.sendShard) })
  let acc (b : ParityBlock) : Bytes := xorBytes (g.block b.lane b.region) b.block
  let s2 := match s.groupTask Kind.regenerate g.gid with
    | some t => s1.issueItems t.idx (lent.map (fun e =>
        ⟨t.idx, 3, 0, e.1.lane, e.2, g.gid, s.recovery g.gid, e.1.region, e.1.region * g.rcd.region, acc e.1⟩))
    | none => lent.foldl (fun (t : State) e => t.emit .laneAcc e.2 g.gid [e.1.lane, e.1.region, 0] (acc e.1)) s1
  if lent.isEmpty then s2.finishRegen g.gid else s2

/-- What newly gathered shard bytes of the regions `rs` allow a running RECONSTRUCT or REGENERATE to do. -/
def shardProgress (s : State) (gid : Nat) (fresh : List Nat) : State :=
  match s.group gid with
  | none => s
  | some g =>
    match s.groupTask Kind.reconstruct gid, s.groupTask Kind.regenerate gid with
    | some t, _ =>
      let erased := s.erasedOf g t
      let rest := s.survivors g
      if t.state ≠ 3 then s
      else if toStage t then
        if (List.range g.count).all (fun r => rest.all (fun i => g.shardCovers i r)) then s.stageShards (some t) g erased else s
      else
        (fresh.filter (fun r => rest.all (fun i => g.shardCovers i r))).foldl (fun (u : State) r =>
          match u.task t.idx with
          | some t => if t.state = 3 then u.rebuildRegion t g erased r else u
          | none => u) s
    | none, some _ =>
      if s.groupActive g && s.gphase gid = GPhase.regenerating && g.shardsWhole then s.regenerated g g.lanes else s
    | none, none =>
      if s.groupActive g && s.gphase gid = GPhase.regenerating && s.grd.regen.contains gid && g.shardsWhole then
        s.regenerated g (g.lanes.filter (fun j => !g.current.contains j))
      else if s.gphase gid = GPhase.reconstructing && s.grd.stageDue.contains gid
          && (List.range g.count).all (fun r => (s.survivors g).all (fun i => g.shardCovers i r)) then
        s.stageShards none g (s.lostOf g)
      else s

/-- SHARD (R160, R178, R181): an item that answers SEND_SHARD joins the group's gathered shards; the regions that it
completes are used. `none` when nothing was gathered. -/
def gatherShard (s : State) (it : GItem) : State × Option Nat :=
  if !headerOk GType.shard it then (s.count .GRD_COUNT 2, none)
  else
    match s.group it.group with
    | none => (s.refuseItem, none)
    | some g =>
      let good := crc64 it.payload == it.check
      let n := it.payload.length
      let span := (List.range g.count).filter (fun r => decide (r * g.rcd.region < it.offset + n)
        && decide (it.offset < r * g.rcd.region + g.span r))
      let use (t : State) : State × Option Nat :=
        let before := span.filter (fun r => g.shardCovers it.member r)
        let t1 := t.updGroup g.gid (fun g => { g with
          shards := g.shards.filter (fun x => !(x.member == it.member && x.offset == it.offset)) ++ [it] })
        (t1.shardProgress g.gid (span.filter (fun r => !before.contains r)), some g.gid)
      if !outstanding g it.member GWord.sendShard || it.step ≠ s.recovery g.gid || n = 0
          || decide (g.rcd.shard < it.offset + n) then (s.refuseItem, none)
      else if it.resent then
        match s.settleResent g it good with
        | (t, some true) =>
          match s.groupTask Kind.reconstruct g.gid, s.groupTask Kind.regenerate g.gid with
          | some x, _ => use (t.updTask x.idx (fun y => { y with checkOnly := y.checkOnly
              + (if g.held.any (fun h => h.item.payload == it.payload && h.item.offset == it.offset) then 1 else 0) }))
          | _, _ => use t
        | (t, some false) => (t.endGroupWork g.gid Fate.check (g.regionOf it.offset), none)
        | (t, none) => (t, none)
      else if good then use s
      else
        match s.holdItem g it with
        | (t, true) => (t, none)
        | (t, false) => (t.endGroupWork g.gid Fate.check (g.regionOf it.offset), none)

/-- END that answers SEND_SHARD (Table 6.7). -/
def endShards (s : State) (g : Group) (it : GItem) : State × Option Nat :=
  let before := (List.range g.count).filter (fun r => g.shardCovers it.member r)
  let s1 := s.updGroup g.gid (fun g => { g with shardEnds := addOnce it.member g.shardEnds })
  let s2 := s1.answered g.gid it.member GWord.sendShard (fun _ => true)
  (s2.shardProgress g.gid ((List.range g.count).filter (fun r => !before.contains r)), some g.gid)

-- Tasks of the guardian at their start (R186)

/-- A task starts to run. -/
def running (s : State) (idx : Nat) : State := s.updTask idx (fun t => { t with state := 3, started := s.round })

/-- FOLD: DONE at once when the group is FOLDED for the step. -/
def startFold (s : State) (t : Task) : State :=
  let st := s.gstate t.group
  if st = GState.disabling || st = GState.disabled then s.endTask t.idx Fate.disabled (disabledDetail 2 t.group)
  else if s.gphase t.group = GPhase.folded && s.recovery t.group + 1 = t.step then
    match s.group t.group with
    | some g => ((s.running t.idx).updTask t.idx (fun y => { y with bytesDone := g.bytes })).endTask t.idx Fate.done g.checkOnly
    | none => s
  else s.running t.idx

/-- SEAL: DONE at once for a step that is sealed. -/
def startSeal (s : State) (t : Task) : State :=
  if s.grd.seals.any (fun x => x.job == t.job && decide (t.step ≤ x.step)) then (s.running t.idx).endTask t.idx Fate.done 0
  else (s.running t.idx).trySeal t.job t.step

/-- RECONSTRUCT (R175, R176, R179): it waits until its conditions hold. -/
def startReconstruct (s : State) (t : Task) : State :=
  match s.group t.group with
  | none => s.endTask t.idx Fate.policy 3
  | some g =>
    let gid := g.gid
    let st := s.gstate gid
    if st = GState.disabling || st = GState.disabled then s.endTask t.idx Fate.disabled (disabledDetail 2 gid)
    else if fromStage t then
      match s.grd.staged.find? (fun e => e.1 == gid && e.2.1 == t.param 4 1) with
      | none => s
      | some e =>
        if !s.groupActive g || !s.served g e.2.1 || s.gphase gid ≠ GPhase.quiet then s
        else
          let items : List OutItem := (List.range g.count).map (fun r =>
            ⟨t.idx, 0, GType.rebuilt, e.2.1, s.memberNode g e.2.1, gid, s.recovery gid, r, r * g.rcd.region,
              (e.2.2.drop (r * g.rcd.region)).take (g.span r)⟩)
          ((s.running t.idx).setPhase gid GPhase.reconstructing).issueItems t.idx items
    else
      let erased := s.erasedOf g t
      let lost := s.lostOf g
      if g.current.length < (unionL erased lost).length then
        (s.endTask t.idx Fate.peerLost (g.rcd.members.getD (lost.headD 0) 0 % 2 ^ 16)).holdGroup gid 1
      else if !(st = GState.recovering || st = GState.held) || s.gphase gid ≠ GPhase.quiet || !s.groupActive g
          || !(toStage t || erased.all (s.served g)) then s
      else if lost.any (fun i => !erased.contains i) then
        s.endTask t.idx Fate.peerLost (g.rcd.members.getD ((lost.filter (fun i => !erased.contains i)).headD 0) 0 % 2 ^ 16)
      else if toStage t && decide (s.reconRoom < g.rcd.shard * erased.length) then s.endTask t.idx Fate.capacity 1
      else
        let s1 := ((s.running t.idx).setPhase gid GPhase.reconstructing).updGroup gid (fun g => { g with
          shards := [], shardEnds := [] })
        s1.guardWords gid (s.survivors g) GWord.sendShard (s.recovery gid) true

/-- REGENERATE (R152, R181): it names the recovery point. Lanes that are current at that very point keep their protection throughout
(R183); otherwise no lane is current until it ends. -/
def startRegenerate (s : State) (t : Task) : State :=
  match s.group t.group with
  | none => s.endTask t.idx Fate.policy 3
  | some g =>
    let gid := g.gid
    let st := s.gstate gid
    if st = GState.disabling || st = GState.disabled then s.endTask t.idx Fate.disabled (disabledDetail 2 gid)
    else if !s.groupActive g || s.gphase gid ≠ GPhase.quiet then s
    else
      match (s.lostOf g).find? (fun i => !s.served g i) with
      | some i => s.endTask t.idx Fate.peerLost (g.rcd.members.getD i 0 % 2 ^ 16)
      | none =>
        let short := match s.plan.cur with | some p => decide (s.dramCap < p.dramNeed) | none => false
        if short then s.endTask t.idx Fate.capacity 3
        else
          let s1 := (((s.running t.idx).pi F.GRD_GROUP_STEP_RECOVERY gid t.step).clearProgress gid).setPhase gid
            GPhase.regenerating
          let keep := if t.step = s.recovery gid then g.current else []
          let kept (b : ParityBlock) : Bool := keep.contains b.lane || (g.peer b.lane).isSome
          let s2 := (s1.updGroup gid (fun g => { g with
            shards := [], shardEnds := [], lentDue := [], parity := g.parity.filter kept })).setCurrent gid keep
          let s3 := if st = GState.protectedS && decide (keep.length < g.lanes.length) then s2.expose gid else s2
          s3.guardWords gid (List.range g.rcd.k) GWord.sendShard t.step true

/-- SENTINEL_CHECK (R246): the rules of its set once the group is FOLDED for the step, or has sealed it. -/
def startSentinel (s : State) (t : Task) : State :=
  match s.group t.group with
  | none => s.endTask t.idx Fate.policy 3
  | some g =>
    let p := s.recovery g.gid
    let reached := (s.gphase g.gid == GPhase.folded && g.evaluated && decide (t.step ≤ p + 1)) || decide (t.step ≤ p)
    let s1 := s.running t.idx
    if !reached then s1
    else
      let (s2, hold) := s1.evaluateSet (s.planOf t) g (t.param 0 1) t.step
      let late := decide (t.step ≤ p) || s.sealDecided g.job t.step
      let s3 :=
        if !hold then s2
        else if late then s2.raise F.SEN_EVENT_LATE_HOLD g.job 1
        else if s2.decides g.job then s2.holdSeal g.job t.step
        else (s2.updGroup g.gid (fun g => { g with hold := true })).reportFolded g.job t.step
      s3.endTask t.idx Fate.done 0

-- Lending (R184, R185)

/-- The lending-in record of a peer's lane. -/
def lends (s : State) (spire gid lane : Nat) : Bool :=
  match s.plan.cur with
  | some p => p.lends.any (fun l => l.spire == spire && l.group == gid && l.lane == lane)
  | none => false

/-- LENDING_IN_ACCUMULATION: read, add, write, acknowledge. -/
def lendingIn (s : State) (spire gid lane r : Nat) (acc : Bytes) : State :=
  if !s.lends spire gid lane then s
  else
    let mine (x : LentIn) : Bool := x.spire == spire && x.group == gid && x.lane == lane && x.region == r
    let old := ((s.grd.lentIn.find? mine).map (·.block)).getD []
    let x : LentIn := ⟨spire, gid, lane, r, xorBytes old acc⟩
    let s1 := { s with grd := { s.grd with lentIn := s.grd.lentIn.filter (fun y => !mine y) ++ [x] } }
    s1.send .laneAck spire gid [lane, r]

/-- LENT_BLOCK_REQUEST: the block goes to the peer. -/
def lentRequest (s : State) (spire gid lane r : Nat) : State :=
  if !s.lends spire gid lane then s
  else
    let hit := s.grd.lentIn.find? (fun x => x.spire == spire && x.group == gid && x.lane == lane && x.region == r)
    s.emit .laneBlock spire gid [lane, r] ((hit.map (·.block)).getD [])

/-- A lane of a group is lost (R165, R184): PROTECTED becomes EXPOSED; a group with lost members that is left with too few is HELD
(Table 6.1, R176). -/
def laneLost (s : State) (gid : Nat) (lanes : List Nat) : State :=
  match s.group gid with
  | none => s
  | some g =>
    let gone := lanes.filter (fun j => g.current.contains j)
    if gone.isEmpty then s
    else
      let s1 := (s.loseLanes gid gone).raise F.GRD_EVENT_LANE_LOST gid gone.length
      let st := s.gstate gid
      let lost := s.lostOf g
      if st = GState.protectedS then s1.expose gid
      else if (st = GState.recovering || st = GState.exposed) && decide (g.current.length - gone.length < lost.length) then
        s1.tooManyLost g lost
      else s1

/-- R183, R184: the group's missing lanes are to be regenerated by Varlor itself. -/
def wantRegen (s : State) (gid : Nat) : State := { s with grd := { s.grd with regen := addOnce gid s.grd.regen } }

/-- R152, R181, R183, R184: a regeneration that Varlor runs by itself starts at the recovery point as soon as the group is
QUIET, its cupola ACTIVE, no member of it lost, and LPDDR5X holds its lanes: a lost member's state comes back from the lanes that are
current, by a RECONSTRUCT, before it serves to form the others. -/
def selfRegenerate (s : State) (gid : Nat) : State :=
  match s.group gid with
  | none => s
  | some g =>
    let st := s.gstate gid
    let short := match s.plan.cur with | some p => decide (s.dramCap < p.dramNeed) | none => false
    if !s.grd.regen.contains gid || st = GState.disabling || st = GState.disabled || !s.groupActive g
        || s.gphase gid ≠ GPhase.quiet || !(s.lostOf g).isEmpty || short
        || (s.groupTask Kind.reconstruct gid).isSome || (s.groupTask Kind.regenerate gid).isSome then s
    else
      let s1 := (s.clearProgress gid).setPhase gid GPhase.regenerating
      let s2 := s1.updGroup gid (fun g => { g with shards := [], shardEnds := [], lentDue := [] })
      s2.guardWords gid (List.range g.rcd.k) GWord.sendShard (s.recovery gid) true

/-- R145: after a shrink the lost members' shards are rebuilt at the recovery point into RECON_STAGE, without a task, as soon as the
group is QUIET, its cupola ACTIVE, its lanes enough, and RECON_STAGE has the room. -/
def selfStage (s : State) (gid : Nat) : State :=
  match s.group gid with
  | none => s
  | some g =>
    let lost := s.lostOf g
    if !s.grd.stageDue.contains gid || lost.isEmpty || !s.groupActive g || s.gphase gid ≠ GPhase.quiet
        || decide (g.current.length < lost.length) || decide (s.reconRoom < g.rcd.shard * lost.length) then s
    else
      ((s.setPhase gid GPhase.reconstructing).updGroup gid (fun g => { g with shards := [], shardEnds := [] })).guardWords gid
        (s.survivors g) GWord.sendShard (s.recovery gid) true

/-- R145: a group of a cupola that has shrunk, or whose job is held, with lost members: it is HELD for that reason; after a shrink its
shards are due in RECON_STAGE. -/
def holdLost (s : State) (cupola reason : Nat) : State :=
  (s.grd.groups.filter (fun g => g.bound && g.cupola == cupola && !(s.lostOf g).isEmpty && s.gstate g.gid != GState.disabling)).foldl
    (fun (t : State) g =>
      let u := if t.gstate g.gid = GState.held then t else t.holdGroup g.gid reason
      if reason = 5 then { u with grd := { u.grd with stageDue := addOnce g.gid u.grd.stageDue } } else u) s

/-- At a round boundary: what waits to be regenerated starts; a group that is unbound or disabled waits no longer. -/
def runRegens (s : State) : State :=
  let wants (gid : Nat) : Bool := match s.group gid with
    | some g => g.bound && s.gstate gid != GState.disabling && s.gstate gid != GState.disabled
    | none => false
  let s1 := { s with
    grd := { s.grd with regen := s.grd.regen.filter wants, stageDue := s.grd.stageDue.filter wants }
    twin := { s.twin with regenDue := s.twin.regenDue.filter wants } }
  let s2 := s1.grd.regen.foldl (fun (t : State) gid => t.selfRegenerate gid) s1
  s2.grd.stageDue.foldl (fun (t : State) gid => t.selfStage gid) s2

/-- LANE_LOSS_REPORT: a peer has lost a lane that this Varlor lent to it. -/
def laneLossReport (s : State) (spire gid lane : Nat) : State :=
  match s.group gid with
  | none => s
  | some g => if g.peer lane = some spire then ((s.laneLost gid [lane]).wantRegen gid).selfRegenerate gid else s

/-- DIRECT_FOLD_SWITCH (R164): groups marked after SRAM loss, at their QUIET phase. -/
def directFoldSwitch (s : State) : State :=
  let due := s.grd.directPending.filter (fun gid => s.gphase gid == GPhase.quiet)
  let s1 := { s with grd := { s.grd with directPending := s.grd.directPending.filter (fun gid => !due.contains gid) } }
  due.foldl (fun (t : State) gid =>
    match t.group gid with
    | none => t
    | some g =>
      if g.rcd.modes / 8 % 2 = 1 then
        ((t.pi F.GRD_GROUP_DIRECT gid 1).raise F.GRD_EVENT_DIRECT_FOLD gid 1).alarm 5 gid
      else t.holdGroup gid 3) s1

-- Disabling (R187, R210)

/-- A request to disable a group (R187, R210): the step that follows its recovery point goes on without it, and its members get RELEASE
with that step. -/
def disableRequest (s : State) (gid : Nat) : State :=
  let st := s.gstate gid
  if st = GState.disabling || st = GState.disabled then s
  else
    (s.updGroup gid (fun g => { g with
      disableAt := some s.round, before := st, releaseDue := if g.bound then some (s.recovery gid + 1) else none })).setGState gid
        GState.disabling 0

/-- DISABLE_GROUP. -/
def disableGroup (s : State) (gid : Nat) : State :=
  match s.group gid with
  | none => s.err Status.value 0
  | some _ => (s.disableRequest gid).ok

/-- The tasks of a disabled group end, its lanes are discarded, it is unbound (R152) and reports DISABLED; the seal of its job goes on
without it. -/
def disableSettle (s : State) (gid : Nat) : State :=
  match s.group gid with
  | none => s
  | some g =>
    match g.disableAt with
    | none => s
    | some q =>
      if s.gstate gid ≠ GState.disabling || decide (s.round < q + 5) then s
      else
        let step := s.recovery gid + 1
        let s1 := (s.stopWhere (fun t => t.group == gid && (t.kind == Kind.fold || t.kind == Kind.reconstruct
          || t.kind == Kind.regenerate)) Fate.disabled (disabledDetail 2 gid))
        let s2 := ((s1.clearProgress gid).setPhase gid GPhase.quiet).updGroup gid (fun g => { g with
          parity := [], shards := [], shardEnds := [], lentDue := [], words := [], disableAt := none, bound := false })
        let s3 := ((s2.setCurrent gid []).pi F.GRD_GROUP_LOST gid 0).raise F.GRD_EVENT_DISABLED gid 1
        (s3.setGState gid GState.disabled 0).reportFolded g.job step

/-- A group becomes bound: EXPOSED, with no lane current. -/
def bindGroup (s : State) (gid cupola job : Nat) : State :=
  let fresh (g : Group) : Group := { Group.fresh g.rcd with
    bound := true, job := job, cupola := cupola, releaseDue := if g.job = job then g.releaseDue else none }
  let s1 := (s.updGroup gid fresh).setCurrent gid []
  (((s1.clearProgress gid).setPhase gid GPhase.quiet).pi F.GRD_GROUP_LOST gid 0).expose gid

/-- The cupola that a group was bound for is still carved for its job, and not RETIRING (R152). -/
def keepsCupola (s : State) (g : Group) : Bool :=
  let st := s.cupState g.cupola
  (st == 3 || st == 4 || st == 5) && g.cupola != 0 && s.gi F.CUP_JOB_JOB g.cupola == g.job

/-- ENABLE_GROUP: a DISABLED group is EXPOSED; it is bound again where its cupola still holds the job. -/
def enableGroup (s : State) (gid : Nat) : State :=
  match s.group gid with
  | none => s.err Status.value 0
  | some g =>
    let st := s.gstate gid
    if st = GState.disabling then s.err Status.state 0
    else if st = GState.disabled then
      (if s.keepsCupola g then s.bindGroup gid g.cupola g.job else s.expose gid).ok
    else s.ok

/-- R152: the groups of a cupola become unbound when it enters RETIRING. -/
def unbindGroups (s : State) (c : Nat) : State :=
  (s.grd.groups.filter (fun g => g.bound && g.cupola == c)).foldl (fun (t : State) g =>
    t.updGroup g.gid (fun g => { g with bound := false })) s

/-- RELEASE_SEAL (R245): the hold of the job in GRD_ARG ends, and its seal can be decided. -/
def releaseSeal (s : State) : State :=
  let job := s.g F.GRD_ARG_JOB
  match s.sen.holds.find? (fun h => h.1 == job) with
  | none => s.err Status.state 0
  | some h => ((s.endHold job).trySeal job h.2).ok

/-- ROLLBACK_JOB (R245): the job in GRD_ARG goes back while its step is unsealed. -/
def rollbackJob (s : State) : State :=
  let job := s.g F.GRD_ARG_JOB
  let gs := s.jobGroups job
  match gs.find? (fun g => s.gphase g.gid == GPhase.ingest || s.gphase g.gid == GPhase.folded) with
  | none => s.err Status.state 0
  | some g =>
    let p := s.recovery g.gid
    if s.sealDecided job (p + 1) then s.err Status.state 0 else (s.requestRollback job p true).ok

/-- CLEAR_SUSPECT (R247): the mark goes, and a RESUME that was withheld for it follows. -/
def clearSuspect (s : State) : State :=
  let n := s.g F.SEN_ARG_NODE
  if n / 512 ≠ s.spire || localOf n ≥ 510 then s.err Status.value 0
  else
    let s1 := s.unmark n
    let due := s1.grd.groups.filter (fun g => g.resumeHeld && g.rcd.members.contains n && !g.rcd.members.any s1.suspect)
    (due.foldl (fun (t : State) g => t.resumeGroup g.gid) s1).ok

/-- R152: what waited for a cupola to be ACTIVE again goes on: rollback folds, regenerations and the sub-items of tasks. -/
def resumeWork (s : State) : State :=
  let s1 := s.grd.groups.foldl (fun (t : State) g => (t.checkRollback g.gid).shardProgress g.gid []) s
  (s1.tasksWhere (fun t => t.state == 3)).foldl (fun (t : State) x => t.pump x.idx) s1

/-- STATS_WAIT_END (R248). -/
def statsWaitEnd (s : State) (gid : Nat) : State :=
  match s.group gid with
  | none => s
  | some g =>
    match g.statsWait with
    | none => s
    | some n => if s.round < n then s else s.settleFold gid

-- Binding of groups (R152)

/-- R152: groups of a cupola's template that it serves become bound when it is first ACTIVE. -/
def bindGroups (s : State) (cupola job : Nat) : State :=
  match s.template cupola with
  | none => s
  | some t =>
    let nodes := s.tables.membersOf cupola
    (s.grd.groups.filter (fun g => !g.bound && (s.gstate g.gid == GState.idle || s.gstate g.gid == GState.exposed)
      && g.rcd.tpl == t.id
      && g.rcd.members.all (fun n => nodes.contains n))).foldl (fun (u : State) g => u.bindGroup g.gid cupola job) s

end State

-- The meanings

/-- SAMPLE (R238). -/
def execSample (it : GItem) (s : State) : Host.Outcome State Fault Refusal := finish (s.sampleItem it)
/-- UNDO (R171). -/
def execUndo (it : GItem) (s : State) : Host.Outcome State Fault Refusal := finish (s.undoItem it)
/-- REGION_WRITTEN (R161). -/
def execRegionWritten (group region : Nat) (s : State) : Host.Outcome State Fault Refusal :=
  finish (s.regionWritten group region)
/-- LENT_ACK (R184). -/
def execLentAck (group lane region : Nat) (s : State) : Host.Outcome State Fault Refusal :=
  finish (s.lentAck group lane region)
/-- LENDING_IN_ACCUMULATION (R184). -/
def execLendingInAccumulation (spire group lane region : Nat) (acc : Bytes) (s : State) :
    Host.Outcome State Fault Refusal := finish (s.lendingIn spire group lane region acc)
/-- LENT_BLOCK_REQUEST (R185). -/
def execLentBlockRequest (spire group lane region : Nat) (s : State) : Host.Outcome State Fault Refusal :=
  finish (s.lentRequest spire group lane region)
/-- LANE_LOSS_REPORT (R184). -/
def execLaneLossReport (spire group lane : Nat) (s : State) : Host.Outcome State Fault Refusal :=
  finish (s.laneLossReport spire group lane)
/-- DIRECT_FOLD_SWITCH (R164). -/
def execDirectFoldSwitch (s : State) : Host.Outcome State Fault Refusal := finish s.directFoldSwitch
/-- FOLDED_REPORT (R167). -/
def execFoldedReport (spire job step : Nat) (groups : List Nat) (hold : Bool) (s : State) :
    Host.Outcome State Fault Refusal := finish (s.foldedReport spire job step groups hold)
/-- SEAL_RECORD (R168). -/
def execSealRecord (job step : Nat) (s : State) : Host.Outcome State Fault Refusal := finish (s.sealRecord job step)
/-- SEAL_ACK (R169). -/
def execSealAck (node step : Nat) (s : State) : Host.Outcome State Fault Refusal :=
  finish (s.wordAnswer node GWord.sealing step)
/-- ROLLBACK_DONE (R169). -/
def execRollbackDone (node step : Nat) (s : State) : Host.Outcome State Fault Refusal :=
  finish (s.wordAnswer node GWord.rollback step)
/-- GUARDIAN_WORD_REPOST (R169). -/
def execGuardianWordRepost (s : State) : Host.Outcome State Fault Refusal := finish s.repostWords
/-- ACK_TIMEOUT (R169). -/
def execAckTimeout (group member type : Nat) (s : State) : Host.Outcome State Fault Refusal :=
  finish (s.ackTimeout group member type)
/-- ROLLBACK_FOLD_START (R173). -/
def execRollbackFoldStart (group : Nat) (s : State) : Host.Outcome State Fault Refusal :=
  finish (s.rollbackFoldStart group)
/-- DISABLE_GROUP (R187). -/
def execDisableGroup (group : Nat) (s : State) : Host.Outcome State Fault Refusal := finish (s.disableGroup group)
/-- DISABLE_GROUP_SETTLE (R187). -/
def execDisableGroupSettle (group : Nat) (s : State) : Host.Outcome State Fault Refusal := finish (s.disableSettle group)
/-- ENABLE_GROUP (R187). -/
def execEnableGroup (group : Nat) (s : State) : Host.Outcome State Fault Refusal := finish (s.enableGroup group)
/-- RELEASE_SEAL (R245). -/
def execReleaseSeal (s : State) : Host.Outcome State Fault Refusal := finish s.releaseSeal
/-- ROLLBACK_JOB (R245). -/
def execRollbackJob (s : State) : Host.Outcome State Fault Refusal := finish s.rollbackJob
/-- MEMBER_LOSS_REPORT (R172). -/
def execMemberLossReport (_spire job step : Nat) (s : State) : Host.Outcome State Fault Refusal :=
  finish (s.memberLossReport job step)
/-- JOB_ROLLBACK_ORDER (R172). -/
def execJobRollbackOrder (job step : Nat) (s : State) : Host.Outcome State Fault Refusal :=
  finish (s.jobRollbackOrder job step)
/-- STATS_WAIT_END (R248). -/
def execStatsWaitEnd (group : Nat) (s : State) : Host.Outcome State Fault Refusal := finish (s.statsWaitEnd group)
/-- CLEAR_SUSPECT (R247). -/
def execClearSuspect (s : State) : Host.Outcome State Fault Refusal := finish s.clearSuspect

end Sys2Proof.Machine
end

