-- ==== Sys2Proof/Machine/Rdma.lean ====
section
/-! DEFINITION. RoCEv2 with Varlor as requester (R215, R216): queue pairs, operations in order with their PSNs,
acknowledgements and go-back-N, congestion control; and the export and import services that run on them (R217 to R222). -/
namespace Sys2Proof.Machine

/-- One MiB: the largest RDMA operation (R217). -/
def rdmaMax : Nat := 1048576

/-- Packet sequence numbers that an operation takes. -/
def psnCount (mtu len : Nat) : Nat := max 1 (ceilDiv len mtu)

/-- PSN `a` is not after `b`, in their 24-bit cycle. -/
def psnLe (a b : Nat) : Bool := decide ((b + 2 ^ 24 - a % 2 ^ 24) % 2 ^ 24 < 2 ^ 23)

-- Parameters of EXPORT and IMPORT (Table 7.3)
namespace Task
def qp (t : Task) : Nat := t.param 0 1 % 64
def expMask (t : Task) : Nat := t.param 4 2
def rkey (t : Task) : Nat := t.param 8 4
def remoteBase (t : Task) : Nat := t.param 0x10 8
def resume (t : Task) : Nat := t.param 0x18 8
def expRules (t : Task) : List (Nat × Nat × Nat) :=
  (List.range (t.param 2 1)).map (fun i => (t.param (0x28 + 4 * i) 1, t.param (0x29 + 4 * i) 1, t.param (0x2A + 4 * i) 1))
def impMask (t : Task) : Nat := t.param 4 2
def packageLen (t : Task) : Nat := t.param 0x18 8
end Task

namespace State

/-- A word of a queue pair, and a field of it replaced. -/
def qw (s : State) (q i : Nat) : Word := s.rd .ETH_QP_WORD q i
def setQw (s : State) (q i lo len v : Nat) : State := s.wr .ETH_QP_WORD q i (putBits (s.qw q i) lo len v)

/-- STATE of a queue pair: 0 RESET, 1 INIT, 2 RTR, 3 RTS, 4 ERROR. -/
def qpState (s : State) (q : Nat) : Nat := getBits (s.qw q 0) 0 3
/-- Path MTU in bytes. -/
def qpMtu (s : State) (q : Nat) : Nat := 1024 * 2 ^ getBits (s.qw q 0) 4 2
/-- IN_FLIGHT of word 5: operations sent and not acknowledged. -/
def showQp (s : State) (q : Nat) : State :=
  s.setQw q 5 32 16 (s.eth.ops.filter (fun o => o.qp == q && o.issued)).length

/-- The channel that a task's stream runs through: the one it claimed, until a command takes it away (Table 9.3). -/
def channelOf (s : State) (t : Task) : Option Nat := t.channel.filter (fun c => s.chk.claimed.contains (c, t.idx))

/-- The output of an EXPORT task's manifest (Table 7.11). -/
def exportManifest (s : State) (t : Task) : Bytes :=
  let check := match s.channelOf t with
    | some c => (s.chkPoly c).finish (s.gi F.CHK_VALUE_VALUE c)
    | none => 0
  fit 128 (leBytes 4 t.job ++ leBytes 1 t.group ++ leBytes 1 (t.param 2 1) ++ leBytes 2 t.expMask ++ leBytes 8 t.step
    ++ leBytes 4 (s.g F.PLAN_EPOCH_CURRENT) ++ zeros 4 ++ leBytes 8 t.out ++ (t.desc.drop 0x58).take 16
    ++ leBytes 8 t.seed ++ leBytes 8 check ++ leBytes 8 t.firstWrite)

/-- An operation leaves on its queue pair: every packet is marked ECT(0) (R216). -/
def sendOp (s : State) (o : RdmaOp) : State :=
  s.emit .rdma o.qp (getBits (s.qw o.qp 1) 32 24) [o.kind, o.psn, o.rkey, o.addr, o.len] o.data

/-- The next operation of a queue pair that has not been sent takes its PSNs and leaves, in RTS; the first WRITE of an
EXPORT stamps its task, and the SEND carries the manifest. -/
def issueOne (s : State) (o : RdmaOp) : State :=
  let first := getBits (s.qw o.qp 2) 0 24
  let last := (first + psnCount (s.qpMtu o.qp) o.len - 1) % 2 ^ 24
  let s1 :=
    match s.task o.idx with
    | some t => if o.kind = 0 && t.firstWrite = 0 then s.updTask o.idx (fun t => { t with firstWrite := s.lant.now }) else s
    | none => s
  let data := if o.kind = 2 then (match s1.task o.idx with | some t => s1.exportManifest t | none => []) else o.data
  let new : RdmaOp := { o with psn := last, issued := true, data := data }
  let s2 := { s1 with eth := { s1.eth with ops := updWhere (fun x => x == o) (fun _ => new) s1.eth.ops } }
  ((s2.setQw o.qp 2 0 24 ((last + 1) % 2 ^ 24)).sendOp new).showQp o.qp

/-- RoCEv2 traffic may leave: no PFC frame has paused its priority (R264), and in confidential mode the port is secured
(R266). -/
def rdmaOpen (s : State) : Bool := !s.eth.paused && (!s.confidential || s.b F.ETH_STATUS_SECURED)

/-- Operations placed on a queue pair leave in order while it is in RTS. -/
def issueQp : Nat → Nat → State → State
  | 0, _, s => s
  | n + 1, q, s =>
    if s.qpState q ≠ 3 || !s.rdmaOpen then s
    else
      match s.eth.ops.find? (fun o => o.qp == q && !o.issued) with
      | some o => issueQp n q (s.issueOne o)
      | none => s

/-- Every queue pair goes on with what waits on it. -/
def pumpQps (s : State) : State := (List.range 64).foldl (fun (t : State) q => issueQp t.eth.ops.length q t) s

/-- Operations of a task that wait are placed on the queue pair as its in-flight limit allows (R189, R198). -/
def pumpOps : Nat → Nat → State → State
  | 0, _, s => s
  | n + 1, idx, s =>
    match s.task idx, s.eth.waiting.find? (fun o => o.idx == idx) with
    | some t, some o =>
      if t.state == 3 && decide (t.inFlight.length < t.limit) then
        let new : RdmaOp := { o with sub := t.nextSeq }
        let s1 := { s with eth := { s.eth with waiting := s.eth.waiting.erase o, ops := s.eth.ops ++ [new] } }
        let s2 := s1.updTask idx (fun t => { t with
          nextSeq := t.nextSeq + 1, subs := t.subs ++ [⟨t.nextSeq, 1, o.qp, if o.counts then o.len else 0, false, 0, 0⟩] })
        pumpOps n idx (issueQp (s2.eth.ops.length) o.qp s2)
      else s
    | _, _ => s

/-- Operations of a task are queued and leave as its limit and its queue pair allow. -/
def queueOps (s : State) (idx : Nat) (l : List RdmaOp) : State :=
  let s1 := { s with eth := { s.eth with waiting := s.eth.waiting ++ l } }
  pumpOps (s1.eth.waiting.length) idx s1

/-- A task has no operation left to do. -/
def opsOver (s : State) (idx : Nat) : Bool :=
  (match s.task idx with | some t => t.subs.isEmpty | none => true) && !s.eth.waiting.any (fun o => o.idx == idx)

-- EXPORT (R217, R218)

/-- Members that an EXPORT writes, in member-index order. -/
def exportMembers (g : Group) (t : Task) : List Nat := maskMembers g.rcd.k t.expMask

/-- A member's SHARD items in shard order, those of one tensor and format joined: (format, tensor, tensor offset, bytes). -/
def shardRuns (g : Group) (i : Nat) : List (Nat × Nat × Nat × Bytes) :=
  let items := (g.shards.filter (fun x => x.member == i)).mergeSort (fun a b => decide (a.offset ≤ b.offset))
  items.foldl (fun acc x =>
    match acc.getLast? with
    | some (f, t, o, bs) =>
      if f == x.fmt && t == x.tensor && f != 0 then acc.dropLast ++ [(f, t, o, bs ++ x.payload)]
      else acc ++ [(x.fmt, x.tensor, x.tensorOffset, x.payload)]
    | none => [(x.fmt, x.tensor, x.tensorOffset, x.payload)]) []

/-- R218: a member's output: each tensor under the rule that names its format, other bytes unchanged. -/
def memberOutput (g : Group) (t : Task) (i : Nat) : Bytes :=
  ((shardRuns g i).map (fun r =>
    match t.expRules.find? (fun e => e.1 == r.1) with
    | some (src, dst, rnd) =>
      let first := match Fmt.ofTag src with
        | some f => r.2.2.1 / max 1 f.unit * f.perUnit
        | none => 0
      transcode src dst (rnd == 1) t.seed r.2.1 first r.2.2.2
    | none => r.2.2.2)).flatten

/-- One RDMA WRITE of an EXPORT's output: the claimed channel covers it (R254). -/
def exportWrite (s : State) (t : Task) (pos : Nat) (bs : Bytes) : State × RdmaOp :=
  let s1 := match s.channelOf t with
    | some c => s.freeUnit c bs
    | none => s
  (s1, ⟨t.qp, 0, t.idx, 0, 0, t.rkey, t.remoteBase + t.resume + pos, bs.length, pos, true, bs, false⟩)

/-- Output bytes are staged, and every whole MiB of them is written (R217); bytes before the resume offset are not
written again. -/
def exportBytes (s : State) (t : Task) (bs : Bytes) (flush : Bool) : State :=
  let kept := bs.drop (t.resume - t.out)
  let old := ((s.graph.stage.find? (fun e => e.1 == t.idx)).map Prod.snd).getD []
  let pos := max t.out t.resume - t.resume - old.length
  let all := old ++ kept
  let n := if flush then ceilDiv all.length rdmaMax else all.length / rdmaMax
  let left := all.drop (n * rdmaMax)
  let s1 := { s with graph := { s.graph with stage := setKey s.graph.stage t.idx left } }
  let s2 := s1.updTask t.idx (fun t => { t with out := t.out + bs.length })
  let r := (List.range n).foldl (fun (a : State × List RdmaOp) k =>
    let (u, o) := a.1.exportWrite t (pos + k * rdmaMax) ((all.drop (k * rdmaMax)).take rdmaMax)
    (u, a.2 ++ [o])) (s2, [])
  r.1.queueOps t.idx r.2

/-- The output is complete: its rest, the check value of an APPEND channel (R254), and the SEND of the manifest. -/
def exportClose (s : State) (t : Task) : State :=
  let s1 := s.exportBytes t [] true
  let tail : List RdmaOp := match s1.channelOf t with
    | some c =>
      let w := (s1.chkPoly c).width / 8
      if s1.chkAppend c then
        [⟨t.qp, 0, t.idx, 0, 0, t.rkey, t.remoteBase + t.out, w, 0, false,
          leBytes w ((s1.chkPoly c).finish (s1.gi F.CHK_VALUE_VALUE c)), false⟩]
      else []
    | none => []
  s1.queueOps t.idx (tail ++ [(⟨t.qp, 0, t.idx, 0, 2, 0, 0, 128, 0, false, [], false⟩ : RdmaOp)])

/-- Members whose shards have come are written in their order; `flags` of the task counts them. -/
def exportAdvance : Nat → Nat → State → State
  | 0, _, s => s
  | n + 1, idx, s =>
    match s.task idx with
    | none => s
    | some t =>
      match s.group t.group with
      | none => s
      | some g =>
        let ms := exportMembers g t
        if t.state ≠ 3 || decide (ms.length < t.flags) then s
        else if t.flags = ms.length then (s.updTask idx (fun t => { t with flags := t.flags + 1 })).exportClose t
        else
          let i := ms.getD t.flags 0
          if (List.range g.count).all (fun r => g.shardCovers i r) then
            let s1 := (s.updTask idx (fun t => { t with flags := t.flags + 1 })).exportBytes t (memberOutput g t i) false
            exportAdvance n idx s1
          else s

/-- Every running EXPORT of a group goes on with what has come. -/
def exportProgress (s : State) (gid : Nat) : State :=
  (s.tasksWhere (fun t => t.kind == Kind.exp && t.group == gid && t.state == 3)).foldl
    (fun (u : State) t => exportAdvance 18 t.idx u) s

/-- R259: an EXPORT claims its channel, whose selector takes its item ID (Table 9.2), or may not (`none`). -/
def claimChannel (s : State) (t : Task) : Option State :=
  let c := t.param 1 1
  if c = 0xFF then some s
  else if !freeChannel c then none
  else
    let st := s.chkState c
    let fresh := st == Chan.idle && t.resume == 0
    if fresh || (st == Chan.suspended && s.gi F.CHK_BYTES_BYTES c == t.resume) then
      let s0 := if fresh then s.attachChannel c else s.setChk c Chan.attached
      let s1 := s0.pi F.CHK_CFG_SELECTOR c (s.itemId t.idx)
      let s2 := { s1 with chk := { s1.chk with claimed := s1.chk.claimed ++ [(c, t.idx)] } }
      some (s2.updTask t.idx (fun t => { t with channel := some c }))
    else none

/-- A service admits no new item: DISABLED, or from the boundary after the request (R209). -/
def serviceOff (s : State) (f : Fld) (function : Nat) : Bool :=
  s.g f == 2 || s.graph.disables.any (fun d => d.function == function && d.stopped)

/-- EXPORT starts (R217): at the recovery point that its step names. -/
def startExport (s : State) (t : Task) : State :=
  match s.group t.group with
  | none => s.endTask t.idx Fate.policy 3
  | some g =>
    if s.serviceOff F.GRAPH_STATUS_EXPORT 4 then s.endTask t.idx Fate.disabled (disabledDetail 4 0)
    else if s.gstate g.gid = GState.disabling || s.gstate g.gid = GState.disabled then
      s.endTask t.idx Fate.disabled (disabledDetail 2 g.gid)
    else if s.recovery g.gid ≠ t.step || (t.param 0x20 8 == 0 && s.key.entropyFailed) then s
    else
      match s.claimChannel t with
      | none => s.endTask t.idx Fate.disabled (disabledDetail 3 (t.param 1 1))
      | some s1 =>
        let want := t.param 0x20 8
        let (n, s2) := if want = 0 then s1.draw else (0, s1)
        let seed := if want = 0 then Config.freeValue n % 2 ^ 64 else want
        let s3 := (s2.running t.idx).updTask t.idx (fun t => { t with seed := seed })
        let ms := exportMembers g t
        let s4 := s3.updGroup g.gid (fun g => { g with
          shards := g.shards.filter (fun x => !ms.contains x.member)
          shardEnds := g.shardEnds.filter (fun i => !ms.contains i) })
        exportAdvance 18 t.idx (s4.guardWords g.gid ms GWord.sendShard t.step true)

/-- R219: a group enters INGEST while shards of an EXPORT are not fully read. -/
def cutExports (s : State) (gid : Nat) : State :=
  match s.group gid with
  | none => s
  | some g =>
    if s.gphase gid ≠ GPhase.ingest then s
    else
      s.stopWhere (fun t => t.kind == Kind.exp && t.group == gid && t.state == 3
        && decide (t.flags < (exportMembers g t).length)) Fate.timeout 0

-- IMPORT (R220 to R222)

/-- Places of the package's chunks: (member, shard offset, plain length, offset of the ciphertext). -/
def chunksOf (bs : Bytes) : List (Nat × Nat × Nat × Nat) :=
  let devices := field bs 12 4
  let n := field bs 44 4
  let table := 128 + 16 * devices
  ((List.range n).foldl (fun (a : List (Nat × Nat × Nat × Nat) × Nat) k =>
    let o := table + 32 * k
    let plain := field bs (o + 16) 8
    (a.1 ++ [(field bs o 1, field bs (o + 8) 8, plain, a.2)], a.2 + plain + 16)) ([], table + 32 * n)).1

/-- Digests of the enrolled keys of weight packages (R331): slots of kind 2. -/
def weightSigners (s : State) : List Bytes :=
  ((List.range 8).filter (fun i => s.gi F.KEY_SLOT_INFO_KIND i == 2)).map (fun i =>
    (List.range 4).flatMap (fun j => leBytes 8 (s.rd .KEY_SLOT_DIGEST 0 (4 * i + j)).toNat))

/-- R221, steps 2 and 3, and R342: signer, signature, device list; `none` when all agree, else status and detail. -/
def checkPackage (s : State) (bs : Bytes) : Option (Nat × Nat) :=
  let devices := field bs 12 4
  let listed := (List.range devices).map (fun i => field bs (128 + 16 * i) 16)
  let here := match s.plan.cur with
    | some p => (p.elements.filter (fun (e : ElemRec) => e.kind == 1 && s.boundClass (localOf e.node))).filterMap (fun (e : ElemRec) =>
        (s.disc.placed.find? (fun (x : Nat × Nat) => x.1 == localOf e.node)).map Prod.snd)
    | none => []
  let n := bs.length - 29792
  if bs.take 8 ≠ [0x44, 0x53, 0x56, 0x57, 0x50, 0x4B, 0x47, 0] || field bs 32 8 ≠ bs.length then some (Fate.check, 0)
  else if !s.weightSigners.contains ((bs.drop 80).take 32) then some (Fate.check, 0)
  else if !Config.signatureOk ((bs.drop 80).take 32) (bs.take n) (bs.drop n) then some (Fate.check, 0)
  else if here.any (fun id => !listed.contains id) then some (Fate.policy, 4)
  else none

/-- RDMA READs of a part of the package. -/
def readOps (t : Task) (off len : Nat) : List RdmaOp :=
  (List.range (ceilDiv len rdmaMax)).map (fun k =>
    let o := off + k * rdmaMax
    ⟨t.qp, 0, t.idx, 0, 1, t.rkey, t.remoteBase + o, min rdmaMax (len - k * rdmaMax), o, false, [], false⟩)

/-- The whole package has been read (R221, steps 2 to 6): it is checked and decrypted; a chunk whose tag fails is read
again up to the resend limit; then its WEIGHTS items go to the members. -/
def importRead (s : State) (t : Task) : State :=
  let bs := ((s.graph.packages.find? (fun e => e.1 == t.idx)).map Prod.snd).getD []
  match s.checkPackage bs with
  | some (st, d) => s.endTask t.idx st d
  | none =>
    let cs := chunksOf bs
    let plain := cs.map (fun c => Config.chunkPlain (bindKey bs) ((bs.drop c.2.2.2).take (c.2.2.1 + 16)))
    match (List.range cs.length).find? (fun k => (plain.getD k none).isNone) with
    | some k =>
      let c := cs.getD k (0, 0, 0, 0)
      let tried := t.results.getD k 0
      if s.resendLimit ≤ tried then s.endTask t.idx Fate.check (k % 2 ^ 24)
      else
        let counts := (List.range cs.length).map (fun j => t.results.getD j 0 + (if j = k then 1 else 0))
        (s.updTask t.idx (fun t => { t with results := counts })).queueOps t.idx (readOps t c.2.2.2 (c.2.2.1 + 16))
    | none =>
      match s.group t.group with
      | none => s.endTask t.idx Fate.policy 3
      | some g =>
        let items : List OutItem := ((cs.zip plain).filter (fun e => (maskMembers g.rcd.k t.impMask).contains e.1.1)).flatMap (fun e =>
          let p := e.2.getD []
          (List.range (ceilDiv p.length rdmaMax)).map (fun k =>
            ⟨t.idx, 0, GType.weights, e.1.1, s.memberNode g e.1.1, g.gid, 0, 0, e.1.2.1 + k * rdmaMax,
              (p.drop (k * rdmaMax)).take rdmaMax⟩))
        let s1 := (s.updTask t.idx (fun t => { t with flags := 1, results := [] })).issueItems t.idx items
        if s1.subsOver t.idx then s1.endTask t.idx Fate.done t.checkOnly else s1

/-- IMPORT starts (R220, R222). -/
def startImport (s : State) (t : Task) : State :=
  match s.group t.group, s.plan.cur with
  | some g, some p =>
    if s.serviceOff F.GRAPH_STATUS_IMPORT 6 then s.endTask t.idx Fate.disabled (disabledDetail 6 0)
    else if s.gphase g.gid ≠ GPhase.quiet then s.endTask t.idx Fate.policy 3
    else if (p.exportStage - s.pwr.exportLost) * gib < t.packageLen then s.endTask t.idx Fate.capacity 2
    else
      let s1 := ((s.running t.idx).setCurrent g.gid []).expose g.gid
      let s2 := { s1 with graph := { s1.graph with packages := setKey s1.graph.packages t.idx (zeros t.packageLen) } }
      let s3 := s2.queueOps t.idx (readOps t 0 t.packageLen)
      if s3.opsOver t.idx then s3.importRead { t with state := 3 } else s3
  | _, _ => s.endTask t.idx Fate.policy 3

-- What a finished operation or sub-item leads to

/-- A task of a service after one of its operations or items has ended: a STOPPING one ends when nothing is in flight,
an EXPORT when its SEND is acknowledged, an IMPORT goes on or ends. -/
def serviceCheck (s : State) (idx : Nat) : State :=
  match s.task idx with
  | none => s
  | some t =>
    if t.state = 4 then (if t.inFlight.isEmpty then s.stopTask idx Fate.cancelled 0 else s)
    else if t.state ≠ 3 then s
    else if t.kind = Kind.exp then
      match s.group t.group with
      | some g =>
        if s.opsOver idx && decide ((exportMembers g t).length < t.flags) then s.endTask idx Fate.done t.checkOnly else s
      | none => s
    else if t.kind = Kind.imp then
      if t.flags = 0 then (if s.opsOver idx then s.importRead t else s)
      else if s.subsOver idx then (s.bump .GRAPH_COUNT 0 7 t.bytesDone).endTask idx Fate.done t.checkOnly
      else s
    else s

/-- An operation has been done: its bytes count, the stream is confirmed up to it (R257), and the next one leaves. -/
def opDone (s : State) (o : RdmaOp) : State :=
  let s1 := ({ s with eth := { s.eth with ops := s.eth.ops.erase o } }).showQp o.qp
  match s1.task o.idx with
  | none => s1
  | some t =>
    let n := if o.counts then o.len else 0
    let s2 := s1.updTask o.idx (fun t => { t with subs := t.subs.filter (fun x => x.seq != o.sub), bytesDone := t.bytesDone + n })
    let s3 := if o.counts then s2.bump .GRAPH_COUNT 0 6 n else s2
    let s4 := match t.channel with
      | some c => s3.confirmStream c (t.resume + t.bytesDone + n)
      | none => s3
    (pumpOps (s4.eth.waiting.length) o.idx s4).serviceCheck o.idx

/-- Operations of a queue pair end with a status each, and their tasks stop (R198). -/
def failOps (s : State) (l : List RdmaOp) (status detail : Nat) : State :=
  let s1 := { s with eth := { s.eth with ops := s.eth.ops.filter (fun o => !l.contains o) } }
  ((l.map (·.idx)).eraseDups).foldl (fun (u : State) idx =>
    u.endSubs idx ((l.filter (fun o => o.idx == idx)).map (·.sub)) status detail) s1

/-- A queue pair's operations end (R215, ETH_QP_WORD): those sent FAILED_UNCONFIRMED, the others CANCELLED. -/
def clearQp (s : State) (q : Nat) : State :=
  let mine := s.eth.ops.filter (fun o => o.qp == q)
  let s1 := s.failOps (mine.filter (·.issued)) Fate.unconfirmed (q * 256)
  let s2 := s1.failOps (mine.filter (fun o => !o.issued)) Fate.cancelled (2 ^ 16)
  ({ s2 with eth := { s2.eth with retries := s2.eth.retries.filter (fun e => e.1 != q) } }).showQp q

/-- The retries of a queue pair are exhausted (R215): it enters the error state. -/
def qpError (s : State) (q : Nat) : State := ((s.setQw q 0 0 3 4).raise F.GRAPH_EVENT_QP_ERROR q 1).clearQp q

/-- Go-back-N (R215): every operation sent from a PSN on leaves again. -/
def resendOps (s : State) (l : List RdmaOp) : State := (l.foldl (fun (u : State) o => u.sendOp o) s).count .GRAPH_COUNT 5

/-- A retransmission that counts as a retry: with none left the queue pair fails. -/
def retryOps (s : State) (q : Nat) (l : List RdmaOp) : State :=
  if l.isEmpty then s
  else
    let n := lookupD s.eth.retries q 0
    if min 7 (getBits (s.qw q 0) 6 3) ≤ n then s.qpError q
    else ({ s with eth := { s.eth with retries := setKey s.eth.retries q (n + 1) } }).resendOps l

/-- Operations sent on a queue pair that end at or after a PSN. -/
def opsFrom (s : State) (q psn : Nat) : List RdmaOp := s.eth.ops.filter (fun o => o.qp == q && o.issued && psnLe psn o.psn)

/-- ROCE_ACK: every operation up to the PSN is acknowledged, in order; a READ ends with its data. -/
def roceAck (s : State) (q psn : Nat) : State :=
  let l := s.eth.ops.filter (fun o => o.qp == q && o.issued && o.kind != 1 && psnLe o.psn psn)
  let s1 := if l.isEmpty then s
    else { s with eth := { s.eth with retries := s.eth.retries.filter (fun (e : Nat × Nat) => e.1 != q) } }
  l.foldl (fun (u : State) o => u.opDone o) s1

/-- ROCE_READ_RESPONSE (R221): the data of a READ, placed in EXPORT_STAGE. -/
def roceReadResponse (s : State) (q psn : Nat) (data : Bytes) : State :=
  match s.eth.ops.find? (fun o => o.qp == q && o.issued && o.kind == 1 && o.psn == psn) with
  | none => s
  | some o =>
    let put (bs : Bytes) : Bytes := fit bs.length (bs.take o.off ++ fit o.len data ++ bs.drop (o.off + o.len))
    let s1 := { s with
      graph := { s.graph with packages := s.graph.packages.map (fun (e : Nat × Bytes) => if e.1 == o.idx then (e.1, put e.2) else e) }
      eth := { s.eth with retries := s.eth.retries.filter (fun (e : Nat × Nat) => e.1 != q) } }
    s1.opDone o

/-- ROCE_REMOTE_ACCESS_NAK (R215): the operation that holds the PSN ends FAILED_POLICY, detail 5. -/
def remoteAccessNak (s : State) (q psn : Nat) : State :=
  match s.opsFrom q psn with
  | o :: _ => (s.failOps [o] Fate.policy 5).showQp q
  | [] => s

-- Congestion (R216)

/-- RATE of a queue pair, MB/s. -/
def qpRate (s : State) (q : Nat) : Nat := getBits (s.qw q 5) 0 32
/-- The port rate, MB/s (R263). -/
def portRate (s : State) : Nat := if s.g F.ETH_CFG_SPEED = 1 then 100000 else 200000
/-- The rate that a queue pair may have beside the others. -/
def rateRoom (s : State) (q : Nat) : Nat :=
  min (s.g F.GRAPH_ECN_RATE_MAX_RATE) (s.portRate - ((List.range 64).filter (fun x => x != q)).foldl (fun n x => n + s.qpRate x) 0)

/-- CONGESTION_NOTIFICATION: the rate falls, unless one came in the last 50 µs. -/
def congestion (s : State) (q : Nat) : State :=
  let s1 := s.count .GRAPH_COUNT 4
  let recent := s.graph.notified.any (fun (e : Nat × Nat) => e.1 == q && decide (s.lant.now < e.2 + 50000))
  if recent then s1
  else
    let r := s.qpRate q
    let new := max (s.g F.GRAPH_ECN_RATE_MIN_RATE) (r - ceilDiv r (2 ^ s.g F.GRAPH_ECN_DEC_SHIFT))
    let s2 := { s1 with graph := { s1.graph with notified := setKey s1.graph.notified q s.lant.now } }
    s2.setQw q 5 0 32 new

/-- ECN_RATE_INCREASE. -/
def rateIncrease (s : State) (q : Nat) : State :=
  s.setQw q 5 0 32 (max (s.qpRate q) (min (s.qpRate q + s.g F.GRAPH_ECN_INC_STEP) (s.rateRoom q)))

-- ETH_QP_WORD

/-- The transitions that software may write. -/
def qpStep (a b : Nat) : Bool := a == b || (a == 0 && b == 1) || (a == 1 && b == 2) || (a == 2 && b == 3) || b == 4 || (a == 4 && b == 0)

/-- The bits of each word that software may write. -/
def qpMask (i : Nat) : Nat :=
  if i = 0 then 0xFFFF3FF7 else if i = 1 then 0x00FFFFFF00000000 else if i = 2 then 0x00FFFFFF00FFFFFF else 2 ^ 64 - 1

/-- ETH_QP_WORD_WRITE at the selected queue pair (R215). -/
def qpWrite (s : State) (i : Nat) (v : Word) : State :=
  let q := s.g F.ETH_QP_SEL_QP
  let old := s.qw q i
  if 6 ≤ i then s.err Status.address 0
  else if i = 5 then s.err Status.readOnly 0
  else
    let m := BitVec.ofNat 64 (qpMask i)
    let new := (v &&& m) ||| (old &&& ~~~m)
    let st := s.qpState q
    let goal := getBits new 0 3
    let others := if i = 0 then (new ^^^ old).toNat / 8 != 0 else new != old
    if i = 0 && (!qpStep st goal || decide (4 < goal)) then s.err Status.state 0
    else if others && st != 0 && st != 1 then s.err Status.state 0
    else if i = 0 && getBits new 4 2 == 3 then s.err Status.value 0
    else
      let s1 := s.wr .ETH_QP_WORD q i new
      if i ≠ 0 || st = goal then s1.ok
      else if goal = 0 || goal = 4 then (s1.clearQp q).ok
      else if goal = 3 then (issueQp s1.eth.ops.length q (s1.setQw q 5 0 32 (s1.rateRoom q))).ok
      else s1.ok

end State

end Sys2Proof.Machine
end

