-- ==== Sys2Proof/Machine/Services.lean ====
section
/-! DEFINITION. Graphs and their tasks (chapter 7): submission (R190 to R194), dispatch (R195, R196), windows, cancelling
and disabling (R207 to R210), scalar collectives (R211 to R214), job tables and notification (R223 to R225); and the
meanings of the graph, service and RoCEv2 commands. -/
namespace Sys2Proof.Machine

-- Scalars (R211)

/-- One contribution's value as an accumulator: the exact sum for SUM, the pattern itself for MAX and MIN. -/
def scalarOne (op : Nat) (isInt : Bool) (x : Nat) : Exact :=
  if op = 0 then (if isInt then ⟨ofField 64 x, false, false, false⟩ else (⟨0, false, false, false⟩ : Exact).add x)
  else ⟨(x : Int), !isInt && isNanF64 x, false, false⟩

/-- Two accumulators combined. -/
def scalarJoin (op : Nat) (isInt : Bool) (a b : Exact) : Exact :=
  if op = 0 then a.join b
  else
    let x := a.sum.toNat
    let y := b.sum.toNat
    let pick :=
      if isInt then
        let less := decide (ofField 64 x < ofField 64 y)
        if less == (op == 1) then y else x
      else pickF64 (op == 1) x y
    ⟨(pick : Int), a.nan || b.nan, false, false⟩

/-- The result of an accumulator: its pattern, whether it is a NaN, whether it saturated. -/
def scalarClose (op : Nat) (isInt : Bool) (a : Exact) : Nat × Bool × Bool :=
  if op = 0 then
    if isInt then ((satI64 a.sum).1, false, (satI64 a.sum).2)
    else (a.round, isNanF64 a.round, false)
  else if a.nan then (nanF64, true, false)
  else (a.sum.toNat, false, false)

namespace Task
def scalarOp (t : Task) : Nat := t.param 0 1 % 4
def scalarInt (t : Task) : Bool := hasBit (t.param 0 1) 2
def scalarCount (t : Task) : Nat := t.param 0 1 / 8 % 4 + 1
def installScope (t : Task) : Bool := t.param 1 1 == 1
def reduceTag (t : Task) : Nat := t.param 4 4
def contributors (t : Task) : Nat := t.param 8 4
end Task

/-- RECONSTRUCT, REGENERATE: kinds whose end leaves the group's phase (Table 6.2). -/
def leavesPhase (kind : Nat) : Bool := kind == Kind.reconstruct || kind == Kind.regenerate

/-- The gathering of a group's shards is over. -/
def Group.endShardWork (g : Group) : Group :=
  { g with shards := [], shardEnds := [], lentDue := [], words := g.words.filter (fun w => w.type != GWord.sendShard) }

namespace State

-- What an end of a task leads to beside its record

/-- The tasks of `s` whose own record a later state `t` has written, with the status. -/
def endedSince (s t : State) : List (Task × Nat) :=
  (t.graph.ring.drop s.graph.ring.length).filterMap (fun c =>
    if c.seq = 0xFFFFFFFF then
      ((s.graph.tasks.find? (fun x => s.itemId x.idx == c.item))).map (fun x => (x, c.status))
    else none)

/-- The lent lanes, each with its group, whose accumulation has ended without its peer's acknowledgement since `s` (R184). -/
def unacked (s t : State) : List (Nat × Nat) :=
  (t.graph.ring.drop s.graph.ring.length).filterMap (fun c =>
    if c.flags % 2 = 0 then none
    else (s.graph.tasks.find? (fun x => s.itemId x.idx == c.item)).bind (fun x =>
      (x.subs.find? (fun y => y.seq == c.seq && y.kind == 3)).map (fun y => (x.group, y.part))))

/-- R184: a lent lane whose peer no longer acknowledges is not current; Varlor regenerates it. -/
def dropUnacked (s t : State) : State :=
  (unacked s t).foldl (fun (u : State) e =>
    match u.group e.1 with
    | some g => if g.current.contains e.2 then (u.laneLost e.1 [e.2]).wantRegen e.1 else u
    | none => u) t

/-- What follows from the tasks that have ended since `s` (R177, R186, Table 6.9): a FOLD that ended otherwise than DONE rolls the job
back while its step is not sealed; the group of a RECONSTRUCT or REGENERATE is QUIET again, and after a RECONSTRUCT the cupola's own
GUARD layout returns; the operations of a task that is gone are forgotten. -/
def follow (s t : State) : State :=
  let ended := endedSince s t
  let failed := ended.filter (fun e => e.2 != Fate.done)
  let folds := (failed.filter (fun e => e.1.kind == Kind.fold && t.recovery e.1.group + 1 == e.1.step)).map (fun e => e.1.group)
  let t0 := (dropUnacked s t).foldsLost folds
  let t1 := ended.foldl (fun (u : State) e =>
    if e.1.kind = Kind.regenerate then
      { u with twin := { u.twin with regenDue := u.twin.regenDue.filter (fun g => g != e.1.group) } }
    else u) t0
  let t2 := failed.foldl (fun (u : State) e =>
    let x := e.1
    let u1 := if leavesPhase x.kind && (u.gphase x.group == GPhase.reconstructing || u.gphase x.group == GPhase.regenerating)
          && (u.groupTask x.kind x.group).isNone then
        (u.updGroup x.group Group.endShardWork).setPhase x.group GPhase.quiet
      else u
    match u1.group x.group with
    | some g => if x.kind = Kind.reconstruct && x.live then u1.restoreLayout g.cupola else u1
    | none => u1) t1
  let keep (o : RdmaOp) : Bool := t2.graph.tasks.any (fun x => x.idx == o.idx)
  { t2 with eth := { t2.eth with ops := t2.eth.ops.filter keep, waiting := t2.eth.waiting.filter keep } }

/-- A command of a service ends: what its ended tasks lead to. -/
def after (s t : State) : State := follow s t

-- Scalar collectives (R211 to R214)

/-- The resident SCALAR_REDUCE of a cupola and tag (R212). -/
def scalarTask (s : State) (cupola tag : Nat) : Option Task :=
  s.graph.tasks.find? (fun t => t.kind == Kind.scalar && t.cupola == cupola && t.reduceTag == tag)

/-- Contributions held for a task. -/
def contributionsOf (s : State) (t : Task) : List Contribution :=
  s.graph.contributions.filter (fun c => c.cupola == t.cupola && c.tag == t.reduceTag)

/-- Accumulators of other spires for a task. -/
def accumulatorsOf (s : State) (t : Task) : List ScalarAcc := s.graph.accumulators.filter (fun a => a.tag == t.reduceTag)

/-- Contributions that this Varlor itself waits for: at installation scope the coordinator's own spire has its share. -/
def ownShare (s : State) (t : Task) : Nat :=
  match s.plan.cur with
  | some p => if t.installScope && p.coordinatorFlag && decide (1 < p.spires) then t.contributors / p.spires else t.contributors
  | none => t.contributors

/-- This Varlor sends its accumulator to the coordinator and waits for the result. -/
def scalarAway (s : State) (t : Task) : Bool :=
  match s.plan.cur with
  | some p => t.installScope && !p.coordinatorFlag && decide (1 < p.spires)
  | none => false

/-- Contributions (or, at the coordinator, spires) still missing (R214). -/
def scalarMissing (s : State) (t : Task) : Nat :=
  let own := s.ownShare t - (s.contributionsOf t).length
  let away := if t.installScope && !s.scalarAway t then
      (s.peerSpires.filter (fun q => !(s.accumulatorsOf t).any (fun a => a.spire == q))).length
    else 0
  own + away

/-- The accumulator of value `i` from the contributions, and from accumulators. -/
def scalarSum (s : State) (t : Task) (i : Nat) : Exact :=
  let own := (s.contributionsOf t).map (fun c => scalarOne t.scalarOp t.scalarInt (c.values.getD i 0))
  let far := (s.accumulatorsOf t).map (fun a => (⟨a.sums.getD i 0, a.nan.getD i false, a.pinf.getD i false, a.ninf.getD i false⟩ : Exact))
  match own ++ far with
  | [] => ⟨0, false, false, false⟩
  | x :: xs => xs.foldl (scalarJoin t.scalarOp t.scalarInt) x

/-- A result goes to every contributor, down the install tree, and the task ends DONE (R213); flags as in Table 7.10. -/
def scalarFinish (s : State) (t : Task) (values : List Nat) (flags : Nat) : State :=
  let s1 := s.sendResult t (flags :: values)
  (s1.updTask t.idx (fun t => { t with results := values })).endTask t.idx Fate.done (flags / 2 % 4)

/-- A running scalar task with everything in: its accumulator goes to the coordinator, or its result goes out. -/
def scalarCheck (s : State) (idx : Nat) : State :=
  match s.task idx with
  | none => s
  | some t =>
    if t.kind ≠ Kind.scalar || t.state ≠ 3 || s.scalarMissing t ≠ 0 then s
    else
      let sums := (List.range t.scalarCount).map (fun i => s.scalarSum t i)
      if s.scalarAway t then
        if t.flags = 1 then s
        else (s.updTask idx (fun t => { t with flags := 1 })).emit .scalarAcc s.coordinator t.reduceTag
          (sums.map (fun a => (if a.nan then 1 else 0) + (if a.pinf then 2 else 0) + (if a.ninf then 4 else 0)))
          ((sums.map (fun a => leBytes 272 (toField 2176 a.sum))).flatten)
      else
        let rs := sums.map (scalarClose t.scalarOp t.scalarInt)
        let flags := (if rs.any (fun r => r.2.1) then 2 else 0) + (if rs.any (fun r => r.2.2) then 4 else 0)
        s.scalarFinish t (rs.map Prod.fst) flags

/-- A contribution that is not used is discarded and counted (R212). -/
def scalarDiscard (s : State) : State := (s.count .GRAPH_COUNT 3).raise F.GRAPH_EVENT_SCALAR_DISCARD 0 1

/-- SCALAR_CONTRIBUTION (R212). -/
def scalarContribution (s : State) (c : ScalarC) : State :=
  match s.scalarTask c.cupola c.tag with
  | none => s.scalarDiscard
  | some t =>
    if !c.crcOk || s.graph.contributions.any (fun x => x.cupola == c.cupola && x.tag == c.tag && x.node == c.node) then
      s.scalarDiscard
    else
      let x : Contribution := ⟨c.cupola, c.tag, c.node, c.op, c.isInt, c.values⟩
      ({ s with graph := { s.graph with contributions := s.graph.contributions ++ [x] } }).scalarCheck t.idx

/-- SCALAR_ACCUMULATOR (R211) at the coordinator: one from each spire. -/
def scalarAccumulator (s : State) (a : ScalarAcc) : State :=
  let keep := s.graph.accumulators.filter (fun x => !(x.spire == a.spire && x.tag == a.tag))
  let s1 := { s with graph := { s.graph with accumulators := keep ++ [a] } }
  match s.graph.tasks.find? (fun t => t.kind == Kind.scalar && t.installScope && t.reduceTag == a.tag) with
  | some t => s1.scalarCheck t.idx
  | none => s1

/-- SCALAR_RESULT (R213): the installation's result goes down the install tree; a FAILED one ends the task
FAILED_TIMEOUT. -/
def scalarResult (s : State) (tag : Nat) (values : List Nat) (flags : Nat) : State :=
  match s.graph.tasks.find? (fun t => t.kind == Kind.scalar && t.installScope && t.reduceTag == tag && t.live) with
  | none => s
  | some t =>
    if flags % 2 = 1 then s.stopTask t.idx Fate.timeout 0
    else s.scalarFinish t values flags

/-- A contributor is classified lost (R214): the tasks of its cupola end FAILED_PEER_LOST. -/
def scalarLost (s : State) (logical : Nat) : State :=
  let hit (t : Task) : Bool := t.kind == Kind.scalar && t.live && (s.tables.membersOf t.cupola).contains logical
  s.stopWhere hit Fate.peerLost (logical % 2 ^ 16)

-- Job tables (R223)

/-- TABLE_BROADCAST starts; it waits while an install is in progress. Its segments are sub-items (R189): each names the table, its
index, the place in EXPORT_STAGE that it copies, and its length. -/
def startTable (s : State) (t : Task) : State :=
  if s.installing then s
  else
    let ms := s.cupAgents t.cupola
    let n := ceilDiv (t.param 8 4) 4096
    let lacks : List Lack := ms.map (fun m => ⟨m, List.range n⟩)
    let b : Broadcast := ⟨t.idx, t.param 0xC 4, n, lacks, 0⟩
    let s1 := (s.running t.idx)
    let s2 := { s1 with graph := { s1.graph with broadcasts := s1.graph.broadcasts ++ [b] } }
    if ms.isEmpty || n = 0 then s2.endTask t.idx Fate.done 0
    else
      s2.issueItems t.idx (ms.flatMap (fun m => (List.range n).map (fun k =>
        (⟨t.idx, 4, 0x13, 0, m, 0, 0, k, t.param 0 8 + 4096 * k, []⟩ : OutItem))))

/-- Agents that still lack segments of a table. -/
def tableLacking (s : State) (idx : Nat) : Nat :=
  match s.graph.broadcasts.find? (fun b => b.idx == idx) with
  | some b => (b.lacks.filter (fun l => !l.missing.isEmpty)).length
  | none => 0

/-- A receipt for a job table: the segments that the agent has are confirmed. -/
def tableReceipt (s : State) (r : Receipt) : State :=
  match s.graph.broadcasts.find? (fun b => b.tag % 65536 == r.installId) with
  | none => s
  | some b =>
    if !r.crcOk then s
    else
      let n := localOf r.node
      let left := (List.range b.segments).filter (fun k => !hasBit r.bitmap k)
      let up (x : Broadcast) : Broadcast := { x with
        lacks := updWhere (fun l => l.node == n) (fun l => { l with missing := left }) x.lacks }
      let s1 := { s with graph := { s.graph with broadcasts := updWhere (fun x => x.idx == b.idx) up s.graph.broadcasts } }
      match s1.task b.idx with
      | none => s1
      | some t =>
        let got := t.inFlight.filter (fun x => x.kind == 4 && x.node == n && !left.contains x.region)
        let s2 := got.foldl (fun (u : State) x => u.subDone t.idx x.seq) s1
        if s2.tableLacking b.idx = 0 && s2.subsOver b.idx && (s2.task b.idx).isSome then s2.stopTask t.idx Fate.done t.checkOnly else s2

/-- The receipt names a job table on its way, and not the install in progress. -/
def tableAnswers (s : State) (r : Receipt) : Bool :=
  (match s.bell.install with | some i => i.id != r.installId | none => true)
    && s.graph.broadcasts.any (fun b => b.tag % 65536 == r.installId)

/-- Segments of a table that are in flight go out again. -/
def resendTable (s : State) (t : Task) : State :=
  (t.inFlight.filter (fun x => x.kind == 4)).foldl (fun (u : State) x =>
    u.sendSub t ⟨t.idx, 4, 0x13, 0, x.node, 0, 0, x.region, t.param 0 8 + 4096 * x.region, []⟩ (u.subTag t.idx x.seq)) s

/-- The end of a collection phase of a table: missing segments again, or the end after the last pass (R107, R223). While segments wait
for the in-flight limit no pass is over. -/
def tablePass (s : State) : State :=
  s.graph.broadcasts.foldl (fun (u : State) b =>
    match u.task b.idx with
    | none => u
    | some t =>
      if t.state ≠ 3 then u
      else if u.graph.outbox.any (fun o => o.idx == b.idx) then u.resendTable t
      else if b.pass < u.g F.BELL_CFG_RETX_PASSES then
        let u1 := u.resendTable t
        { u1 with graph := { u1.graph with
          broadcasts := updWhere (fun x => x.idx == b.idx) (fun x => { x with pass := x.pass + 1 }) u1.graph.broadcasts } }
      else u.stopTask b.idx Fate.timeout (u.tableLacking b.idx)) s

-- NOTIFY (R224)

/-- The word of a NOTIFY is posted when its mailbox is free. -/
def notifyPost (s : State) (t : Task) : State :=
  let i := t.param 0 1 % 32
  if s.mbx.posted.any (fun x => x.item == some (s.itemId t.idx)) || s.outFull Party.host 0 i
      || s.mbx.waiting.any (fun x => x.party == Party.host && x.idx == i) then s
  else s.deliver Party.host 0 i (mkWord s.epoch (t.param 1 1) (t.param 8 8)) (some (s.itemId t.idx))

/-- NOTIFY_RETRY. -/
def notifyRetry (s : State) (idx : Nat) : State :=
  match s.task idx with
  | some t => if t.kind = Kind.notify && t.state = 3 then s.notifyPost t else s
  | none => s

-- Dispatch (R196)

/-- A task's own work begins. -/
def startKind (s : State) (t : Task) : State :=
  if t.kind = Kind.fold then s.startFold t
  else if t.kind = Kind.sealing then s.startSeal t
  else if t.kind = Kind.reconstruct then s.startReconstruct t
  else if t.kind = Kind.regenerate then s.startRegenerate t
  else if t.kind = Kind.exp then s.startExport t
  else if t.kind = Kind.imp then s.startImport t
  else if t.kind = Kind.scalar then (s.running t.idx).scalarCheck t.idx
  else if t.kind = Kind.table then s.startTable t
  else if t.kind = Kind.sentinel then s.startSentinel t
  else if t.kind = Kind.notify then (s.running t.idx).notifyPost t
  else (s.running t.idx).endTask t.idx Fate.done 0

/-- Flows on one of this module's own ports (R427): those that the agent at its far end sends to Varlor there, and those of
Varlor's own flows that the agent is the first to forward or deliver. -/
def flowsOnPort (s : State) (port : Nat) : List Nat :=
  match s.plan.cur with
  | none => []
  | some p =>
    let t := s.tables
    (p.links.filter (fun l => l.bkind == 1 + s.g F.TWIN_STATUS_LETTER && l.b == port)).foldl (fun acc l =>
      let out := (t.slotsOf l.a l.pa).map slotFlow
      let first := ((t.flowsOf l.a).map feFlow).filter (fun f =>
        !t.flows.any (fun b => b.entries.any (fun e => feFlow e == f && feEgress e != 31 && feNextHop e == l.a))
          && !(t.slotsOf l.a l.pa).any (fun e => slotFlow e == f) && t.classOfFlow f == 2)
      unionL acc ((out ++ first).filter (fun f => f != 0 && decide (f ≤ 0xFFFC)))) []

/-- The own port, DISABLING or DISABLED, on which a flow runs. -/
def portOff (s : State) (flow : Nat) : Option Nat :=
  if flow = 0 then none
  else (List.range 48).find? (fun p => (s.gi F.PORT_STATUS_STATE p == 3 || s.gi F.PORT_STATUS_STATE p == 4)
    && (s.flowsOnPort p).contains flow)

/-- A task that may start in this round. -/
def startable (s : State) (t : Task) : Bool := t.unstarted && t.ready && t.isOpen s.round && !s.engineStopped

/-- A ready task whose window is open starts; a tenant being removed, or a cupola being retired, has it end instead (R209, R351). -/
def startOne (s : State) (idx : Nat) : State :=
  match s.task idx with
  | none => s
  | some t =>
    if !s.startable t then s
    else if s.g F.KEY_STATUS_REMOVE_STEP ≠ 0 then s.endTask idx Fate.policy 2
    else if t.cupola ≠ 0 && s.cupState t.cupola = 6 then s.endTask idx Fate.disabled (disabledDetail 5 t.cupola)
    else if (s.portOff t.flow).isSome then s.endTask idx Fate.disabled (disabledDetail 1 ((s.portOff t.flow).getD 0))
    else
      let s1 := s.startKind t
      match s1.task idx with
      | some u => if u.unstarted then s1 else s1.count .GRAPH_COUNT 0
      | none => s1.count .GRAPH_COUNT 0

/-- TASK_START (R196): ready tasks start in ascending resident index, so those of a lower index go first. DEDUCED (log entry 97). -/
def taskStart (s : State) (idx : Nat) : State :=
  let first := (s.tasksWhere (fun t => decide (t.idx < idx) && s.startable t)).map (fun t => t.idx)
  (first ++ [idx]).foldl startOne s

/-- The engine of a kind, for Table 2.9: FOLD, DECODE and SENTINEL for the kinds that they carry out, and DISPATCH, which every other
task goes through. DEDUCED (log entry 138). -/
def engineOf (kind : Nat) : Nat :=
  if kind = Kind.fold then 1 else if kind = Kind.reconstruct then 2 else if kind = Kind.sentinel then 4 else 3

/-- The fallback in force for a task's engine, under the plan that it was admitted under: its code and its window. -/
def fallbackOf (s : State) (t : Task) : Nat × Nat :=
  let e := engineOf t.kind
  match s.planOf t with
  | some p =>
    if s.pwr.fallback.contains e then
      match p.rates.find? (fun r => r.engine == e) with
      | some r => (r.fallback, r.param)
      | none => (0, 0)
    else (0, 0)
  | none => (0, 0)

/-- The detail of FAILED_TIMEOUT (Table 7.8). -/
def timeoutDetail (s : State) (t : Task) : Nat :=
  if t.kind = Kind.scalar then s.scalarMissing t else if t.kind = Kind.table then s.tableLacking t.idx else 0

/-- WINDOW_CLOSE (R196, Table 2.9): under EXTEND_WINDOW the window runs at the stated length; else an unstarted task ends, and a running
one goes on under its engine's fallback or stops. -/
def windowClose (s : State) (idx : Nat) : State :=
  match s.task idx with
  | none => s
  | some t =>
    if t.length = 0 || decide (s.round < t.closesAt) then s
    else
      let (code, window) := s.fallbackOf t
      if code = 1 && t.length + t.extra < window then s.updTask idx (fun t => { t with extra := window - t.length })
      else if t.unstarted then s.endTask idx Fate.timeout 0
      else if code = 2 then s
      else
        let d := s.timeoutDetail t
        s.stopTask idx Fate.timeout d

/-- TASK_END (R198, R203): what a STOPPING task still has in flight ends at its drain bound; a running task whose work is
finished ends. -/
def taskEnd (s : State) (idx : Nat) : State :=
  match s.task idx with
  | none => s
  | some t =>
    if t.state = 4 then
      if t.inFlight.isEmpty then s.stopTask idx Fate.cancelled 0
      else if s.round < t.stopBy then s
      else
        let c := t.cause.getD (Fate.cancelled, 0)
        s.endSubs idx (t.inFlight.map (·.seq)) c.1 c.2
    else if t.state ≠ 3 then s
    else if t.kind = Kind.fold then s.checkFolded t.group
    else if t.kind = Kind.sealing then s.trySeal t.job t.step
    else if t.kind = Kind.reconstruct then s.checkRebuilt idx
    else if t.kind = Kind.scalar then s.scalarCheck idx
    else if t.kind = Kind.exp || t.kind = Kind.imp then s.serviceCheck idx
    else if t.kind = Kind.sentinel then s.startSentinel t
    else s

-- Cancelling and disabling (R208 to R210)

/-- CANCEL_TASK: GRAPH_ARG names the item; an item ID whose generation is not current names no task (R199). -/
def cancelTask (s : State) : State :=
  match s.taskOf (s.g F.GRAPH_ARG_ARG) with
  | none => s.err Status.value 0
  | some t => (s.stopTask t.idx Fate.cancelled (2 ^ 16)).ok

/-- CANCEL_GRAPH. -/
def cancelGraph (s : State) : State :=
  (s.stopWhere (fun t => t.tag == s.g F.GRAPH_ARG_ARG) Fate.cancelled (2 ^ 16)).ok

/-- DISABLE of a service: the export service (function 4) or the import service (6). -/
def disableService (s : State) (f : Fld) (function : Nat) : State :=
  if s.g f ≠ 0 then s.ok
  else
    let d : Disable := ⟨function, 0, s.round, 2, false, false⟩
    (({ s with graph := { s.graph with disables := s.graph.disables ++ [d] } }).p f 1).ok

/-- ENABLE of a service: refused while it is DISABLING (R210). -/
def enableService (s : State) (f : Fld) : State := if s.g f = 1 then s.err Status.state 0 else (s.p f 0).ok

/-- A disable request that is under way. -/
def disableOf (s : State) (function index : Nat) : Option Disable :=
  s.graph.disables.find? (fun d => d.function == function && d.index == index)

/-- Change a disable request. -/
def updDisable (s : State) (d : Disable) (f : Disable → Disable) : State :=
  { s with graph := { s.graph with disables := updWhere (fun x => x == d) f s.graph.disables } }

/-- A disable request has been carried out. -/
def dropDisable (s : State) (d : Disable) : State :=
  { s with graph := { s.graph with disables := s.graph.disables.filter (fun x => x != d) } }

/-- Tasks that a disabled function serves. -/
def servedBy (s : State) (function index : Nat) (t : Task) : Bool :=
  if function = 1 then (s.flowsOnPort index).contains t.flow
  else if function = 3 then s.chk.claimed.any (fun e => e.1 == index && e.2 == t.idx) && s.chkAppend index
  else if function = 4 then t.kind == Kind.exp
  else if function = 6 then t.kind == Kind.imp
  else function == 7

/-- R209 at the boundary of round q + 1: no new item; running tasks issue no further sub-item. -/
def serviceStop (s : State) (d : Disable) : State :=
  if d.stopped || decide (s.round < d.accepted + 1) then s
  else (s.updDisable d (fun d => { d with stopped := true })).stopWhere (fun t => t.live && s.servedBy d.function d.index t)
    Fate.disabled (disabledDetail d.function d.index)

/-- R209 at the end of round q + 1 + b: what is still in flight ends FAILED_DISABLED, or with the status of an earlier cause (R198,
R210). -/
def serviceDrain (s : State) (d : Disable) : State :=
  if d.drained || decide (s.round < d.accepted + 1 + d.bound) then s
  else
    let s1 := s.updDisable d (fun d => { d with drained := true })
    (s1.tasksWhere (fun t => t.live && s.servedBy d.function d.index t)).foldl (fun (u : State) t =>
      let c := t.cause.getD (Fate.disabled, disabledDetail d.function d.index)
      u.endWithSubs t.idx c.1 c.2) s1

/-- R209 at the boundary of round q + 2 + b: the service reports DISABLED. -/
def serviceDisabled (s : State) (d : Disable) : State :=
  if s.round < d.accepted + 2 + d.bound then s
  else
    let s1 := s.dropDisable d
    if d.function = 3 then (s1.setChk d.index Chan.disabled).raise F.CHK_EVENT_DISABLED d.index 1
    else if d.function = 4 then (s1.p F.GRAPH_STATUS_EXPORT 2).raise F.GRAPH_EVENT_EXPORT_DISABLED 0 1
    else if d.function = 6 then (s1.p F.GRAPH_STATUS_IMPORT 2).raise F.GRAPH_EVENT_IMPORT_DISABLED 0 1
    else if d.function = 7 then s1.stopWhere Task.unstarted Fate.disabled (disabledDetail 7 0)
    else s1

-- The ring (R205, R225)

/-- GRAPH_RING_TAIL_WRITE: records are consumed; a value beyond HEAD or below TAIL is refused. -/
def ringTailWrite (s : State) (v : Nat) : State :=
  let n := (v % 2 ^ 32 + 2 ^ 32 - s.g F.GRAPH_RING_TAIL_TAIL) % 2 ^ 32
  if s.unconsumed < n then s.err Status.value 0
  else
    let s1 := { s with graph := { s.graph with ring := s.graph.ring.drop n, journal := s.graph.journal.drop n } }
    (s1.p F.GRAPH_RING_TAIL_TAIL (v % 2 ^ 32)).ok

/-- FORWARDED_RECORD (R225): the copy joins this ring, FORWARDED set. -/
def forwardedRecord (s : State) (r : Bytes) : State :=
  s.pushRecord ⟨field r 0 4, field r 4 1, field r 5 3, field r 8 8, field r 0x10 8, field r 0x18 4, field r 0x1C 1,
    field r 0x1D 1, Nat.lor (field r 0x1E 1) 2, 0⟩

-- Delivery receipts at Varlor's own ports

/-- A receipt of an item that Varlor sent: a sub-item of a task, an undo copy among them, or an undo copy that the guardian sent by itself
(R166, R178, R222). -/
def varlorReceipt (s : State) (flow tag : Nat) : State :=
  let mine (t : Task) (x : SubItem) : Bool := s.subTag t.idx x.seq == tag && (x.kind == 2 || (x.kind == 0 && t.flow == flow))
  match s.graph.tasks.find? (fun t => t.live && t.subs.any (mine t)) with
  | some t =>
    let s1 := s.subDone t.idx (tag % 2 ^ 32)
    match t.subs.find? (mine t) with
    | some x =>
      if x.kind = 2 then s1.undoReceipt t.group x.region x.part
      else if t.kind = Kind.reconstruct then (s1.checkRebuilt t.idx).serviceCheck t.idx
      else s1.serviceCheck t.idx
    | none => s1
  | none =>
    let gid := (tag - 2 ^ 64) / 2 ^ 24
    match s.group gid with
    | none => s
    | some g =>
      match (List.range g.rcd.k).find? (fun i => s.guardFlowTo g i == flow) with
      | some i => if 2 ^ 64 ≤ tag then s.undoReceipt gid (tag % 2 ^ 24) i else s
      | none => s

/-- RECEIPT_TIMEOUT of an item that Varlor sent (R97): its task's window (R96) and the drain bound have passed without a receipt: the
sub-item ends FAILED_UNCONFIRMED, and its task stops. -/
def varlorTimeout (s : State) (tag : Nat) : State :=
  match s.graph.tasks.find? (fun t => t.live && t.subs.any (fun x => x.kind != 1 && s.subTag t.idx x.seq == tag)) with
  | some t =>
    if t.length = 0 || decide (s.round ≤ t.closesAt + t.drain s.tables) then s
    else s.endSubs t.idx [tag % 2 ^ 32] Fate.unconfirmed 0
  | none => s

/-- SHARD (R160): gathered, and used by the group's exports. -/
def shardItem (s : State) (it : GItem) : State :=
  match s.gatherShard it with
  | (t, some gid) => t.exportProgress gid
  | (t, none) => t

/-- END (R166): of a step, of a rollback batch, or of the shards that SEND_SHARD asked for. -/
def endItem (s : State) (it : GItem) : State :=
  if !headerOk GType.gend it then s.count .GRD_COUNT 2
  else
    match s.group it.group with
    | none => s.refuseItem
    | some g =>
      if g.rcd.k ≤ it.member then s.refuseItem
      else if it.rollback then s.endRoll g it
      else if outstanding g it.member GWord.sendShard && it.step == s.recovery g.gid then
        match s.endShards g it with
        | (t, some gid) => t.exportProgress gid
        | (t, none) => t
      else s.endStep g it

end State

-- The meanings

/-- DELTA (R160); the first of a step cuts exports short (R219). -/
def execDelta (it : GItem) (s : State) : Host.Outcome State Fault Refusal :=
  finish (s.after ((s.delta it).cutExports it.group))
/-- SHARD (R160). -/
def execShard (it : GItem) (s : State) : Host.Outcome State Fault Refusal := finish (s.after (s.shardItem it))
/-- END (R166). -/
def execGend (it : GItem) (s : State) : Host.Outcome State Fault Refusal := finish (s.after (s.endItem it))
/-- DELIVERY_RECEIPT (R97): to an element, or to Varlor's own ports (nodes 510 and 511). -/
def execDeliveryReceipt (node flow tag : Nat) (s : State) : Host.Outcome State Fault Refusal :=
  finish (if 510 ≤ node then s.after (s.varlorReceipt flow tag) else s.deliveryReceipt node flow tag)
/-- RECEIPT_TIMEOUT (R97): at an element, or at Varlor's own ports. -/
def execReceiptTimeout (node tag : Nat) (s : State) : Host.Outcome State Fault Refusal :=
  finish (if 510 ≤ node then s.after (s.varlorTimeout tag) else s.receiptTimeout node tag)
/-- RECEIPT (R106, R223): of the install in progress, or of a job table that was already on its way. -/
def execReceipt (r : Receipt) (s : State) : Host.Outcome State Fault Refusal :=
  finish (if s.installing && !s.tableAnswers r then s.receipt r else s.after (s.tableReceipt r))
/-- INSTALL_COLLECTION_END (R107, R223). -/
def execInstallCollectionEnd (s : State) : Host.Outcome State Fault Refusal :=
  finish (if s.installing then s.collectionEnd else s.after s.tablePass)
/-- RETRANSMISSION_PASS_END (R107, R223). -/
def execRetransmissionPassEnd (s : State) : Host.Outcome State Fault Refusal :=
  finish (if s.installing then s.passEnd else s.after s.tablePass)
/-- TASK_START (R196). -/
def execTaskStart (index : Nat) (s : State) : Host.Outcome State Fault Refusal := finish (s.after (s.taskStart index))
/-- NOTIFY_RETRY (R224). -/
def execNotifyRetry (index : Nat) (s : State) : Host.Outcome State Fault Refusal := finish (s.notifyRetry index)
/-- WINDOW_CLOSE (R196). -/
def execWindowClose (index : Nat) (s : State) : Host.Outcome State Fault Refusal := finish (s.after (s.windowClose index))
/-- TASK_END (R203). -/
def execTaskEnd (index : Nat) (s : State) : Host.Outcome State Fault Refusal := finish (s.after (s.taskEnd index))
/-- CANCEL_TASK (R208). -/
def execCancelTask (s : State) : Host.Outcome State Fault Refusal := finish (s.after s.cancelTask)
/-- CANCEL_GRAPH (R208). -/
def execCancelGraph (s : State) : Host.Outcome State Fault Refusal := finish (s.after s.cancelGraph)
/-- DISABLE_EXPORT (R209). -/
def execDisableExport (s : State) : Host.Outcome State Fault Refusal := finish (s.disableService F.GRAPH_STATUS_EXPORT 4)
/-- ENABLE_EXPORT (R210). -/
def execEnableExport (s : State) : Host.Outcome State Fault Refusal := finish (s.enableService F.GRAPH_STATUS_EXPORT)
/-- DISABLE_IMPORT (R209). -/
def execDisableImport (s : State) : Host.Outcome State Fault Refusal := finish (s.disableService F.GRAPH_STATUS_IMPORT 6)
/-- ENABLE_IMPORT (R210). -/
def execEnableImport (s : State) : Host.Outcome State Fault Refusal := finish (s.enableService F.GRAPH_STATUS_IMPORT)
/-- GRAPH_RING_TAIL_WRITE (R205). -/
def execGraphRingTailWrite (value : Word) (s : State) : Host.Outcome State Fault Refusal :=
  finish (s.ringTailWrite value.toNat)
/-- SCALAR_CONTRIBUTION (R212). -/
def execScalarContribution (c : ScalarC) (s : State) : Host.Outcome State Fault Refusal :=
  finish (s.after (s.scalarContribution c))
/-- SCALAR_ACCUMULATOR (R211). -/
def execScalarAccumulator (a : ScalarAcc) (s : State) : Host.Outcome State Fault Refusal :=
  finish (s.after (s.scalarAccumulator a))
/-- SCALAR_RESULT (R213). -/
def execScalarResult (tag : Nat) (values : List Nat) (flags : Nat) (s : State) : Host.Outcome State Fault Refusal :=
  finish (s.after (s.scalarResult tag values flags))
/-- FORWARDED_RECORD (R225). -/
def execForwardedRecord (record : Bytes) (s : State) : Host.Outcome State Fault Refusal := finish (s.forwardedRecord record)
/-- ROCE_ACK (R215). -/
def execRoceAck (qp psn : Nat) (s : State) : Host.Outcome State Fault Refusal := finish (s.after (s.roceAck qp psn))
/-- ROCE_NAK (R215). -/
def execRoceNak (qp psn : Nat) (s : State) : Host.Outcome State Fault Refusal :=
  finish (s.after (s.retryOps qp (s.opsFrom qp psn)))
/-- ROCE_RNR_NAK (R215). -/
def execRoceRnrNak (qp psn : Nat) (s : State) : Host.Outcome State Fault Refusal :=
  finish (if (s.opsFrom qp psn).isEmpty then s else s.resendOps (s.opsFrom qp psn))
/-- ROCE_REMOTE_ACCESS_NAK (R215). -/
def execRoceRemoteAccessNak (qp psn : Nat) (s : State) : Host.Outcome State Fault Refusal :=
  finish (s.after (s.remoteAccessNak qp psn))
/-- ROCE_ACK_TIMEOUT (R215). -/
def execRoceAckTimeout (qp : Nat) (s : State) : Host.Outcome State Fault Refusal :=
  finish (s.after (s.retryOps qp (s.eth.ops.filter (fun o => o.qp == qp && o.issued))))
/-- ROCE_READ_RESPONSE (R221). -/
def execRoceReadResponse (qp psn : Nat) (data : Bytes) (s : State) : Host.Outcome State Fault Refusal :=
  finish (s.after (s.roceReadResponse qp psn data))
/-- ROCE_REQUEST_DISCARD (R215). -/
def execRoceRequestDiscard (s : State) : Host.Outcome State Fault Refusal :=
  finish ((s.count .ETH_COUNT 2).raise F.ETH_EVENT_DISCARD 0 1)
/-- CONGESTION_NOTIFICATION (R216). -/
def execCongestionNotification (qp : Nat) (s : State) : Host.Outcome State Fault Refusal := finish (s.congestion qp)
/-- ECN_RATE_INCREASE (R216). -/
def execEcnRateIncrease (qp : Nat) (s : State) : Host.Outcome State Fault Refusal := finish (s.rateIncrease qp)
/-- ETH_QP_WORD_WRITE (R215). -/
def execEthQpWordWrite (word : Nat) (value : Word) (s : State) : Host.Outcome State Fault Refusal :=
  finish (s.after (s.qpWrite word value))

end Sys2Proof.Machine
end

