-- ==== Sys2Proof/Machine/GraphSubmit.lean ====
section
/-! DEFINITION. Submission of a step graph (R190 to R197, R205): the checks of R192 in their order, policy (R193), and the
admission of the tasks. -/
namespace Sys2Proof.Machine

/-- A graph as submitted: its header fields and descriptors (Table 7.4). -/
structure Graphs where
  tag : Nat
  job : Nat
  base : Nat
  forward : Bool
  descs : List Bytes
  deriving DecidableEq, Repr

-- Refusal codes (Table 7.5)
namespace GErr
abbrev check : Nat := 1
abbrev reserved : Nat := 2
abbrev kind : Nat := 3
abbrev pred : Nat := 4
abbrev fanOut : Nat := 5
abbrev window : Nat := 6
abbrev overlap : Nat := 7
abbrev resident : Nat := 8
abbrev ring : Nat := 9
end GErr

/-- The graph that a payload spells. -/
def Graphs.parse (bs : Bytes) : Graphs :=
  ⟨field bs 0 4, field bs 4 4, field bs 8 6, field bs 0x14 1 % 2 == 1, pieces 128 (field bs 0x10 4) (bs.drop 64)⟩

-- Fields of a descriptor (Table 7.2)
def descKind (d : Bytes) : Nat := field d 0 1
def descPreds (d : Bytes) : List Nat := (List.range (field d 2 1)).map (fun i => field d (0x20 + 2 * i) 2)

/-- Kinds without sub-items (Table 7.1). -/
def noSubItems (k : Nat) : Bool := k == 2 || k == 7 || k == 9 || k == 0xA || k == 0xB
/-- Kinds whose descriptor names a group (Table 7.2). -/
def namesGroup (k : Nat) : Bool := k == 1 || k == 2 || k == 3 || k == 4 || k == 5 || k == 6 || k == 0xA

/-- The parameter bytes that a kind uses: (offset, length) (Table 7.3). -/
def paramUse (k : Nat) (rules : Nat) : List (Nat × Nat) :=
  if k = 3 then [(0, 5)]
  else if k = 5 then [(0, 3), (4, 2), (8, 4), (0x10, 0x18)] ++ (List.range rules).map (fun i => (0x28 + 4 * i, 3))
  else if k = 6 then [(0, 1), (4, 2), (8, 4), (0x10, 0x10)]
  else if k = 7 then [(0, 2), (4, 8), (0x10, 32)]
  else if k = 8 then [(0, 0x10)]
  else if k = 0xA then [(0, 1)]
  else if k = 0xB then [(0, 2), (8, 6)]
  else []

/-- A parameter byte that no field uses is not zero. -/
def paramReserved (d : Bytes) : Bool :=
  let use := paramUse (descKind d) (field d 0x32 1)
  (List.range 72).any (fun i => field d (0x30 + i) 1 != 0 && !use.any (fun u => decide (u.1 ≤ i) && decide (i < u.1 + u.2)))

/-- A parameter has a value that its field does not list. -/
def paramIllegal (d : Bytes) : Bool :=
  let p (o n : Nat) : Nat := field d (0x30 + o) n
  let k := descKind d
  if k = 3 then decide (1 < p 2 1) || decide (1 < p 3 1)
  else if k = 5 then decide (4 < p 2 1)
    || (List.range (p 2 1)).any (fun i => decide (1 < p (0x2A + 4 * i) 1) || !legalPair (p (0x28 + 4 * i) 1) (p (0x29 + 4 * i) 1))
  else if k = 7 then decide (0x20 ≤ p 0 1) || p 0 1 % 4 == 3 || decide (1 < p 1 1) || p 8 4 == 0 || decide (32768 < p 8 4)
  else if k = 8 then decide (64 * 1048576 < p 8 4)
  else if k = 0xB then decide (32 ≤ p 0 1) || decide (p 1 1 < 0x80)
  else false

/-- Reserved fields of a descriptor, and fields that must be zero for its kind (R192, check 1). -/
def descReserved (d : Bytes) : Bool :=
  let k := descKind d
  decide (2 ≤ field d 1 1) || field d 7 1 != 0 || field d 0x12 2 != 0 || field d 0x14 4 != 0 || field d 0x1E 2 != 0
    || field d 0x78 4 != 0 || decide (0x1000 ≤ field d 4 2)
    || (decide (field d 2 1 ≤ 8) && (List.range 8).any (fun i => decide (field d 2 1 ≤ i) && field d (0x20 + 2 * i) 2 != 0))
    || (noSubItems k && field d 3 1 != 0) || (decide (1 ≤ k) && decide (k ≤ 0xB) && ((!namesGroup k && field d 6 1 != 0)
      || paramReserved d || paramIllegal d))

/-- The first graph-local index that satisfies a test. -/
def firstDesc (ds : List Bytes) (p : Nat → Bytes → Bool) : Option Nat :=
  (List.range ds.length).find? (fun i => p i (ds.getD i []))

/-- Tasks that each task comes after, by chains of dependences. -/
def ancestors (ds : List Bytes) : List (List Nat) :=
  ds.foldl (fun acc d => acc ++ [(descPreds d).foldl (fun a p => unionL (addOnce p a) (acc.getD p [])) []]) []

/-- The windows of two tasks overlap: rounds [a, b] and [c, d]. -/
def overlap (a b c d : Nat) : Bool := decide (a ≤ d) && decide (c ≤ b)

/-- First and last round of a descriptor's window. -/
def descWindow (base : Nat) (d : Bytes) : Nat × Nat := (base + field d 8 4, base + field d 8 4 + field d 0xC 4 - 1)

/-- A task names the flow of an earlier one in an overlapping window without a chain between them (R197). -/
def flowClash (base : Nat) (ds : List Bytes) (anc : List (List Nat)) (i : Nat) (d : Bytes) : Bool :=
  let f := field d 0x10 2
  f != 0 && field d 0xC 4 != 0 && (List.range i).any (fun j =>
    let e := ds.getD j []
    let (a, b) := descWindow base d
    let (x, y) := descWindow base e
    field e 0x10 2 == f && field e 0xC 4 != 0 && overlap a b x y && !(anc.getD i []).contains j)

/-- The ring entries that a graph reserves (R205). -/
def reservation (ds : List Bytes) : Nat := ds.foldl (fun n d => n + 1 + field d 3 1) 0

/-- The GRAPH region of a plan in bytes after `n` bank groups of it are lost (Table 17.3). -/
def Plan.graphBytes (p : Plan) (n : Nat) : Nat := p.graph * mib - 80 * mib * n

/-- R204 with `n` bank groups lost: resident entries, as declared or as many as leave room for 4,096 records. -/
def Plan.graphTasks (p : Plan) (n : Nat) : Nat :=
  if n = 0 then p.tasks else min p.tasks ((p.graphBytes n - 4 * mib - 131072) / 192)

/-- The smallest n with 2^n at or below a number of at least 1, by counting down from `k`. -/
def log2Below : Nat → Nat → Nat
  | 0, _ => 0
  | k + 1, v => if 2 ^ (k + 1) ≤ v then k + 1 else log2Below k v

/-- R204: the ring capacity of a plan as its logarithm, with `n` bank groups lost; at most 2^20 records. -/
def Plan.ringLog (p : Plan) (n : Nat) : Nat := log2Below 20 ((p.graphBytes n - 192 * p.graphTasks n - 4 * mib) / 32)

namespace State

/-- Resident entries that the current plan declares and no task holds. -/
def freeEntries (s : State) : Nat :=
  (match s.plan.cur with | some p => p.graphTasks (s.pwr.regionLoss.count 1) | none => 0) - s.graph.tasks.length

/-- A resident task names the flow in an overlapping window (R197). -/
def residentClash (s : State) (base : Nat) (d : Bytes) : Bool :=
  let f := field d 0x10 2
  f != 0 && field d 0xC 4 != 0 && s.graph.tasks.any (fun t =>
    let (a, b) := descWindow base d
    t.flow == f && t.length != 0 && overlap a b t.opensAt t.closesAt)

/-- R192: the first check that fails, with the graph-local index (0xFFFF the header). -/
def checkGraph (s : State) (bs : Bytes) : Option (Nat × Nat) :=
  let g := Graphs.parse bs
  let ds := g.descs
  let n := field bs 0x10 4
  let anc := ancestors ds
  let bad (c : Bool) (code : Nat) : Option (Nat × Nat) := if c then some (code, 0xFFFF) else none
  let at_ (code : Nat) (p : Nat → Bytes → Bool) : Option (Nat × Nat) := (firstDesc ds p).map (fun i => (code, i))
  bad (n == 0 || decide (65536 < n) || bs.length != 64 + 128 * n || field bs 0x3C 4 != crc32c (bs.take 0x3C)) GErr.check
  <|> at_ GErr.check (fun _ d => field d 0x7C 4 != crc32c (d.take 0x7C))
  <|> bad (field bs 0xE 2 != 0 || decide (2 ≤ field bs 0x14 1) || field bs 0x15 39 != 0) GErr.reserved
  <|> at_ GErr.reserved (fun _ d => descReserved d)
  <|> at_ GErr.kind (fun _ d => descKind d == 0 || decide (0xB < descKind d))
  <|> at_ GErr.pred (fun i d => decide (8 < field d 2 1) || (descPreds d).any (fun p => decide (i ≤ p)))
  <|> at_ GErr.fanOut (fun i _ => decide (32 < (ds.filter (fun e => (descPreds e).contains i)).length))
  <|> at_ GErr.window (fun _ d => if field d 0xC 4 = 0 then !(descKind d == 9 || descKind d == 0xB)
        else decide ((descWindow g.base d).2 ≤ s.round))
  <|> at_ GErr.overlap (fun i d => flowClash g.base ds anc i d || s.residentClash g.base d)
  <|> bad (decide (s.freeEntries < n)) GErr.resident
  <|> bad (decide (s.ringCapacity < reservation ds + s.g F.GRAPH_RING_RESERVED_RESERVED + s.unconsumed)) GErr.ring

/-- R193, R383: the policy that refuses a task, as FAILED_POLICY's detail; 0 where the task names a flow that carries no items. -/
def policyOf (s : State) (d : Bytes) : Option Nat :=
  let k := descKind d
  let lic (i : Nat) : Bool := hasBit (s.g F.IDENT_LIC_PAIR_FEATURES) i
  let c := field d 4 2
  let noPlanCupola := c != 0 && s.cupState c == 7
  let noGroup := namesGroup k && k != 2 && (s.group (field d 6 1)).isNone
  let conf := match s.plan.cur with
    | some p => p.confidentialFlag && s.b F.KEY_STATUS_TENANT_BOUND
        && (s.b F.KEY_STATUS_DEBUG_TAINT || s.g F.KEY_STATUS_REMOVE_STEP != 0
          || (c != 0 && !(match p.templateOf c with | some t => t.confidential | none => false)))
    | none => false
  if ((k == 1 || k == 2 || k == 3 || k == 4) && !lic 0) || ((k == 5 || k == 6) && !lic 1) || (k == 0xA && !lic 2) then some 1
  else if conf then some 2
  else if noPlanCupola || noGroup || s.plan.cur.isNone then some 3
  else if !noSubItems k && (field d 0x10 2 == 0x0001 || field d 0x10 2 == 0xFFFC) then some 0
  else none

/-- The lowest resident indices that are free, `n` of them. -/
def freeIndices (s : State) (n : Nat) : List Nat :=
  ((List.range (n + s.graph.tasks.length)).filter (fun i => (s.task i).isNone)).take n

/-- The resident task of a descriptor. -/
def newTask (s : State) (g : Graphs) (ids : List Nat) (i : Nat) : Task :=
  let d := g.descs.getD i []
  let preds := (descPreds d).map (fun p => ids.getD p 0)
  let t : Task :=
    { idx := ids.getD i 0, desc := d, tag := g.tag, job := g.job, base := g.base,
      epoch := s.g F.PLAN_EPOCH_CURRENT, localIdx := i, preds := preds, metPreds := [],
      forward := g.forward, state := 1, cause := none, stopBy := 0, nextSeq := 0, subs := [], started := 0, bytesDone := 0,
      checkOnly := 0, results := [], flags := 0, extra := 0, reserved := 1 + field d 3 1, seed := 0, firstWrite := 0,
      channel := none, out := 0 }
  if preds.isEmpty && !t.isOpen s.round then { t with state := 2 } else t

/-- A graph is refused as a whole (R192). -/
def refuseGraph (s : State) (code idx tag : Nat) : State :=
  let s1 := ((s.p F.GRAPH_ERR_CODE code).p F.GRAPH_ERR_INDEX idx).p F.GRAPH_ERR_TAG tag
  ((s1.count .GRAPH_COUNT 2).raise F.GRAPH_EVENT_REFUSED tag code).err Status.refused (code + idx * 256)

/-- A graph is admitted: its tasks are resident, its ring entries reserved, its ledger entries made (R205, R206); those
that policy refuses end at once (R193). -/
def admitGraph (s : State) (g : Graphs) : State :=
  let n := g.descs.length
  let ids := s.freeIndices n
  let items := ids.map s.itemId
  let tasks := (List.range n).map (fun i => s.newTask g ids i)
  let s1 := { s with graph := { s.graph with
    tasks := s.graph.tasks ++ tasks
    graphs := setKey s.graph.graphs g.tag items
    ledger := items.foldl (fun l i => setKey l i false) s.graph.ledger } }
  let s2 := s1.p F.GRAPH_RING_RESERVED_RESERVED (s1.g F.GRAPH_RING_RESERVED_RESERVED + reservation g.descs)
  let s3 := s2.wr .GRAPH_ERR 0 0 0
  let ends := (List.range n).filterMap (fun i =>
    (s.policyOf (g.descs.getD i [])).map (fun d => (ids.getD i 0, Fate.policy, d)))
  let s4 := if ends.isEmpty then s3 else (s3.raise F.GRAPH_EVENT_POLICY g.tag ends.length).endTasks ends
  let s5 := s4.ok
  { s5 with answer := { s5.answer with b := n, bytes := ((items.take 2048).map (leBytes 4)).flatten } }

/-- Submission of a graph (R191 to R194). -/
def submitGraph (s : State) (bs : Bytes) : State :=
  match s.checkGraph bs with
  | some (code, idx) => s.refuseGraph code idx (field bs 0 4)
  | none => s.admitGraph (Graphs.parse bs)

end State

end Sys2Proof.Machine
end

