-- ==== Sys2Proof/Machine/Cupola.lean ====
section
/-! DEFINITION. Cupolas (R118 to R125): carving, retiring, the carve engine's places; the job keys that the keystone
writes for them (R337, R338), and the start of a tenant's removal with its last cupola (R350). -/
namespace Sys2Proof.Machine

-- Refusal codes (Table 5.2)
namespace CErr
abbrev notPlan : Nat := 1
abbrev state : Nat := 2
abbrev limit : Nat := 3
abbrev busy : Nat := 4
abbrev policy : Nat := 5
abbrev unconfirmed : Nat := 6
abbrev held : Nat := 7
end CErr

-- Cupola states (Table 5.1)
namespace CState
abbrev unbuilt : Nat := 0
abbrev vacant : Nat := 1
abbrev carving : Nat := 2
abbrev active : Nat := 3
abbrev repairing : Nat := 4
abbrev held : Nat := 5
abbrev retiring : Nat := 6
abbrev absent : Nat := 7
end CState

namespace State

-- The keystone's part

/-- The installation's link-security mode (Table 2.1): 0 none, 1 job, 2 hop. -/
def linkMode (s : State) : Nat := match s.plan.cur with | some p => p.linkMode | none => 0

/-- The span mask that KEY_SPAN gives. -/
def spanMask (s : State) : Nat := s.gi F.KEY_SPAN_MASK 0 + 2 ^ 64 * s.gi F.KEY_SPAN_MASK 1

/-- The job key group that an agent uses for a cupola: the one loaded for it, else the first that is empty. -/
def keyGroup (s : State) (node cupola : Nat) : Nat :=
  match s.jobGroup node cupola with
  | some c => c
  | none => ((List.range 16).find? (fun c => !(List.range 4).any (fun r => s.keyLoaded node (4 * c + r)))).getD 15

/-- Generation `g` of a job's keys into the `next` or current roles of an agent (R337, R339). -/
def writeJobKeys (s : State) (j : JobKey) (node g : Nat) (next : Bool) (round : Nat) : State :=
  let base := 4 * s.keyGroup node j.cupola
  let r := if next then 1 else 0
  let cup := match s.plan.cur with
    | some p => jobKey p j g
    | none => []
  let s1 := s.sendKeySlot node 1 (base + r) j.cupola g round cup
  if j.span = 2 ^ s.spire then s1 else s1.sendKeySlot node 1 (base + 2 + r) j.cupola g round (spanKey j g)

/-- Key-retire goes to an agent (R124): in every link-security mode. -/
def sendRetire (s : State) (node cupola : Nat) : State := s.sendKeySlot node 3 (4 * s.keyGroup node cupola) cupola 0 0 []

/-- The keystone keeps the 4,096 most recently retired (job, nonce) pairs (R338). -/
def retirePair (s : State) (job nonce : Nat) : State :=
  let l := s.key.retired ++ [(job, nonce)]
  { s with key := { s.key with retired := l.drop (l.length - 4096) } }

/-- R120, check 5: the confidential-mode and key-policy rules refuse a carve (R337, R338, R347). -/
def carvePolicy (s : State) (t : TplRec) (job : Nat) : Bool :=
  let nonce := s.g F.CUP_NONCE_NONCE
  let conf := match s.plan.cur with
    | some p => p.confidentialFlag && (!s.b F.KEY_STATUS_TENANT_BOUND || !t.confidential || s.b F.KEY_STATUS_DEBUG_TAINT
        || s.g F.KEY_STATUS_REMOVE_STEP != 0)
    | none => false
  let keys := s.linkMode == 1 && (nonce == 0 || s.key.retired.contains (job, nonce) || !hasBit s.spanMask s.spire)
  conf || keys

/-- R350: removal starts; `b` is the largest drain bound of the tenant's flows, and at least 2. -/
def startRemoval (s : State) : State :=
  let live := (s.listed .CUP_ENTRY).filterMap (fun e =>
    let st := getBits e.2 0 3
    if 2 ≤ st && st ≤ 6 then some e.1 else none)
  let b := live.foldl (fun m c => max m (s.tables.drainOfCupola c)) 2
  let s1 := (s.p F.KEY_REMOVE_START s.round).p F.KEY_REMOVE_DISCARDED 0
  ({ s1 with key := { s1.key with bound := b, retireWait := [], forced := [], waitFrom := none, forceEnd := false } }).p
    F.KEY_STATUS_REMOVE_STEP 1

-- Carving

/-- Cupolas of a template in states 2 to 6 (R120). -/
def templateUse (s : State) (t : TplRec) : Nat :=
  ((s.listed .CUP_ENTRY).filter (fun e =>
    let st := getBits e.2 0 3
    decide (2 ≤ st) && decide (st ≤ 6) && (s.template e.1).map (·.id) == some t.id)).length

/-- Rounds until a place is expected to free (Table 10.4, R125): a carve that has started gives its place back in its carve
round, a retirement in the round after its retire round; 0 where none is known. -/
def roundsToPlace (s : State) (cupola code : Nat) : Nat :=
  let carves := (s.cup.carves.filter (fun x => x.start.isSome)).map (·.round)
  let mine (c : Nat) : Bool := (s.template c).map (·.id) == (s.template cupola).map (·.id)
  let ends := if code = CErr.limit then (s.cup.retires.filter (fun x => mine x.cupola)).map (fun x => x.round + 1)
    else carves ++ s.cup.retires.map (fun x => x.round + 1)
  match ends with
  | [] => 0
  | r :: l => l.foldl min r - s.round

/-- A command on a cupola is refused (Table 5.2). -/
def cupRefuse (s : State) (cupola code : Nat) : State :=
  let st := if code = CErr.notPlan then Status.value else if code = CErr.limit || code = CErr.busy then Status.busy
    else if code = CErr.policy then Status.policy else Status.state
  ((s.p F.CUP_ERR_CODE code).p F.CUP_ERR_CUPOLA cupola).err st (if st = Status.busy then s.roundsToPlace cupola code else code)

/-- A cupola enters a state. -/
def setCup (s : State) (cupola st : Nat) : State := (s.pi F.CUP_ENTRY_STATE cupola st).decision 0 cupola st

/-- A cupola enters VACANT or UNBUILT: no job holds it. -/
def freeCup (s : State) (cupola st : Nat) : State := (s.setCup cupola st).pi F.CUP_JOB_JOB cupola 0

/-- Carve and retire operations in progress. -/
def cupOps (s : State) : Nat := s.cup.carves.length + s.cup.retires.length

/-- A repair holds the matching array: a re-solve runs (REP_STATUS.ENGINE). -/
def arrayHeld (s : State) : Bool := s.g F.REP_STATUS_ENGINE == 3

/-- CARVE (R120, R121, R125). -/
def carve (s : State) (c job : Nat) : State :=
  match s.template c with
  | none => s.cupRefuse c CErr.notPlan
  | some t =>
    let st := s.cupState c
    if st = CState.absent then s.cupRefuse c CErr.notPlan
    else if st ≠ CState.vacant then s.cupRefuse c CErr.state
    else if s.heldCupolas.contains c then s.cupRefuse c CErr.held
    else if t.limit ≤ s.templateUse t then s.cupRefuse c CErr.limit
    else if 32 ≤ s.cupOps then s.cupRefuse c CErr.busy
    else if s.carvePolicy t job then s.cupRefuse c CErr.policy
    else
      let q := s.round
      let start := if s.arrayHeld then none else some q
      let x : Carve := ⟨c, job, s.g F.CUP_NONCE_NONCE, q, start, s.clearOfInstall (q + 4), [], [], false⟩
      let s1 := { s with cup := { s.cup with carves := s.cup.carves ++ [x], spans := setKey s.cup.spans c s.spanMask } }
      let s2 := (s1.wr .CUP_ERR 0 0 0).setCup c CState.carving
      let s3 := (s2.pi F.CUP_JOB_JOB c job).pi F.CUP_JOB_TEMPLATE c t.id
      let k : JobKey := ⟨c, job, s.g F.CUP_NONCE_NONCE, s.spanMask, 0, none, 0, [], 0⟩
      let s4 := if s.linkMode = 1 then { s3 with key := { s3.key with jobs := s3.key.jobs.filter (fun j => j.cupola != c) ++ [k] } } else s3
      s4.ok

/-- The carve of a cupola in progress. -/
def carveOf (s : State) (c : Nat) : Option Carve := s.cup.carves.find? (fun x => x.cupola == c)

/-- Change a carve. -/
def updCarve (s : State) (c : Nat) (f : Carve → Carve) : State :=
  { s with cup := { s.cup with carves := updWhere (fun x => x.cupola == c) f s.cup.carves } }

/-- Filter entries of a cupola are cleared (R121, R124). -/
def clearFilters (s : State) (c : Nat) : State :=
  let l := s.cup.filters.filter (fun e => e.1 == c)
  let s1 := l.foldl (fun (t : State) e => t.writeFilter e.2.1 e.2.2 0 0) s
  { s1 with cup := { s1.cup with filters := s1.cup.filters.filter (fun e => e.1 != c) } }

/-- An accepted carve fails (R121, R125): its entries are cleared, its keys retired, and the cupola is VACANT. -/
def carveFail (s : State) (c code : Nat) : State :=
  let nodes := (s.cup.filters.filter (fun e => e.1 == c)).map (fun e => e.2.1)
  let s1 := s.clearFilters c
  let s2 := if s.linkMode = 1 then nodes.foldl (fun (t : State) n => t.sendRetire n c) s1 else s1
  let s3 := { s2 with
    cup := { s2.cup with carves := s2.cup.carves.filter (fun x => x.cupola != c) }
    key := { s2.key with jobs := s2.key.jobs.filter (fun j => j.cupola != c) } }
  (((s3.freeCup c CState.vacant).p F.CUP_ERR_CODE code).p F.CUP_ERR_CUPOLA c).raise F.CUP_EVENT_REFUSED c code

/-- CARVE_START (R125): the array has come free. -/
def carveStart (s : State) (c : Nat) : State :=
  match s.carveOf c with
  | none => s
  | some x =>
    if x.start.isSome || s.arrayHeld then s
    else s.updCarve c (fun x => { x with start := some s.round, round := s.clearOfInstall (s.round + 4) })

/-- CARVE_WAIT_EXPIRY (R125): 8 rounds without a start. -/
def carveWaitExpiry (s : State) (c : Nat) : State :=
  match s.carveOf c with
  | none => s
  | some x => if x.start.isSome || decide (s.round + 1 < x.accepted + 8) then s else s.carveFail c CErr.busy

/-- One agent's writes for a carve: the filter entry with its activation round, and in job mode generation 0 of the keys. -/
def carveWrite (s : State) (c node round : Nat) : State :=
  let s1 :=
    match s.filterIndex node c with
    | some i => s.writeFilter node i c round
    | none =>
      match s.freeFilter node with
      | some i => ({ s with cup := { s.cup with filters := s.cup.filters ++ [(c, node, i)] } }).writeFilter node i c round
      | none => s
  match s.key.jobs.find? (fun j => j.cupola == c) with
  | some j => s1.writeJobKeys j node 0 false 0
  | none => s1

/-- CARVE_FILTER_WRITE (R121), in round q + 1: every agent that sources or sinks a flow of the cupola. -/
def carveFilterWrite (s : State) (c : Nat) : State :=
  match s.carveOf c with
  | some x =>
    match x.start with
    | some q =>
      if s.round < q + 1 || !x.nodes.isEmpty then s
      else
        let nodes := s.cupAgents c
        let s1 := s.updCarve c (fun x => { x with nodes := nodes, unconfirmed := nodes })
        nodes.foldl (fun (t : State) n => t.carveWrite c n x.round) s1
    | none => s
  | none => s

/-- CARVE_REWRITE (R121), in round q + 2: again to every agent that has not confirmed. -/
def carveRewrite (s : State) (c : Nat) : State :=
  match s.carveOf c with
  | some x => x.unconfirmed.foldl (fun (t : State) n => t.carveWrite c n x.round) s
  | none => s

/-- FILTER_CONFIRM: an agent confirms a carve's write, a retirement's key-retire or a rotation's load, or refuses it. -/
def filterConfirm (s : State) (c node : Nat) (refused : Bool) : State :=
  match s.carveOf c with
  | some _ =>
    if refused then s.updCarve c (fun x => { x with failed := true })
    else s.updCarve c (fun x => { x with unconfirmed := x.unconfirmed.filter (fun n => n != node) })
  | none =>
    if refused then s
    else
      { s with key := { s.key with
        retireWait := s.key.retireWait.filter (fun n => n != node)
        jobs := updWhere (fun j => j.cupola == c) (fun j => { j with unconfirmed := j.unconfirmed.filter (fun n => n != node) })
          s.key.jobs } }

/-- CARVE_CONFIRM_DEADLINE (R121): the end of the round before the carve round. -/
def carveConfirmDeadline (s : State) (c : Nat) : State :=
  match s.carveOf c with
  | none => s
  | some x =>
    if x.start.isNone || decide (s.round + 1 < x.round) then s
    else if x.failed || !x.unconfirmed.isEmpty then s.carveFail c CErr.unconfirmed
    else s

/-- The node whose tables an element carries under tables `t`: its own position, or in a cut row's shift its role (R141). -/
def tableNodeIn (s : State) (p : Plan) (t : Tables) (pos : Nat) : Nat :=
  s.logical (if s.rep.rowsCut.isEmpty then pos else roleOf p t pos)
def tableNode (s : State) (p : Plan) (pos : Nat) : Nat := s.tableNodeIn p s.tables pos

/-- A cupola uses what has failed under tables `t`: an element, or a link by one of its ends (R119). -/
def hitsIn (s : State) (p : Plan) (t : Tables) (c : Nat) (f : Failure) : Bool :=
  if f.port = 255 then usesElement t p c (s.tableNodeIn p t f.node) else usesLink t p c (s.tableNodeIn p t f.node) f.port

/-- A cupola uses what has failed (R119). -/
def failureHits (s : State) (p : Plan) (c : Nat) (f : Failure) : Bool := s.hitsIn p s.tables c f

/-- A failure that is not yet repaired touches a cupola (R129). -/
def cupHurt (s : State) (c : Nat) : Bool :=
  match s.plan.cur with
  | none => false
  | some p => (s.rep.suspects ++ s.rep.deferred ++ s.rep.queued ++ s.rep.batch).any (s.failureHits p c)

/-- CARVE_ROUND (R121, R129): ACTIVE at its boundary, or REPAIRING when a failure has met it; the groups that it serves
are bound (R152), and the allowances follow (R325). -/
def carveRound (s : State) (c : Nat) : State :=
  match s.carveOf c with
  | none => s
  | some x =>
    if x.start.isNone || decide (s.round < x.round) then s
    else if x.failed || !x.unconfirmed.isEmpty then s
    else
      let s1 := { s with cup := { s.cup with carves := s.cup.carves.filter (fun y => y.cupola != c) } }
      let s2 := ((s1.setCup c CState.active).raise F.CUP_EVENT_CARVED c 1).bindGroups c x.job
      let s3 := if s.linkMode = 1 then s2.count .KEY_COUNT 4 else s2
      (if s.cupHurt c then s3.setCup c CState.repairing else s3).writeAllowances

-- Retiring

/-- The retirement of a cupola in progress. -/
def retireOf (s : State) (c : Nat) : Option Retire := s.cup.retires.find? (fun x => x.cupola == c)

def updRetire (s : State) (c : Nat) (f : Retire → Retire) : State :=
  { s with cup := { s.cup with retires := updWhere (fun x => x.cupola == c) f s.cup.retires } }

/-- A retirement is accepted (R124): its rounds, and its guard groups' disabling (R187). -/
def acceptRetire (s : State) (c : Nat) : State :=
  let q := s.round
  let b := s.tables.drainOfCupola c
  let x : Retire := ⟨c, q, b, s.clearOfInstall (q + 2 + b), false, false, false⟩
  let s1 := ({ s with cup := { s.cup with retires := s.cup.retires ++ [x] } }).wr .CUP_ERR 0 0 0
  (s.grd.groups.filter (fun g => g.bound && g.cupola == c)).foldl (fun (t : State) g => t.disableRequest g.gid) s1

/-- A tenant's other cupolas, in states 2 to 6 and not being retired. -/
def otherCupolas (s : State) (c : Nat) : List Nat :=
  (s.listed .CUP_ENTRY).filterMap (fun e =>
    let st := getBits e.2 0 3
    if e.1 != c && 2 ≤ st && st ≤ 6 && (s.retireOf e.1).isNone then some e.1 else none)

/-- RETIRE (R124); with a tenant's last cupola the removal of the tenant starts (R350). -/
def retire (s : State) (c job : Nat) : State :=
  let st := s.cupState c
  if job ≠ 0 then s.err Status.value 0
  else if st = CState.absent then s.cupRefuse c CErr.notPlan
  else if !(st = CState.active || st = CState.repairing || st = CState.held) || (s.retireOf c).isSome then s.cupRefuse c CErr.state
  else if 32 ≤ s.cupOps then s.cupRefuse c CErr.busy
  else
    let last := s.b F.KEY_STATUS_TENANT_BOUND && s.g F.KEY_STATUS_REMOVE_STEP = 0 && (s.otherCupolas c).isEmpty
    let s1 := if last then s.startRemoval else s
    (s1.acceptRetire c).ok

/-- RETIRE_ADMISSION_STOP (R124), at the boundary of q + 1: RETIRING; running tasks issue no further item in it. -/
def retireAdmissionStop (s : State) (c : Nat) : State :=
  match s.retireOf c with
  | none => s
  | some x =>
    if x.stopped || decide (s.round < x.accepted + 1) then s
    else
      let s1 := ((s.updRetire c (fun x => { x with stopped := true })).setCup c CState.retiring).unbindGroups c
      s1.stopWhere (fun t => t.live && t.cupola == c) Fate.disabled (disabledDetail 5 c)

/-- RETIRE_DRAIN_END (R124), at the end of q + 1 + b: what is in flight ends FAILED_DISABLED. -/
def retireDrainEnd (s : State) (c : Nat) : State :=
  match s.retireOf c with
  | none => s
  | some x =>
    if x.drained || decide (s.round < x.accepted + 1 + x.bound) then s
    else
      let s1 := s.updRetire c (fun x => { x with drained := true })
      (s1.tasksWhere (fun t => t.live && t.cupola == c)).foldl (fun (u : State) t =>
        u.endWithSubs t.idx Fate.disabled (disabledDetail 5 c)) s1

/-- RETIRE_ROUND (R124): filters cleared, key-retire to every agent that held an entry. -/
def retireRound (s : State) (c : Nat) : State :=
  match s.retireOf c with
  | none => s
  | some x =>
    if x.cleared || decide (s.round < x.round) then s
    else
      let nodes := ((s.cup.filters.filter (fun e => e.1 == c)).map (fun e => e.2.1)).eraseDups
      let s1 := (s.updRetire c (fun x => { x with cleared := true })).clearFilters c
      let s2 := nodes.foldl (fun (t : State) n => t.sendRetire n c) s1
      let s3 := match s2.key.jobs.find? (fun j => j.cupola == c) with
        | some j => s2.retirePair j.job j.nonce
        | none => s2
      { s3 with key := { s3.key with
        jobs := s3.key.jobs.filter (fun j => j.cupola != c)
        retireWait := unionL s3.key.retireWait nodes } }

/-- RETIRE_VACANT (R124), at the boundary after the retire round. -/
def retireVacant (s : State) (c : Nat) : State :=
  match s.retireOf c with
  | none => s
  | some x =>
    if !x.cleared || decide (s.round < x.round + 1) then s
    else
      let s1 := { s with cup := { s.cup with retires := s.cup.retires.filter (fun y => y.cupola != c) } }
      ((s1.freeCup c CState.vacant).raise F.CUP_EVENT_RETIRED c 1).writeAllowances

/-- RETRY_REPAIR (R146): every UNBUILT and JOB_HELD cupola is re-solved in one batch, at once: the repair engine takes the
failures behind them. -/
def retryCupolas (s : State) : List Nat :=
  ((s.listed .CUP_ENTRY).filter (fun e => getBits e.2 0 3 == CState.unbuilt || getBits e.2 0 3 == CState.held)).map Prod.fst

/-- R146: a re-solve of the UNBUILT and JOB_HELD cupolas starts when the engine is idle; while it is not, it stays due, and comes
with the next batch. -/
def startRetry (s : State) : State :=
  if s.retryCupolas.isEmpty then s
  else if s.g F.REP_STATUS_ENGINE = 0 then ({ s with rep := { s.rep with retryDue := false } }).p F.REP_STATUS_ENGINE 3
  else { s with rep := { s.rep with retryDue := true } }

/-- RETRY_REPAIR (R146): an accepted command, so that CUP_ERR is cleared. -/
def retryRepair (s : State) : State := ((s.wr .CUP_ERR 0 0 0).startRetry).ok

end State

-- The meanings

/-- CARVE (R120). -/
def execCarve (cupola job : Nat) (s : State) : Host.Outcome State Fault Refusal := finish (s.carve cupola job)
/-- CARVE_START (R125). -/
def execCarveStart (cupola : Nat) (s : State) : Host.Outcome State Fault Refusal := finish (s.carveStart cupola)
/-- CARVE_WAIT_EXPIRY (R125). -/
def execCarveWaitExpiry (cupola : Nat) (s : State) : Host.Outcome State Fault Refusal := finish (s.carveWaitExpiry cupola)
/-- CARVE_FILTER_WRITE (R121). -/
def execCarveFilterWrite (cupola : Nat) (s : State) : Host.Outcome State Fault Refusal := finish (s.carveFilterWrite cupola)
/-- CARVE_REWRITE (R121). -/
def execCarveRewrite (cupola : Nat) (s : State) : Host.Outcome State Fault Refusal := finish (s.carveRewrite cupola)
/-- FILTER_CONFIRM (R121). -/
def execFilterConfirm (cupola node : Nat) (refused : Bool) (s : State) : Host.Outcome State Fault Refusal :=
  finish (s.filterConfirm cupola node refused)
/-- CARVE_CONFIRM_DEADLINE (R121). -/
def execCarveConfirmDeadline (cupola : Nat) (s : State) : Host.Outcome State Fault Refusal :=
  finish (s.carveConfirmDeadline cupola)
/-- CARVE_ROUND (R121). -/
def execCarveRound (cupola : Nat) (s : State) : Host.Outcome State Fault Refusal := finish (s.carveRound cupola)
/-- RETIRE (R124). -/
def execRetire (cupola job : Nat) (s : State) : Host.Outcome State Fault Refusal := finish (s.retire cupola job)
/-- RETIRE_ADMISSION_STOP (R124). -/
def execRetireAdmissionStop (cupola : Nat) (s : State) : Host.Outcome State Fault Refusal :=
  finish (s.after (s.retireAdmissionStop cupola))
/-- RETIRE_DRAIN_END (R124). -/
def execRetireDrainEnd (cupola : Nat) (s : State) : Host.Outcome State Fault Refusal :=
  finish (s.after (s.retireDrainEnd cupola))
/-- RETIRE_ROUND (R124). -/
def execRetireRound (cupola : Nat) (s : State) : Host.Outcome State Fault Refusal := finish (s.retireRound cupola)
/-- RETIRE_VACANT (R124). -/
def execRetireVacant (cupola : Nat) (s : State) : Host.Outcome State Fault Refusal := finish (s.retireVacant cupola)
/-- RETRY_REPAIR (R146). -/
def execRetryRepair (s : State) : Host.Outcome State Fault Refusal := finish s.retryRepair

end Sys2Proof.Machine
end

