-- ==== Sys2Proof/Machine/Keystone.lean ====
section
/-! DEFINITION. The keystone (R328 to R355): enrolment, requests and their answers, hop rekeys and job-key rotation,
attestation reports, the admission handshake, and the removal of a tenant. -/
namespace Sys2Proof.Machine

/-- The node number under which the hop keys of Varlor's own OP ports are kept. -/
def ownPorts : Nat := 0xFFFF

namespace State

-- Enrolment (R331, R332)

/-- The staged enrolment record (Table 13.4). -/
def enrolRecord (s : State) : Bytes := ((List.range 16).map (fun i => leBytes 8 (s.rd .KEY_ENROL_STAGE 0 i).toNat)).flatten

/-- The digest that an enrolment slot holds. -/
def slotDigest (s : State) (i : Nat) : Bytes :=
  (List.range 4).flatMap (fun j => leBytes 8 (s.rd .KEY_SLOT_DIGEST 0 (4 * i + j)).toNat)

/-- A record of Table 13.4 is one that R331 accepts into its slot: tag, sequence and reserved fields. -/
def enrolGood (s : State) (r : Bytes) : Bool :=
  let kind := field r 1 1
  (r.drop 0x60).take 32 == derive "DSV-ENROL" (r.take 0x60)
    && decide (field r 0 1 < 8) && decide (kind < 4)
    && decide (s.gi F.KEY_SLOT_SEQ_SEQUENCE (field r 0 1) < field r 8 8)
    && field r 2 2 == 0 && field r 0x30 48 == 0 && (kind == 3 || field r 4 4 == 0)

/-- A slot takes a record. -/
def fillSlot (s : State) (r : Bytes) : State :=
  let i := field r 0 1
  let s1 := (s.wr .KEY_SLOT_INFO 0 i (BitVec.ofNat 64 (field r 1 1 + field r 4 4 * 2 ^ 32))).pi F.KEY_SLOT_SEQ_SEQUENCE i
    (field r 8 8)
  (List.range 4).foldl (fun (t : State) j => t.pi F.KEY_SLOT_DIGEST_WORD (4 * i + j) (field r (0x10 + 8 * j) 8)) s1

/-- ENROL (R331); on the active module the record goes to the standby (R332, Table 14.7). -/
def enrol (s : State) : State :=
  let r := s.enrolRecord
  if s.b F.KEY_STATUS_TENANT_BOUND then (s.raise F.KEY_EVENT_ENROL_REFUSED 0 1).err Status.policy 0
  else if !s.enrolGood r then (s.raise F.KEY_EVENT_ENROL_REFUSED 0 1).err Status.value 0
  else
    let i := field r 0 1
    let s1 := (s.fillSlot r).raise F.KEY_EVENT_ENROLLED i 1
    (if s1.isActive then (s1.postTwin 0 0x1C i).mirrorSend 6 true [0x1C, i] r else s1).ok

-- Requests (R329, R342)

/-- KEY_REQ: the keystone takes a request of steward firmware. -/
def keyReq (s : State) (operation index : Nat) : State :=
  { s with key := { s.key with requests := s.key.requests.filter (fun e => e.1 != index) ++ [(index, operation)] } }

/-- KEY_DONE: a request has completed. -/
def keyDone (s : State) (index : Nat) : State :=
  { s with key := { s.key with requests := s.key.requests.filter (fun e => e.1 != index) } }

/-- The status and detail with which an IMPORT ends for a reason of KEY_FAIL (Table 13.2, R342, Table 7.8). -/
def keyFailFate (t : Task) (reason : Nat) : Nat × Nat :=
  if reason = 3 then (Fate.policy, 4) else if reason = 5 then (Fate.check, 0)
  else if reason = 2 then (Fate.keyRetired, t.cupola) else (Fate.policy, 2)

/-- KEY_FAIL: the request ends with its reason; an IMPORT that waits for it ends (R342). -/
def keyFail (s : State) (reason index : Nat) : State :=
  let s1 := s.keyDone index
  match s1.task index with
  | none => s1
  | some t =>
    if t.kind = Kind.imp && t.live then
      let e := keyFailFate t reason
      s1.endWithSubs index e.1 e.2
    else s1

/-- ENTROPY_FAIL (R330). -/
def entropyFail (s : State) : State :=
  ({ s with key := { s.key with entropyFailed := true } }.p F.KEY_STATUS_ENTROPY_OK 0).raise F.KEY_EVENT_ENTROPY_FAIL 0 1

-- Hop keys (R340, R352)

/-- The far end of a directed link: an agent and its port, when the receiver is an agent. -/
def hopFar (s : State) (node port : Nat) : Option (Nat × Nat) :=
  match s.plan.cur with
  | none => none
  | some p =>
    if node = ownPorts then
      (p.links.find? (fun l => l.bkind == 1 + s.g F.TWIN_STATUS_LETTER && l.b == port)).map
        (fun l => (localOf l.a, l.pa))
    else
      ((p.neighbours (s.logical node)).find? (fun e => e.1 == port && e.2.2.2 == 0)).map (fun e => (localOf e.2.1, e.2.2.1))

/-- The record of a direction. -/
def hopOf (s : State) (node port : Nat) : Option HopKey := s.key.hops.find? (fun h => h.node == node && h.port == port)

/-- A direction's record replaced. -/
def setHop (s : State) (h : HopKey) : State :=
  { s with key := { s.key with hops := s.key.hops.filter (fun x => !(x.node == h.node && x.port == h.port)) ++ [h] } }

/-- An end of a link: its element ID and port; Varlor uses its own element ID and OP number (R333). -/
def hopEnd (s : State) (node port : Nat) : Nat × Nat := (if node = ownPorts then s.ownId else s.agentElement node, port)

/-- The receiving end of a direction: the agent there, else the element of the far beacon. -/
def hopReceiver (s : State) (node port : Nat) : Nat × Nat :=
  match s.hopFar node port with
  | some f => s.hopEnd f.1 f.2
  | none =>
    if node = ownPorts then
      match s.disc.beacons.find? (fun e => e.1 == port) with
      | some e => (e.2.elementId, e.2.port)
      | none => (0, 0)
    else (s.farId node port, s.ga F.AG_PORT_FAR_PORT node port)

/-- The hop key of a direction for an epoch (R333). -/
def hopKeyOf (s : State) (node port epoch : Nat) : Bytes := hopKey (s.hopEnd node port) (s.hopReceiver node port) epoch

/-- A key slot of an agent is loaded with a link epoch and its key; Varlor's own ports take them on the keystone's private
path. -/
def loadHop (s : State) (node slot epoch : Nat) (key : Bytes) : State :=
  if node = ownPorts then s else s.sendKeySlot node 1 slot 0 epoch 0 key

/-- The keystone loads epoch `ep` into the freed next roles of both ends of a direction (R340). -/
def loadEpoch (s : State) (node port ep : Nat) : State :=
  let key := s.hopKeyOf node port ep
  let s1 := s.loadHop node (64 + 4 * port + 1) ep key
  let s2 := match s.hopFar node port with
    | some f => s1.loadHop f.1 (64 + 4 * f.2 + 3) ep key
    | none => s1
  (s2.setHop ⟨node, port, 0, ep - 1, some ep⟩).count .KEY_COUNT 5

/-- REKEY_DUE (R340, R404): `ep` is the epoch that follows the promoted one; link epochs never fall. -/
def rekeyDue (s : State) (node port direction ep : Nat) : State :=
  if direction ≠ 0 then s
  else
    match s.hopOf node port with
    | some h => if ep ≤ h.epoch then s else s.loadEpoch node port ep
    | none => s.loadEpoch node port ep

/-- The directions of keyed links whose transmitter is in the spire: agent ports of plan links, then Varlor's own ports
on links to agents, peers and the partner (R340, R352). -/
def ownDirections (s : State) : List (Nat × Nat) :=
  match s.plan.cur with
  | none => []
  | some p =>
    let agents := p.links.flatMap (fun l =>
      (localOf l.a, l.pa) :: (if l.bkind = 0 then [(localOf l.b, l.pb)] else []))
    let ports := ((List.range 48).filter (fun n => (p.ports.getD n ⟨0, 0⟩).role != 0)).map (fun n => (ownPorts, n))
    (agents ++ ports).eraseDups

/-- The directions of keyed links whose transmitter lies in another spire: (spire, node, port of this spire's end). -/
def peerDirections (s : State) : List (Nat × Nat × Nat) :=
  match s.plan.cur with
  | none => []
  | some p => (p.links.filter (fun l => l.bkind == 3)).map (fun l => (l.b, localOf l.a, l.pa))

/-- R389: in hop mode an element whose transport key fuse is not programmed has its links held dark, and the repair engine
treats it as failed. -/
def unkeyedDark (s : State) : State :=
  match s.plan.cur with
  | none => s
  | some p => (s.boundNodes.filter (fun n => s.ga F.AG_IDENT_KEY_PROG n 0 != 1)).foldl (fun (t : State) n =>
      ({ t with rep := { t.rep with declared := addOnce n t.rep.declared } }).darkNeighbours p n) s

/-- The rekey exponent of a link (R340): the smallest among the templates whose cupolas own slots on it, else 32. -/
def rekeyExp (s : State) (p : Plan) (node port : Nat) : Nat :=
  let far := match s.hopFar node port with
    | some f => s.tables.slotsOf (s.logical f.1) f.2
    | none => []
  let cups := (s.tables.slotsOf (s.logical node) port ++ far).foldl (fun acc e =>
    if slotCupola e = 0 then acc else addOnce (slotCupola e) acc) []
  (((cups.filterMap p.templateOf).map (·.rekey)).min?).getD 32

/-- An agent port's KEYED and REKEY_EXP are written (R340, R404). No row of the table brings this write to the agent, so it takes
effect at once. DESIGN CHOICE (log entry 148). -/
def keyPort (s : State) (node port on n : Nat) : State :=
  let s1 := (s.pa F.AG_PORT_CFG_KEYED node port on).pa F.AG_PORT_CFG_REKEY_EXP node port n
  s1.send .access node (Reg.AG_PORT_CFG.base + 8 * port) [(s1.rd .AG_PORT_CFG node port).toNat]

/-- Every agent port of a keyed link is protected in hop mode, with the threshold of its link, and no other port is. -/
def keyPorts (s : State) : State :=
  match s.plan.cur with
  | none => s
  | some p =>
    let mine := if s.linkMode = 2 then s.ownDirections.filter (fun d => d.1 != ownPorts) else []
    let off := s.boundNodes.flatMap (fun n => ((List.range 16).filter (fun q =>
      s.ga F.AG_PORT_CFG_KEYED n q == 1 && !mine.contains (n, q))).map (fun q => (n, q)))
    let s1 := off.foldl (fun (t : State) d => t.keyPort d.1 d.2 0 (t.ga F.AG_PORT_CFG_REKEY_EXP d.1 d.2)) s
    mine.foldl (fun (t : State) d => t.keyPort d.1 d.2 1 (s.rekeyExp p d.1 d.2)) s1

/-- When hop mode comes into force the keystone loads epochs 0 and 1 of every direction of the spire's links; a direction
that already has a record keeps its epochs. -/
def startHops (s : State) : State :=
  if s.linkMode ≠ 2 then s.keyPorts
  else s.unkeyedDark.keyPorts.ownDirections.foldl (fun (t : State) d =>
    if (t.hopOf d.1 d.2).isSome then t
    else
      let k0 := t.hopKeyOf d.1 d.2 0
      let k1 := t.hopKeyOf d.1 d.2 1
      let t1 := (t.loadHop d.1 (64 + 4 * d.2) 0 k0).loadHop d.1 (64 + 4 * d.2 + 1) 1 k1
      let t2 := match t1.hopFar d.1 d.2 with
        | some f => (t1.loadHop f.1 (64 + 4 * f.2 + 2) 0 k0).loadHop f.1 (64 + 4 * f.2 + 3) 1 k1
        | none => t1
      t2.setHop ⟨d.1, d.2, 0, 0, some 1⟩) s.unkeyedDark.keyPorts

/-- One forced rekey of a direction (R352): the agent's FORCE_REKEY is set, Varlor's own port promotes at once and the
following epoch is loaded, and a peer is asked for its own directions. -/
def forceDirection (s : State) (spire node port : Nat) : State :=
  if spire ≠ s.spire then s.send .rotation spire node [0, port]
  else if node = ownPorts then
    match s.hopOf node port with
    | some h => s.loadEpoch node port (match h.next with | some n => n + 1 | none => h.epoch + 1)
    | none => s
  else s.portCfg node port F.AG_PORT_CFG_FORCE_REKEY.lo true

/-- A direction is to be forced twice, on behalf of a spire. -/
def addForced (s : State) (spire node port by_ : Nat) : State :=
  let e : Forced := ⟨spire, node, port, 2, by_⟩
  ({ s with key := { s.key with forced := s.key.forced ++ [e] } }).forceDirection spire node port

/-- FORCED_REKEY_CONFIRM (R352): both ends have confirmed a forced rekey's load: once more, or the direction is done. -/
def forcedConfirm (s : State) (node port : Nat) : State :=
  match s.key.forced.find? (fun e => e.node == node && e.port == port) with
  | none => s
  | some e =>
    let rest := s.key.forced.erase e
    let s1 := if e.by_ = s.spire then s else s.send .rotation e.by_ node [1, port, e.left]
    if e.left ≤ 1 then { s1 with key := { s1.key with forced := rest } }
    else
      let again : Forced := ⟨e.spire, node, port, 1, e.by_⟩
      ({ s1 with key := { s1.key with forced := rest ++ [again] } }).forceDirection e.spire node port

/-- PEER_FORCE_REKEY_REQUEST (R352). -/
def peerForce (s : State) (spire node port : Nat) : State :=
  if s.key.forced.any (fun e => e.node == node && e.port == port) then s else s.addForced s.spire node port spire

-- Job-key rotation (R339)

/-- The job keys of a cupola replaced. -/
def setJobKey (s : State) (j : JobKey) : State :=
  { s with key := { s.key with jobs := updWhere (fun x => x.cupola == j.cupola) (fun _ => j) s.key.jobs } }

/-- Agents that hold a filter entry of a cupola. -/
def memberAgents (s : State) (c : Nat) : List Nat := ((s.cup.filters.filter (fun e => e.1 == c)).map (fun e => e.2.1)).eraseDups

/-- The last sealed step of a job here: the greatest recovery point of its bound groups. -/
def sealedStep (s : State) (job : Nat) : Nat :=
  (s.grd.groups.filter (fun g => g.bound && g.job == job)).foldl (fun m g => max m (s.recovery g.gid)) 0

/-- The switch round of a rotation that began at t, moved `moves` times. -/
def switchOf (t moves : Nat) : Nat := t + 16 + 16 * moves

/-- The rotation of one cupola's keys starts: generation g + 1 goes into the next roles. -/
def rotateCupola (s : State) (j : JobKey) (step : Nat) : State :=
  match s.template j.cupola with
  | none => s
  | some t =>
    if t.rotation = 0 || step = 0 || step % t.rotation ≠ 0 || step ≤ j.last || j.rotation.isSome then s
    else
      let start := s.round - 1
      let nodes := s.memberAgents j.cupola
      let s1 := nodes.foldl (fun (u : State) n => u.writeJobKeys j n (j.generation + 1) true (switchOf start 0)) s
      (s1.setJobKey { j with rotation := some start, moves := 0, unconfirmed := nodes, last := step }).count .KEY_COUNT 4

/-- KEY_ROTATION_LOAD (R339); none starts once a removal has marked the keys retiring (R350, step 2). -/
def rotationLoad (s : State) (job : Nat) : State :=
  if s.linkMode ≠ 1 || 2 ≤ s.g F.KEY_STATUS_REMOVE_STEP then s
  else (s.key.jobs.filter (fun j => j.job == job)).foldl (fun (u : State) j => u.rotateCupola j (s.sealedStep job)) s

/-- The check of one cupola's rotation two rounds before its switch round. -/
def checkCupola (s : State) (j : JobKey) : State :=
  match j.rotation with
  | none => s
  | some t =>
    let sw := switchOf t j.moves
    if s.round + 2 < sw then s
    else if !j.unconfirmed.isEmpty && j.moves < 3 then
      let s1 := (s.memberAgents j.cupola).foldl (fun (u : State) n =>
        u.writeJobKeys j n (j.generation + 1) true (sw + 16)) s
      let s2 := s1.setJobKey { j with moves := j.moves + 1 }
      if s.decides j.job then s2 else s2.send .rotation s.coordinator j.job j.unconfirmed
    else
      let s1 := { s with rep := { s.rep with declared := unionL s.rep.declared j.unconfirmed } }
      let s2 := ((s.memberAgents j.cupola).filter (fun n => !j.unconfirmed.contains n)).foldl (fun (u : State) n =>
        let base := 4 * u.keyGroup n j.cupola
        let u1 := u.sendKeySlot n 2 (base + 1) j.cupola (j.generation + 1) (sw + 8) []
        if j.span = 2 ^ u.spire then u1 else u1.sendKeySlot n 2 (base + 3) j.cupola (j.generation + 1) (sw + 8) []) s1
      s2.setJobKey { j with generation := j.generation + 1, rotation := none, moves := 0, unconfirmed := [] }

/-- KEY_ROTATION_CHECK (R339). -/
def rotationCheck (s : State) (job : Nat) : State :=
  (s.key.jobs.filter (fun j => j.job == job)).foldl (fun (u : State) j => u.checkCupola j) s

-- Attestation (R343, R344)

/-- The flags byte of a report (Table 13.5). -/
def attestFlags (s : State) : Nat :=
  s.g F.KEY_STATUS_CONFIDENTIAL + 2 * s.g F.KEY_STATUS_TENANT_BOUND + 4 * (if s.isActive then 1 else 0)
    + 8 * (match s.plan.cur with | some p => p.flags % 2 | none => 0)
    + 16 * s.g F.KEY_STATUS_DEBUG_LOCKED + 32 * s.g F.KEY_STATUS_DEBUG_TAINT + 64 * s.g F.ETH_STATUS_ADMITTED

/-- The measurement of the firmware image in a slot. -/
def imageMeasure (s : State) (slot : Nat) : Bytes :=
  match s.pwr.images[slot]? with
  | some i => (match i.measure with | some m => fit 32 m | none => fit 32 (Config.firmwareMeasure slot))
  | none => zeros 32

/-- SHAKE256 of the installed licences in sequence order. -/
def licenceMeasure (s : State) : Bytes :=
  shake256 32 (((s.pwr.licences.mergeSort (fun a b => decide (a.sequence ≤ b.sequence))).map (fun l =>
    match l.image with | some b => b | none => Config.licenceBytes)).flatten)

/-- The enrolment table as the keystone measures it. -/
def enrolTable (s : State) : Bytes :=
  (List.range 8).flatMap (fun i => leBytes 8 (s.rd .KEY_SLOT_INFO 0 i).toNat ++ leBytes 8 (s.rd .KEY_SLOT_SEQ 0 i).toNat
    ++ s.slotDigest i)

/-- Bytes 0x000 to 0x1FF of a report (Table 13.5). -/
def attestBody (s : State) (nonce : Bytes) : Bytes :=
  let st := s.attestState
  let slot := s.g F.IDENT_FW_SLOT
  let head := ["D", "S", "V", "A", "T", "T", "R"].flatMap (fun c => c.toList.map (fun c => BitVec.ofNat 8 c.toNat))
  fit 512 (fit 8 head ++ leBytes 2 1 ++ leBytes 1 st ++ leBytes 1 s.attestFlags ++ leBytes 1 (s.g F.IDENT_PART_STEPPING)
    ++ zeros 3 ++ leBytes 16 s.ownId ++ leBytes 4 (s.g F.IDENT_SITE_INSTALLATION) ++ leBytes 1 s.spire
    ++ leBytes 1 (s.g F.TWIN_STATUS_LETTER) ++ zeros 2 ++ leBytes 4 (s.g F.BELF_CYCLE_POWER_CYCLES) ++ zeros 4
    ++ leBytes 8 (s.opTime % 2 ^ 48) ++ leBytes 8 (if s.g F.LANT_STATUS_STATE = 0 then 0 else s.lant.now)
    ++ fit 32 nonce ++ s.imageMeasure slot ++ (if st = 1 then s.imageMeasure (1 - slot) else zeros 32)
    ++ ((List.range 4).flatMap (fun i => leBytes 8 (s.rd .PLAN_DIGEST 0 i).toNat)) ++ s.licenceMeasure
    ++ fit 32 (Config.keystoneMeasure s.enrolTable s.attestFlags) ++ fit 32 s.key.admittedHost
    ++ leBytes 4 (s.g F.PLAN_EPOCH_CURRENT) ++ leBytes 4 (s.g F.IDENT_LIC_SEQUENCE) ++ leBytes 4 (s.g F.KEY_TENANT_TAG)
    ++ leBytes 4 (s.g F.KEY_TENANT_EPOCH) ++ fit 64 Config.deviceKey)

/-- Rounds that one signature takes: at most 30 ms. -/
def signRounds (s : State) : Nat := ceilDiv 30000000 (max 1 s.roundNs)

/-- The signatures still in the keystone's queue. -/
def signingNow (s : State) : List Nat := s.key.signing.filter (fun r => decide (s.round < r))

end State

/-- Length of a report. -/
def reportLen : Nat := 80288

/-- The body of the device certificate (R343): element ID, stepping, reserved bytes, device public key, as the report has
them. -/
def certificateBody (body : Bytes) : Bytes :=
  (body.drop 0x10).take 16 ++ (body.drop 0x0C).take 1 ++ zeros 47 ++ (body.drop 0x130).take 64

/-- A whole report from its signed body (Table 13.5): the signature, then the device certificate with the vendor's. -/
def reportOf (body : Bytes) : Bytes :=
  let cert := certificateBody body
  body ++ fit 49856 (Config.deviceSignature body) ++ cert ++ fit 29792 (Config.vendorSignature cert)

namespace State

/-- A slice of a report answers a request: up to 8,192 bytes from the offset, B the length. Argument A gives what
follows: 1 while bytes remain (MORE). -/
def answerReport (s : State) (body : Bytes) (off : Nat) : State :=
  { s with answer := { s.answer with
      status := Status.ok, detail := 0, a := (if off + 8192 < reportLen then 1 else 0), b := reportLen, words := [],
      bytes := ((reportOf body).drop off).take 8192 } }

/-- The keystone signs a new report for a session over a nonce, when its queue and its entropy allow it. -/
def signReport (s : State) (sess : Nat) (nonce : Bytes) : State :=
  let now := s.signingNow
  if s.key.entropyFailed then s.err Status.state 0
  else if 4 ≤ now.length then s.err Status.busy (now.foldl min (now.headD 0) - s.round)
  else
    let done := now.foldl max s.round + s.signRounds
    let body := s.attestBody nonce
    let x : Attested := ⟨sess, body, s.round⟩
    let s1 := { s with key := { s.key with
      signing := now ++ [done]
      attested := s.key.attested.filter (fun (a : Attested) => a.sess != sess) ++ [x] } }
    (s1.count .KEY_COUNT 0).answerReport body 0

/-- The report that a session keeps, for 1,024 rounds (R344). -/
def keptReport (s : State) (sess : Nat) : Option Bytes :=
  (s.key.attested.find? (fun a => a.sess == sess && decide (s.round ≤ a.round + 1024))).map (·.body)

/-- ATTEST (R344). -/
def attest (s : State) (sess off : Nat) (nonce : Bytes) : State :=
  if off = 0 then
    if nonce.length = 32 then s.signReport sess nonce else s.err Status.malformed 0
  else
    match s.keptReport sess with
    | none => s.err Status.state 0
    | some body => if reportLen ≤ off then s.err Status.value 0 else s.answerReport body off

-- Admission (R345 to R347)

/-- The handshake that a session runs. -/
def handshakeOf (s : State) (sess : Nat) : Option Handshake := s.eth.handshakes.find? (fun (x : Handshake) => x.sess == sess)

/-- The handshake of a session replaced; `none` ends it. -/
def setHandshake (s : State) (sess : Nat) (x : Option Handshake) : State :=
  let rest := s.eth.handshakes.filter (fun (y : Handshake) => y.sess != sess)
  { s with eth := { s.eth with handshakes := rest ++ x.toList } }

/-- HELLO: the Varlor nonce and the ciphertext; a new HELLO discards an earlier handshake of the session. -/
def admissionHello (s : State) (sess : Nat) (payload : Bytes) : State :=
  if payload.length ≠ 1664 then s.err Status.malformed 0
  else if 2 ≤ s.g F.KEY_STATUS_REMOVE_STEP then s.err Status.policy 0
  else if s.key.entropyFailed then s.err Status.state 0
  else
    let (n, s1) := s.draw
    let (k, s2) := s1.draw
    let answer := leBytes 32 (Config.freeValue n) ++ fit 1568 (Config.kemCiphertext ((payload.drop 64).take 1568) k)
    let h := shake256 32 (payload ++ answer)
    let x : Handshake := ⟨sess, s.round, payload.take 64, fit 32 (Config.kemSecret ((payload.drop 64).take 1568) k), h, []⟩
    let s3 := s2.setHandshake sess (some x)
    { s3 with
      answer := { s3.answer with status := Status.ok, detail := 0, a := 0, b := answer.length, words := [], bytes := answer } }

/-- FETCH: the report signed with nonce H, as for ATTEST. -/
def admissionFetch (s : State) (sess off : Nat) : State :=
  match s.handshakeOf sess with
  | none => s.err Status.state 0
  | some x => s.attest sess off x.serverHello

/-- The ADMISSION slot that a host key's digest fills. -/
def admissionSlot (s : State) (key : Bytes) : Option Nat :=
  (List.range 8).find? (fun i => s.gi F.KEY_SLOT_INFO_KIND i == 3 && s.slotDigest i == shake256 32 key)

/-- The conditions of R345 on the last FINISH fragment: the slot that admits the host. -/
def admitsHost (s : State) (x : Handshake) (report : Bytes) (signature : Bytes) : Option Nat :=
  match s.admissionSlot x.hostKey with
  | none => none
  | some i =>
    if Config.signatureOk x.hostKey (x.serverHello ++ shake256 32 (reportOf report)) signature
        && (!s.b F.KEY_STATUS_TENANT_BOUND || s.gi F.KEY_SLOT_INFO_TENANT i == s.g F.KEY_TENANT_TAG)
        && s.g F.KEY_STATUS_REMOVE_STEP == 0 then some i
    else none

/-- TENANT_BIND (R347): the first completed admission in confidential mode binds the spire to the admitting tag. -/
def bindTenant (s : State) (slot : Nat) : State :=
  if s.confidential && !s.b F.KEY_STATUS_TENANT_BOUND then
    (s.p F.KEY_STATUS_TENANT_BOUND 1).p F.KEY_TENANT_TAG (s.gi F.KEY_SLOT_INFO_TENANT slot)
  else s

/-- FINISH: fragments of the host's signature; the last one ends the handshake. -/
def admissionFinish (s : State) (sess off : Nat) (more : Bool) (fragment : Bytes) : State :=
  match s.handshakeOf sess with
  | none => s.err Status.state 0
  | some x =>
    if off ≠ x.fragments.length || 29792 < off + fragment.length then s.err Status.malformed 0
    else
      let sig := x.fragments ++ fragment
      if more then (s.setHandshake sess (some { x with fragments := sig })).ok
      else
        let s1 := s.setHandshake sess none
        let good := match s.keptReport sess with
          | some body => if sig.length = 29792 then s.admitsHost x body sig else none
          | none => none
        match good with
        | none => ((s1.count .KEY_COUNT 2).raise F.KEY_EVENT_ADMISSION_FAILED 0 1).err Status.policy 0
        | some i =>
          let cak := shake256 48 (x.share ++ x.serverHello)
          let s2 := { s1 with key := { s1.key with admittedHost := shake256 32 x.hostKey, cak := some (cak.take 32) } }
          let s3 := ((s2.bindTenant i).p F.ETH_STATUS_ADMITTED 1).count .KEY_COUNT 1
          (s3.raise F.KEY_EVENT_ADMITTED i 1).ok

/-- ADMISSION_TIMEOUT (R345): 4,096 rounds after the HELLO the shared secret is discarded. -/
def admissionTimeout (s : State) (sess : Nat) : State :=
  match s.handshakeOf sess with
  | none => s
  | some x =>
    if s.round < x.started + 4096 then s
    else (s.setHandshake sess none).raise F.KEY_EVENT_ADMISSION_FAILED 0 1

/-- MKA_SECURED (R266): MKA runs on the association key of the admission. -/
def mkaSecured (s : State) : State := if s.key.cak.isSome then (s.p F.ETH_STATUS_SECURED 1).pumpQps else s

/-- DEBUG_ACCESS (R348). -/
def debugAccess (s : State) : State := (s.p F.KEY_STATUS_DEBUG_TAINT 1).raise F.KEY_EVENT_DEBUG_TAINT 0 1

-- Removal of a tenant (R350 to R355)

/-- The step of the removal in progress. -/
def removeStep (s : State) : Nat := s.g F.KEY_STATUS_REMOVE_STEP

/-- Round q of the removal. -/
def removeStart (s : State) : Nat := s.g F.KEY_REMOVE_START

/-- REMOVE_TENANT (R350). -/
def removeTenant (s : State) : State :=
  if !s.confidential || !s.b F.KEY_STATUS_TENANT_BOUND || s.removeStep ≠ 0 then s.err Status.state 0
  else
    let s1 := s.startRemoval
    let l := (s.listed .CUP_ENTRY).filterMap (fun e =>
      let st := getBits e.2 0 3
      if (st == CState.active || st == CState.repairing || st == CState.held) && (s.retireOf e.1).isNone then some e.1 else none)
    (l.foldl (fun (t : State) c => t.acceptRetire c) s1).ok

/-- REMOVE_FORCE (R354): the ring wait ends at once. -/
def removeForce (s : State) : State :=
  if s.removeStep = 0 then s.err Status.state 0 else ({ s with key := { s.key with forceEnd := true } }).ok

/-- REMOVAL_ADMISSION_STOP (R350, steps 1 and 2), at the boundary of q + 1. -/
def removalAdmissionStop (s : State) : State :=
  if s.removeStep = 1 && decide (s.removeStart + 1 ≤ s.round) then s.p F.KEY_STATUS_REMOVE_STEP 2 else s

/-- REMOVAL_DRAIN_END (R350, steps 3 and 4; R351), at the end of q + 1 + b. -/
def removalDrainEnd (s : State) : State :=
  if s.removeStep ≠ 2 || decide (s.round < s.removeStart + 1 + s.key.bound) then s
  else
    let s1 := s.p F.KEY_STATUS_REMOVE_STEP 3
    let s2 := s1.stopWhere (fun t => t.unstarted) Fate.policy 2
    let live := s2.tasksWhere (fun t => t.live)
    let s3 := ((List.range 64).filter (fun q => s2.qpState q != 0)).foldl (fun (t : State) q =>
      (t.setQw q 0 0 3 4).clearQp q) (s2.p F.KEY_STATUS_REMOVE_STEP 4)
    live.foldl (fun (t : State) x => t.endWithSubs x.idx Fate.disabled (disabledDetail 5 x.cupola)) s3

/-- The keystone erases the tenant's derived keys, and the agents receive key-retire (R350, step 5). -/
def eraseKeys (s : State) : State :=
  let nodes := (s.cup.filters.map (fun e => (e.1, e.2.1))).eraseDups
  let s1 := nodes.foldl (fun (t : State) e => t.sendRetire e.2 e.1) s
  let s2 := s1.key.jobs.foldl (fun (t : State) j => t.retirePair j.job j.nonce) s1
  { s2 with key := { s2.key with jobs := [], retireWait := unionL s2.key.retireWait (nodes.map Prod.snd).eraseDups } }

/-- REMOVAL_KEY_ERASE (R350, steps 5 and 6; R352), in round q + 2 + b. -/
def removalKeyErase (s : State) : State :=
  if s.removeStep ≠ 4 || decide (s.round < s.removeStart + 2 + s.key.bound) then s
  else
    let s3 := (s.p F.KEY_STATUS_REMOVE_STEP 5).eraseKeys
    let s4 := { s3 with key := { s3.key with waitFrom := some s.round } }
    let s4 := { s4 with key := { s4.key with lateSeen := s4.boundNodes.map (fun n => (n, (s4.rd .AG_COUNT n 5).toNat)) } }
    let s5 :=
      if s.linkMode = 2 then
        let own := s.ownDirections.foldl (fun (t : State) d => t.addForced s.spire d.1 d.2 s.spire) s4
        s.peerDirections.foldl (fun (t : State) d => t.addForced d.1 d.2.1 d.2.2 s.spire) own
      else s4
    s5.p F.KEY_STATUS_REMOVE_STEP 6

/-- KEY_RETIRE_TIMEOUT (R355), at the end of q + 3 + b: an agent without confirmation is classified failed and held dark. -/
def keyRetireTimeout (s : State) (node : Nat) : State :=
  if s.removeStep < 5 || !s.key.retireWait.contains node || decide (s.round < s.removeStart + 3 + s.key.bound) then s
  else
    let s1 := { s with
      rep := { s.rep with declared := addOnce node s.rep.declared }
      key := { s.key with retireWait := s.key.retireWait.filter (fun n => n != node) } }
    match s.plan.cur with
    | some p => s1.darkNeighbours p node
    | none => s1

/-- R353: during a removal the increase of the agents' counts of discarded frames is counted as late ciphertext. -/
def readLate (s : State) : State :=
  if s.removeStep < 5 then s
  else
    let now := s.boundNodes.map (fun n => (n, (s.rd .AG_COUNT n 5).toNat))
    let more := now.foldl (fun (m : Nat) e => m + (e.2 - lookupD s.key.lateSeen e.1 e.2)) 0
    ({ s with key := { s.key with lateSeen := now } }).lateFrames more

/-- The tenant's forced rekeys are all confirmed (R352). -/
def rekeysDone (s : State) : Bool := s.key.forced.all (fun e => e.by_ != s.spire)

/-- What a scrub erases with LPDDR5X: parity and lent lanes, staged shards and packages, the journal, the captures. -/
def eraseMemory (s : State) : State :=
  let gs := s.grd.groups.map (fun g => { g with parity := [], current := [], shards := [], shardEnds := [], undoCopies := [] })
  let s1 := s.grd.groups.foldl (fun (t : State) g => t.pi F.GRD_GROUP_LANES g.gid 0) s
  { s1 with
    grd := { s1.grd with groups := gs, lentIn := [], staged := [], journal := [] }
    graph := { s1.graph with journal := [], packages := [], stage := [] }
    twin := { s1.twin with captures := [], captureOrder := [], windowBytes := [] } }

/-- The scrub of LPDDR5X starts under the next memory generation (R341, R354). -/
def startScrub (s : State) : State :=
  let s1 := s.p F.KEY_MEM_GENERATION (s.g F.KEY_MEM_GENERATION + 1)
  ((s1.p F.KEY_MEM_SCRUBBING 1).p F.KEY_MEM_SCRUB_GIB 0).eraseMemory

/-- RING_WAIT_END (R354): the ring is consumed, or the wait is over; in hop mode the rekeys of R352 have ended. -/
def ringWaitEnd (s : State) : State :=
  match s.key.waitFrom with
  | none => s
  | some q =>
    let ended := s.unconsumed == 0 || s.key.forceEnd || decide (q + s.g F.KEY_CFG_RING_WAIT ≤ s.round)
    if s.removeStep ≠ 6 || !ended || !s.rekeysDone then s
    else
      let n := s.unconsumed
      let s1 := (s.p F.KEY_REMOVE_DISCARDED (sat 16 n)).wr .GRAPH_RING_TAIL 0 0 (s.rd .GRAPH_RING_HEAD 0 0)
      let s2 := { s1 with
        graph := { s1.graph with ring := [] }
        key := { s1.key with cak := none, admittedHost := [], waitFrom := none } }
      (((s2.p F.ETH_STATUS_ADMITTED 0).p F.ETH_STATUS_SECURED 0).startScrub).p F.KEY_STATUS_REMOVE_STEP 7

/-- What the bonded SRAM loses when its lines are invalidated (R354): fold buffers, task descriptors and what the graph
engine keeps with them, statistics. The plan store and the belfry cell store stay. -/
def eraseSram (s : State) : State :=
  let gs := s.grd.groups.map (fun g => { g with regions := [], undoCopies := [] })
  { s with
    grd := { s.grd with groups := gs }
    graph := { s.graph with tasks := [], contributions := [], accumulators := [], graphs := [], broadcasts := [], ledger := [] }
    sen := { s.sen with now := [], last := [] } }

/-- SCRUB_COMPLETE (R354): the belfry write queue goes to flash, then the SRAM lines are invalidated. -/
def scrubComplete (s : State) : State :=
  if s.g F.KEY_MEM_SCRUBBING = 0 then s
  else
    let s1 := ((s.p F.KEY_MEM_SCRUBBING 0).p F.KEY_MEM_SCRUB_GIB (64 * s.g F.IDENT_INTERNAL_PACKAGES)).count .KEY_COUNT 7
    let s2 := (List.range s1.belf.queue.length).foldl (fun (t : State) _ => t.recordFlashWrite true) s1
    s2.eraseSram.p F.KEY_STATUS_REMOVE_STEP 8

/-- REMOVAL_DONE (R350, step 8). -/
def removalDone (s : State) : State :=
  if s.removeStep ≠ 8 then s
  else
    let s1 := ((s.readLate.p F.KEY_STATUS_REMOVE_STEP 0).p F.KEY_STATUS_TENANT_BOUND 0).p F.KEY_TENANT_TAG 0
    let s2 := { s1 with key := { s1.key with bound := 0, forceEnd := false, lateSeen := [] } }
    (s2.p F.KEY_TENANT_EPOCH (s.g F.KEY_TENANT_EPOCH + 1)).raise F.KEY_EVENT_REMOVAL_DONE 0 1

end State

-- The meanings

/-- ENROL (R331). -/
def execEnrol (s : State) : Host.Outcome State Fault Refusal := finish s.enrol
/-- REMOVE_TENANT (R350). -/
def execRemoveTenant (s : State) : Host.Outcome State Fault Refusal := finish s.removeTenant
/-- REMOVE_FORCE (R354). -/
def execRemoveForce (s : State) : Host.Outcome State Fault Refusal := finish s.removeForce
/-- KEY_REQ (R329). -/
def execKeyReq (operation index : Nat) (s : State) : Host.Outcome State Fault Refusal := finish (s.keyReq operation index)
/-- KEY_DONE (R329). -/
def execKeyDone (index : Nat) (s : State) : Host.Outcome State Fault Refusal := finish (s.keyDone index)
/-- KEY_FAIL (R342). -/
def execKeyFail (reason index : Nat) (s : State) : Host.Outcome State Fault Refusal :=
  finish (s.after (s.keyFail reason index))
/-- REKEY_DUE (R340). -/
def execRekeyDue (node port direction epoch : Nat) (s : State) : Host.Outcome State Fault Refusal :=
  finish (s.rekeyDue node port direction epoch)
/-- ENTROPY_FAIL (R330). -/
def execEntropyFail (s : State) : Host.Outcome State Fault Refusal := finish s.entropyFail
/-- KEY_ROTATION_LOAD (R339). -/
def execKeyRotationLoad (job : Nat) (s : State) : Host.Outcome State Fault Refusal := finish (s.rotationLoad job)
/-- KEY_ROTATION_CHECK (R339). -/
def execKeyRotationCheck (job : Nat) (s : State) : Host.Outcome State Fault Refusal := finish (s.rotationCheck job)
/-- REMOVAL_ADMISSION_STOP (R350). -/
def execRemovalAdmissionStop (s : State) : Host.Outcome State Fault Refusal := finish s.removalAdmissionStop
/-- REMOVAL_DRAIN_END (R351). -/
def execRemovalDrainEnd (s : State) : Host.Outcome State Fault Refusal := finish (s.after s.removalDrainEnd)
/-- REMOVAL_KEY_ERASE (R350). -/
def execRemovalKeyErase (s : State) : Host.Outcome State Fault Refusal := finish s.removalKeyErase
/-- FORCED_REKEY_CONFIRM (R352). -/
def execForcedRekeyConfirm (node port : Nat) (s : State) : Host.Outcome State Fault Refusal :=
  finish (s.forcedConfirm node port)
/-- PEER_FORCE_REKEY_REQUEST (R352). -/
def execPeerForceRekeyRequest (spire node port : Nat) (s : State) : Host.Outcome State Fault Refusal :=
  finish (s.peerForce spire node port)
/-- KEY_RETIRE_TIMEOUT (R355). -/
def execKeyRetireTimeout (node : Nat) (s : State) : Host.Outcome State Fault Refusal := finish (s.keyRetireTimeout node)
/-- RING_WAIT_END (R354). -/
def execRingWaitEnd (s : State) : Host.Outcome State Fault Refusal := finish s.ringWaitEnd
/-- SCRUB_COMPLETE (R354). -/
def execScrubComplete (s : State) : Host.Outcome State Fault Refusal := finish s.scrubComplete
/-- REMOVAL_DONE (R350). -/
def execRemovalDone (s : State) : Host.Outcome State Fault Refusal := finish s.removalDone
/-- DEBUG_ACCESS (R348). -/
def execDebugAccess (s : State) : Host.Outcome State Fault Refusal := finish s.debugAccess
/-- ADMISSION_TIMEOUT (R345). -/
def execAdmissionTimeout (sess : Nat) (s : State) : Host.Outcome State Fault Refusal := finish (s.admissionTimeout sess)
/-- MKA_SECURED (R266). -/
def execMkaSecured (s : State) : Host.Outcome State Fault Refusal := finish s.mkaSecured

end Sys2Proof.Machine
end

