-- ==== Sys2Proof/Machine/Binding.lean ====
section
/-! DEFINITION. Discovery as Varlor runs it (R70 to R88): settling, the walk, placing, classes and anomalies, the
minimum-viable check, substitution at binding, and what discovery does after binding. -/
namespace Sys2Proof.Machine

-- Discovery states (Table 3.5)
namespace DState
abbrev idle : Nat := 0
abbrev settling : Nat := 1
abbrev walking : Nat := 2
abbrev matching : Nat := 3
abbrev bound : Nat := 4
abbrev notViable : Nat := 5
end DState

/-- The position that a logical node's L2P entry puts elsewhere: the element record of the physical place it stands on, when
that is not its own (R84, R99). -/
def substOf (p : Plan) (t : Tables) (pos : Nat) : Option ElemRec :=
  match p.at pos with
  | none => none
  | some e =>
    let x := t.l2p.getD pos 0
    if e.kind = 1 && l2pValid x && !(l2pRow x == e.row && l2pCol x == e.col) then
      p.elements.find? (fun r => r.kind == 1 && r.row == l2pRow x && r.col == l2pCol x)
    else none

/-- The spare policy covers a variant's kind (R84). -/
def Plan.covers (p : Plan) (v : Variant) : Bool :=
  if v.kind = 1 then p.substitute else if v.kind = 2 then p.rowCutOn else true

/-- The variant of an element (R60). -/
def Plan.variantOf (p : Plan) (logical : Nat) : Option Variant := p.variants.find? (fun v => v.failed == logical)

/-- The tables with a variant applied. -/
def Tables.withVariant (t : Tables) (v : Variant) : Tables := t.apply v.l2p v.slots v.flows

/-- Greatest gap between successive management slots on any port, in µs (R127). -/
def Tables.mgmtGap (t : Tables) (slots : Nat) : Nat :=
  let maps := t.sched.flatMap (fun b => b.ports.filter (fun q => !q.isEmpty))
  maps.foldl (fun m q => max m (cycleGap slots ((List.range q.length).filter (fun i => isMgmt (q.getD i 0))))) 0

namespace State

/-- The discovery state. -/
def discState (s : State) : Nat := s.g F.DISC_STATUS_STATE

/-- The tables of a plan are installed. -/
def tablesRun (s : State) : Bool := s.bell.tables.isSome

/-- SETTLING is entered (Table 3.5). -/
def enterSettling (s : State) : State :=
  ({ s with disc := { s.disc with entered := s.round, quietSince := s.round, probes := [], unserved := [] } }).p
    F.DISC_STATUS_STATE DState.settling

/-- Own ports that are trained. -/
def ownTrained (s : State) : List Nat := (List.range 48).filter (fun n => s.gi F.PORT_STATUS_STATE n == 2)

/-- Optics trained with a current plan start discovery (Table 3.5). -/
def maybeSettle (s : State) : State :=
  if s.discState = DState.idle && s.plan.cur.isSome && !s.ownTrained.isEmpty && s.isActive then s.enterSettling else s

-- Probes (R73, R74)

/-- A probe leaves on the OP port that heads its route. -/
def sendProbe (s : State) (route : List Nat) (tries id : Nat) : State :=
  let x : ProbeOut := ⟨route, tries, s.round, id⟩
  ({ s with disc := { s.disc with probes := s.disc.probes.filter (fun (q : ProbeOut) => q.route != route) ++ [x] } }).send .probe
    (route.headD 0) 0 (route.drop 1)

/-- An observed element. -/
def observedOf (s : State) (id : Nat) : Option Observed := s.disc.observed.find? (fun o => o.id == id)

/-- An observed element replaced. -/
def setObserved (s : State) (o : Observed) : State :=
  { s with disc := { s.disc with observed := s.disc.observed.filter (fun (x : Observed) => x.id != o.id) ++ [o] } }

/-- The walk begins (R73): nothing has replied yet; level 1 is the far end of each of Varlor's own trained ports. -/
def startWalk (s : State) : State :=
  let silent := s.disc.observed.map (fun (o : Observed) => { o with replied := false })
  let s1 := ({ s with disc := { s.disc with observed := silent, probes := [], censusOnly := [], givenUp := [] } }).p
    F.DISC_STATUS_STATE DState.walking
  (s.disc.beacons.filter (fun e => e.2.kind != 3 && s.gi F.PORT_STATUS_STATE e.1 == 2)).foldl (fun (t : State) e =>
    if t.disc.probes.any (fun q => q.id == e.2.elementId) then t else t.sendProbe [e.1] 0 e.2.elementId) s1

/-- The elements that a change concerns are probed (R87). An element that an earlier walk gave up may be asked again: the
change may be its return. -/
def probeAround (s : State) (ids : List Nat) : State :=
  let s1 := if ids.isEmpty then s else s.p F.DISC_STATUS_INCREMENTAL 1
  let s2 := if ids.isEmpty then s1 else { s1 with disc := { s1.disc with givenUp := [] } }
  ids.foldl (fun (t : State) id =>
    let route := match t.tree.find? (fun e => e.1 == id) with
      | some e => some e.2
      | none => (t.observedOf id).map (·.route)
    match route with
    | some r => if t.disc.probes.any (fun q => q.id == id) then t else t.sendProbe r 0 id
    | none => t) s2

/-- Far element IDs of an observed element. -/
def farIds (s : State) (id : Nat) : List Nat :=
  match s.observedOf id with
  | some o => o.ports.filterMap (fun r => if r.farId != 0 && (r.farKind == 1 || r.farKind == 2) then some r.farId else none)
  | none => []

/-- An element and its neighbours: those within 2 hops of one of Varlor's own ports that leads to it. -/
def withNeighbours (s : State) (id : Nat) : List Nat := unionL [id] (s.farIds id)

/-- A change on one of Varlor's own ports in BOUND: the elements within 2 hops of the port are probed (R87). -/
def ownPortChange (s : State) (port id : Nat) : State :=
  if (s.observedOf id).isSome then s.probeAround (s.withNeighbours id)
  else (s.p F.DISC_STATUS_INCREMENTAL 1).sendProbe [port] 0 id

/-- The element at a local node, and those within 2 hops of it. -/
def within2 (s : State) (node : Nat) : List Nat :=
  match s.disc.placed.find? (fun e => e.1 == node) with
  | none => []
  | some e =>
    let one := s.farIds e.2
    unionL [e.2] (unionL one (one.flatMap s.farIds))

/-- The element ID at a local node; 510 and 511 are Varlor's own ports. -/
def idOf (s : State) (node : Nat) : Nat :=
  if 510 ≤ node then s.ownId else match s.disc.placed.find? (fun e => e.1 == node) with | some e => e.2 | none => 0

/-- A change at a port of a local node; 510 and 511 are Varlor's own ports. A change that waits for the walk is kept by its
element ID, or by its position while the element has no place yet (R88). -/
def topologyChange (s : State) (node port : Nat) : State :=
  let st := s.discState
  if st = DState.settling then { s with disc := { s.disc with quietSince := s.round } }
  else if st = DState.walking || st = DState.matching then
    { s with disc := { s.disc with changes := addOnce (s.idOf node, node, port) s.disc.changes } }
  else if st = DState.notViable then s.enterSettling
  else if st = DState.bound then
    if node < 510 then s.probeAround (s.within2 node)
    else
      match s.disc.beacons.find? (fun e => e.1 == port) with
      | some e =>
        if e.2.kind = 3 then s else s.ownPortChange port e.2.elementId
      | none => s
  else s

/-- A change that an unbound agent reports: it names no position, and the notice's far element ID tells where it is
(Tables 3.5 and 5.4). DEDUCED (log entry 145). -/
def unboundChange (s : State) (farId : Nat) : State :=
  let st := s.discState
  if st = DState.settling || st = DState.notViable then s.topologyChange 0 0
  else if (st = DState.walking || st = DState.matching) && farId ≠ 0 && farId ≠ s.ownId then
    { s with disc := { s.disc with changes := addOnce (farId, 0, 0) s.disc.changes } }
  else
    match s.disc.placed.find? (fun e => e.2 == farId) with
    | some e => s.topologyChange e.1 0
    | none => s

-- Classes (R76 to R83)

/-- An element was first seen through a port that a plan link joins to a peer spire: it belongs there. -/
def beyondEdge (s : State) (p : Plan) (route : List Nat) : Bool :=
  (List.range route.length).any (fun i =>
    match s.disc.observed.find? (fun o => o.route == route.take i && i != 0) with
    | some o => (match posOf s.disc.placed o.id with
        | some pos => p.interSpire (pos, route.getD i 0)
        | none => false)
    | none => false)

/-- The element ID that DISC_NODE_ID shows at a position: that of the binding in force. -/
def shownId (s : State) (pos : Nat) : Nat := s.gi F.DISC_NODE_ID_ID (2 * pos) + 2 ^ 64 * s.gi F.DISC_NODE_ID_ID (2 * pos + 1)

/-- R83: an element serves for transit alone: it has no usable tile, or it had none in this binding, whose classes a later census
does not change. -/
def transitOnly (s : State) (pos : Nat) (o : Observed) : Bool :=
  o.usable == 0 || (s.bindingStands && s.shownId pos == o.id && s.gi F.DISC_NODE_TRANSIT_ONLY pos == 1)

/-- The class word of a position (DISC_NODE) under tables `t`: `dark` counts its links held dark. In a cut row's shift a healthy
element's position keeps its own class (R141). -/
def nodeWord (s : State) (p : Plan) (t : Tables) (e : ElemRec) (dark : Nat) (pinned : Bool) : Nat :=
  let pos := localOf e.node
  let o := match s.disc.placed.find? (fun x => x.1 == pos) with
    | some x => s.observedOf x.2
    | none => none
  let subst := substOf p t pos
  let transit := e.kind == 1 && (match o with | some o => s.transitOnly pos o | none => false)
  let fenced := match o with | some o => decide (o.level < e.minLevel) | none => false
  let gone := o.isNone || transit || s.rep.failedNodes.contains pos
  let cls :=
    if subst.isSome && (s.rep.rowsCut.isEmpty || gone || fenced) then 2 else if fenced then 4
    else if e.adoptable then (if gone then 7 else 6) else if gone then 3 else 1
  let foreign := match o with | some o => o.epoch != 0 && o.epoch != s.g F.PLAN_EPOCH_CURRENT | none => false
  cls + 16 * (match o with | some o => o.kind % 16 | none => 0) + 256 * (match o with | some o => o.level % 16 | none => 0)
    + 4096 * min 15 dark + 65536 * (if transit then 1 else 0) + 131072 * (if foreign then 1 else 0)
    + 262144 * (if pinned then 1 else 0) + 2 ^ 32 * (match subst with | some r => r.node | none => 0)

end State

/-- What classing finds: anomalies and dark links (element ID, port), in the order found. -/
structure Classed where
  anomalies : List Anomaly
  dark : List (Nat × Nat)
  deriving DecidableEq, Repr

namespace State

/-- The place of an element in DISC_EXTRA. -/
def extraIndex (s : State) (id : Nat) : Nat := (List.range s.disc.extras.length).find? (fun i =>
  match s.disc.extras[i]? with | some x => x.id == id | none => false) |>.getD 0

/-- The observed element stands FENCED at its position (R82). -/
def fencedId (s : State) (p : Plan) (id : Nat) : Bool :=
  match posOf s.disc.placed id, s.observedOf id with
  | some pos, some o => (match p.at pos with | some e => decide (o.level < e.minLevel) | none => false)
  | _, _ => false

/-- One observed link is classed (Table 3.3). Of the two ends of an anomaly that is no crossed pair, the one with the lower element
ID is NODE_A, and an end in the plan comes before one that is not. DESIGN CHOICE (log entry 124). -/
def classLink (s : State) (p : Plan) (pl : Placed) (ls : List (End × End)) (acc : Classed) (k : ObsLink) : Classed :=
  let add (a : Anomaly) (c : Classed) : Classed := if c.anomalies.contains a then c else { c with anomalies := c.anomalies ++ [a] }
  let dark (c : Classed) : Classed := { c with dark := c.dark ++ [(k.idA, k.portA)] }
  match positioned pl k with
  | (some a, some b) =>
    let c := linkClass p ls a b
    if c = 3 then
      match crossedWith p ls a b with
      | some (r, q) =>
        let (m, n) := correctiveSwap s.disc pl a b r q
        dark (add ⟨s.logical m.1, s.logical n.1, 3, m.2, n.2, 0⟩ acc)
      | none => dark acc
    else if c = 4 || c = 5 then dark (add ⟨s.logical a.1, s.logical b.1, c, a.2, b.2, 0⟩ acc)
    else if s.fencedId p k.idA || s.fencedId p k.idB then dark acc
    else acc
  | (some a, none) =>
    if p.interSpire a then (if s.fencedId p k.idA then dark acc else acc)
    else dark (add ⟨s.logical a.1, 0xFFFFFFFF, 5, a.2, k.portB, s.extraIndex k.idB⟩ acc)
  | (none, some b) =>
    if p.interSpire b then (if s.fencedId p k.idB then dark acc else acc)
    else dark (add ⟨s.logical b.1, 0xFFFFFFFF, 5, b.2, k.portA, s.extraIndex k.idA⟩ acc)
  | (none, none) => dark (add ⟨0xFFFFFFFF, 0xFFFFFFFF, 5, k.portA, k.portB, s.extraIndex k.idA⟩ acc)

/-- Plan links whose two ends are both present and not joined to each other, but for those that stand as SWAPPED or as part of a
crossed pair (MISSING_LINK). NODE_A is end A of the plan's record. DESIGN CHOICE (log entry 124). -/
def missingLinks (s : State) (p : Plan) (pl : Placed) (ls : List (End × End)) : List Anomaly :=
  p.links.filterMap (fun l =>
    match l.ends with
    | some (a, b) =>
      let here (e : End) : Bool := pl.any (fun x => x.1 == e.1) && !s.rep.failedNodes.contains e.1
      let stands (e : End) : Bool := ls.any (fun k => (k.1 == e || k.2 == e) && (linkClass p ls k.1 k.2 == 2 || linkClass p ls k.1 k.2 == 3))
      if here a && here b && !joined ls a b && !stands a && !stands b then some ⟨s.logical a.1, s.logical b.1, 6, a.2, b.2, 0⟩ else none
    | none => none)

/-- R80: an element ID that two places claim is EXTRA twice: the second entry stands where the contradicted claim comes from. -/
def secondClaims (s : State) (p : Plan) : List ExtraElem :=
  s.disc.duplicates.filterMap (fun id =>
    match (s.disc.denied p (s.anchors ++ s.disc.placed) s.obsLinks id).head?, s.observedOf id with
    | some (e, q), some o => some ⟨(match posOf (s.anchors ++ s.disc.placed) e.1 with | some n => s.logical n | none => 0xFFFFFFFF), e.2, q, o.kind, id⟩
    | _, _ => none)

/-- The observed elements that no position holds, of this spire (EXTRA), with where each was first seen. -/
def findExtras (s : State) (p : Plan) : List ExtraElem :=
  let firsts := (s.disc.observed.filter (fun o => o.kind != 3 && (posOf s.disc.placed o.id).isNone && !s.beyondEdge p o.route)).map (fun o =>
    match s.disc.observed.find? (fun x => x.route == o.route.dropLast && !x.route.isEmpty) with
    | some up =>
      let port := o.route.getLastD 0
      ⟨(match posOf s.disc.placed up.id with | some n => s.logical n | none => 0xFFFFFFFF), port,
        (match up.ports[port]? with | some r => r.farPort | none => 0), o.kind, o.id⟩
    | none =>
      let port := o.route.headD 0
      ⟨s.identity, port, (match s.disc.beacons.find? (fun e => e.1 == port) with | some e => e.2.port | none => 0), o.kind, o.id⟩)
  firsts ++ s.secondClaims p

/-- DISC_EXTRA and DISC_ANOM are filled from index 0 (chapter 3, registers). -/
def showFindings (s : State) : State :=
  let s1 := (s.rstAll .DISC_EXTRA).rstAll .DISC_ANOM
  let xs := s.disc.extras.take 64
  let s2 := (List.range xs.length).foldl (fun (t : State) j =>
    match xs[j]? with
    | some x => ((t.pi F.DISC_EXTRA_WORD (3 * j) (x.node % 2 ^ 32 + 2 ^ 32 * x.port + 2 ^ 40 * x.farPort + 2 ^ 48 * x.kind)).pi
        F.DISC_EXTRA_WORD (3 * j + 1) x.id).pi F.DISC_EXTRA_WORD (3 * j + 2) (x.id / 2 ^ 64)
    | none => t) s1
  let as := s.disc.anomalies.take 256
  let s3 := (List.range as.length).foldl (fun (t : State) j =>
    match as[j]? with
    | some a => (t.pi F.DISC_ANOM_WORD (2 * j) (a.nodeA % 2 ^ 32 + 2 ^ 32 * a.nodeB)).pi F.DISC_ANOM_WORD (2 * j + 1)
        (a.cls + 256 * a.portA + 65536 * a.portB + 2 ^ 24 * a.extra)
    | none => t) s2
  if 64 < s.disc.extras.length || 256 < s.disc.anomalies.length then s3.raise F.DISC_EVENT_OVERFLOW 0 1 else s3

/-- The two ends (element ID, port) of an observed link that has this end A, or this end alone. -/
def bothEnds (s : State) (e : Nat × Nat) : List (Nat × Nat) :=
  match s.obsLinks.find? (fun k => (k.idA, k.portA) == e) with
  | some k => [(k.idA, k.portA), (k.idB, k.portB)]
  | none => [e]

/-- A link's agent ends are held dark or released by management access (R79). -/
def writeDark (s : State) (e : Nat × Nat) (on : Bool) : State :=
  (s.bothEnds e).foldl (fun (t : State) x =>
    match posOf t.disc.placed x.1 with
    | some n => t.portCfg n x.2 0 on
    | none => t) s

/-- Of several ends of one plan link, the first. -/
def linkOnce (p : Plan) (l : List End) : List End :=
  l.foldl (fun acc e => if acc.any (fun x => x == e || (p.planEnds e).any (fun y => y.1 == x)) then acc else acc ++ [e]) []

/-- The plan links at the ends of the links held dark, each by an agent's position and port (R79). -/
def darkPlanEnds (s : State) (p : Plan) : List (Nat × Nat) :=
  let ends := (s.disc.dark.flatMap s.bothEnds).filterMap (fun e => (posOf (s.anchors ++ s.disc.placed) e.1).map (fun n => (n, e.2)))
  linkOnce p (ends.flatMap (fun e =>
    if (p.planEnds e).isEmpty then [] else if e.1 < 510 then [e] else (p.planEnds e).map Prod.fst))

/-- The plan links that discovery finds lost: those held dark, and those with no link observed (R76, R79, R87). -/
def lostLinks (s : State) (p : Plan) : List (Nat × Nat) :=
  linkOnce p (s.darkPlanEnds p ++ s.disc.anomalies.filterMap (fun a => if a.cls = 6 then some (localOf a.nodeA, a.portA) else none))

/-- Position classes under tables `t` are written, with the census and identity of each placed element (R80, R83). -/
def writeNodes (s : State) (p : Plan) (t : Tables) : State :=
  let links := s.obsLinks
  let obs := (s.disc.observed.filter (fun o => o.kind != 3)).map (fun o => (o.id, o.kind))
  p.elements.foldl (fun (u : State) e =>
    let pos := localOf e.node
    let id := match s.disc.placed.find? (fun x => x.1 == pos) with | some x => x.2 | none => 0
    let mine := (s.disc.dark.filter (fun d => id != 0 && (d.1 == id || (linksOf links id).any (fun k =>
      k.2.1 == d.1 && k.2.2 == d.2)))).length
    let w := s.nodeWord p t e mine (pinnedMismatch p links obs (s.anchors ++ s.disc.placed) pos)
    let u1 := (u.wr .DISC_NODE 0 pos (BitVec.ofNat 64 w)).pi F.DISC_NODE_ID_ID (2 * pos) id
    let u2 := u1.pi F.DISC_NODE_ID_ID (2 * pos + 1) (id / 2 ^ 64)
    match s.observedOf id with
    | some o => (u2.pi F.DISC_CENSUS_USABLE pos o.usable).pi F.DISC_CENSUS_DESIGNED pos o.designed
    | none => u2) s

/-- Classing of the whole observed graph under tables `t` (R76 to R83): anomalies, extras, links held dark, positions. -/
def classify (s : State) (p : Plan) (t : Tables) : State :=
  let pl := s.anchors ++ s.disc.placed
  let links := s.obsLinks.filter (fun k =>
    let far (id : Nat) : Bool := match s.observedOf id with | some o => s.beyondEdge p o.route | none => false
    !(far k.idA && far k.idB))
  let ls := placedLinks pl links
  let s1 := { s with disc := { s.disc with extras := s.findExtras p } }
  let c := links.foldl (s1.classLink p pl ls) ⟨[], []⟩
  let an := c.anomalies ++ s1.missingLinks p pl ls
  let fresh := an.any (fun a => !s.disc.anomalies.contains a) || s1.disc.extras.any (fun x => !s.disc.extras.contains x)
  let s2 := { s1 with disc := { s1.disc with anomalies := an, dark := c.dark } }
  let s3 := (c.dark.filter (fun e => !s.disc.dark.contains e)).foldl (fun (u : State) e => u.writeDark e true) s2
  let s4 := (s.disc.dark.filter (fun e => !c.dark.contains e)).foldl (fun (u : State) e => u.writeDark e false) s3
  let s5 := s4.showFindings.writeNodes p t
  let s6 := if fresh then s5.raise F.DISC_EVENT_NEW_ANOMALY 0 1 else s5
  if p.elements.any (fun e => s.gi F.DISC_NODE_CLASS (localOf e.node) != s6.gi F.DISC_NODE_CLASS (localOf e.node)) then
    s6.raise F.DISC_EVENT_BINDING_CHANGED 0 1
  else s6

/-- Spares that are free (R139): healthy placed accelerators that play no role, by local node, under the tables that the binding
stands for. One that waits for its tables has left the pool (R111). -/
def freeSpares (s : State) : List Nat :=
  match s.plan.cur with
  | none => []
  | some p =>
    let t := s.boundTables
    p.elements.filterMap (fun e =>
      let pos := localOf e.node
      let o := match s.disc.placed.find? (fun x => x.1 == pos) with | some x => s.observedOf x.2 | none => none
      let healthy := e.kind == 1 && (match o with | some o => o.usable != 0 && decide (e.minLevel ≤ o.level) | none => false)
        && !s.rep.failedNodes.contains pos && !s.bell.single.contains pos
      let players := (List.range t.l2p.length).filter (fun i =>
        let x := t.l2p.getD i 0
        l2pValid x && l2pRow x == e.row && l2pCol x == e.col)
      let idle := players.all (fun i => i == pos && (e.spare || e.adoptable))
      if healthy && idle then some pos else none)

/-- REP_SPARE follows the pool. -/
def showSpares (s : State) : State :=
  let l := s.freeSpares
  (List.range 16).foldl (fun (t : State) i =>
    t.wr .REP_SPARE 0 i (BitVec.ofNat 64 (maskOf ((l.filter (fun n => n / 64 == i)).map (fun n => n % 64))))) s

-- The minimum-viable check (R85)

/-- A position counts as served: BOUND or SUBSTITUTED. -/
def counted (s : State) (e : ElemRec) : Bool :=
  let c := s.gi F.DISC_NODE_CLASS (localOf e.node)
  c == 1 || c == 2

/-- Rows and columns whose every position is served. -/
def servedRows (s : State) (p : Plan) : List Nat :=
  let els := p.elements.filter (fun e => e.kind == 1 && !e.spare && !e.adoptable)
  ((els.map (·.row)).eraseDups).filter (fun r => (els.filter (fun e => e.row == r)).all s.counted)
def servedCols (s : State) (p : Plan) : List Nat :=
  let els := p.elements.filter (fun e => e.kind == 1 && !e.spare && !e.adoptable && decide (e.row ≤ 15))
  ((els.map (·.col)).eraseDups).filter (fun c => (els.filter (fun e => e.col == c)).all s.counted)

/-- Every cross-connect of a kind that stands for one of the counted lines, by its switch index (Table 2.10), is BOUND. -/
def wrapBound (s : State) (p : Plan) (kind : Nat) (lines : List Nat) : Bool :=
  (p.elements.filter (fun e => e.kind == kind && lines.contains e.col)).all (fun e =>
    s.gi F.DISC_NODE_CLASS (localOf e.node) == 1)

/-- DISC_VIABLE (R85). -/
def evaluate (s : State) (p : Plan) : State :=
  let active := (p.elements.filter (fun e => e.kind == 1 && !e.spare && !e.adoptable && s.counted e)).length
  let rows := s.servedRows p
  let cols := s.servedCols p
  let edge := (p.elements.filter (fun e => e.kind == 4 && s.gi F.DISC_NODE_CLASS (localOf e.node) == 1)).length
  let st := s.g F.TWIN_STATUS_STATE
  let fails := [decide (active < p.minActive), decide (rows.length < p.minRows), decide (cols.length < p.minCols),
    p.wraps % 2 == 1 && !s.wrapBound p 2 rows, p.wraps / 2 % 2 == 1 && !s.wrapBound p 3 cols, decide (edge < p.minEdges),
    p.twinRequired == 1 && !(st == 2 || st == 4)]
  let mask := maskOf ((List.range 7).filter (fun i => fails.getD i false))
  ((((s.p F.DISC_VIABLE_FAILED mask).p F.DISC_VIABLE_ACTIVE active).p F.DISC_VIABLE_ROWS rows.length).p
    F.DISC_VIABLE_COLS cols.length).p F.DISC_VIABLE_EDGE edge

-- Placing (R75, R80, R81)

/-- R80: element IDs that two places claim are known, each new one with its event and record. -/
def findDuplicates (s : State) (dups : List Nat) : State :=
  let s1 := { s with disc := { s.disc with duplicates := dups } }
  (dups.filter (fun d => !s.disc.duplicates.contains d)).foldl (fun (t : State) d =>
    (t.raise F.DISC_EVENT_DUPLICATE_ID 0 1).eventRecord F.DISC_EVENT_DUPLICATE_ID 6 0 (leBytes 16 d)) s1

/-- The passes of R75 and R81 over the observed elements that are not among `out`, from a placement. -/
def passes (s : State) (p : Plan) (pl : Placed) (out : List Nat) : Placed :=
  let obs := (s.disc.observed.filter (fun o => o.kind != 3 && !out.contains o.id)).map (fun o => (o.id, o.kind))
  let pl1 := placeAll p s.obsLinks obs false (obs.length + 1) pl
  if p.adoptExtra then placeAll p s.obsLinks obs true (obs.length + 1) pl1 else pl1

/-- WALK_COMPLETE (R75): elements are placed. While a binding stands its placements stand; an ID that two places claim is found
under the placement of all elements, and takes no part in the one that counts (R80). -/
def place (s : State) (p : Plan) : State :=
  let named := s.disc.beacons.map (fun e => e.2.elementId) ++ (s.disc.observed.filter (·.replied)).flatMap (fun o =>
    o.ports.filterMap (fun r => if 1 ≤ r.link && r.link ≤ 3 then some r.farId else none))
  let seen := (s.disc.observed.filter (fun o => o.replied || named.contains o.id)).map (fun o =>
    if o.replied then o else { o with ports := [] })
  let s0 := { s with disc := { s.disc with observed := seen } }
  let pl0 := s0.anchors ++ (if s.bindingStands then s.disc.placed else [])
  let dups := s0.disc.twofold p (s0.passes p pl0 []) s0.obsLinks s.ownId
  let pl1 := s0.passes p pl0 dups
  ({ s0 with disc := { s0.disc with placed := pl1.filter (fun e => e.1 < 510) } }).findDuplicates dups

/-- Positions that no element of their own serves, spares among them: MISSING or FENCED (R84). -/
def unservedPositions (s : State) (p : Plan) : List Nat :=
  (p.elements.filter (fun e =>
    let c := s.gi F.DISC_NODE_CLASS (localOf e.node)
    !e.adoptable && (c == 3 || c == 4))).map (fun e => localOf e.node)

/-- A cupola's table entry at binding: shape and job fields from its template and flows (R119). -/
def startCupola (s : State) (p : Plan) (t : Tables) (c st : Nat) : State :=
  let members := t.memberCount p c
  let (rows, cols, id) := match p.templateOf c with | some x => (x.rows, x.cols, x.id) | none => (0, 0, 0)
  let s1 := (s.wr .CUP_ENTRY 0 c (BitVec.ofNat 64 (st + 256 * (rows % 32) + 65536 * (cols % 32) + 2 ^ 24 * (members % 512))))
  (s1.wr .CUP_JOB 0 c (BitVec.ofNat 64 (id * 2 ^ 32))).decision 0 c st

/-- A link failure found by discovery waits for the repair engine (R79): a REP_LOG record of class 3. -/
def logFailure (s : State) (f : Failure) (cls action : Nat) : State × Nat :=
  let j := s.g F.REP_LOG_HEAD_NEXT
  let w0 := s.logical f.node % 2 ^ 32 + 2 ^ 32 * (if f.port = 255 then 0xFF else f.port) + 2 ^ 40 * f.cause + 2 ^ 48 * cls
    + 2 ^ 52 * action
  let s1 := (s.pi F.REP_LOG_WORD (2 * j) w0).pi F.REP_LOG_WORD (2 * j + 1) (f.d % 2 ^ 48)
  let s2 := s1.p F.REP_LOG_HEAD_NEXT ((j + 1) % 256)
  (if j = 255 then s2.p F.REP_LOG_HEAD_WRAPS (sat 32 (s2.g F.REP_LOG_HEAD_WRAPS + 1)) else s2, j)

/-- The far end of a position's port by the plan's links within the spire: (local node, port). -/
def planFar (s : State) (pos port : Nat) : Option (Nat × Nat) :=
  match s.plan.cur with
  | none => none
  | some p => ((p.neighbours (s.logical pos)).find? (fun e => e.1 == port && e.2.2.2 == 0)).map (fun e => (localOf e.2.1, e.2.2.1))

/-- An element or link is already under suspicion, deferred, or failed. -/
def knownFault (s : State) (node port : Nat) : Bool :=
  (s.rep.suspects ++ s.rep.deferred).any (fun f => f.node == node && f.port == port)
    || (if port = 255 then s.rep.failedNodes.contains node
        else s.rep.failedLinks.contains (node, port) ||
          (match s.planFar node port with | some e => s.rep.failedLinks.contains e | none => false))

/-- A cause that tells of the compute part (Table 5.5). -/
def computeCause (cause : Nat) : Bool := cause == Cause.computeFault || cause == Cause.computeReset || cause == Cause.beaconChange

/-- A new suspect, with its REP_LOG record. A suspect of which a notice tells that its compute part failed takes that as its
cause, by which it is classified (R130). -/
def addSuspect (s : State) (node port cause : Nat) : State :=
  if s.knownFault node port then
    if computeCause cause then
      let l := updWhere (fun (f : Failure) => f.node == node && f.port == port) (fun f => { f with cause := cause }) s.rep.suspects
      { s with rep := { s.rep with suspects := l } }
    else s
  else
    let f : Failure := ⟨node, port, cause, s.round, 0, 0⟩
    let (t, j) := s.logFailure f 0 0
    let f := { f with log := j }
    { t with rep := { t.rep with suspects := t.rep.suspects ++ [f] } }

/-- The end that the record of an end names, by position: an agent's port record, or the beacon on one of Varlor's own ports. -/
def farOf (s : State) (e : End) : Option End :=
  let pl := s.anchors ++ s.disc.placed
  if e.1 = 510 + s.g F.TWIN_STATUS_LETTER then
    match s.disc.beacons.find? (fun b => b.1 == e.2) with
    | some b => (posOf pl b.2.elementId).map (fun n => (n, b.2.port))
    | none => none
  else
    match s.disc.placed.find? (fun x => x.1 == e.1) with
    | none => none
    | some x =>
      match s.observedOf x.2 with
      | none => none
      | some o =>
        match o.ports[e.2]? with
        | some r => if o.replied && 1 ≤ r.link && r.link ≤ 3 then (posOf pl r.farId).map (fun n => (n, r.farPort)) else none
        | none => none

/-- A plan link is joined as the plan has it, by the records of both its ends; of the partner's port the agent's end alone tells. -/
def linkWhole (s : State) (p : Plan) (e : End) : Bool :=
  match s.farOf e with
  | some x => p.agrees e x && (x.1 == 511 - s.g F.TWIN_STATUS_LETTER || s.farOf x == some e)
  | none => false

/-- Plan links that discovery finds lost count as failed links (R79, R87): new ones go to the repair engine. A failed link that
stands as planned again, and is held neither by its class nor for flapping, is whole (R138, R146). -/
def darkFailures (s : State) (p : Plan) : State :=
  let now := s.lostLinks p
  let s1 := (now.filter (fun e => !s.knownFault e.1 e.2)).foldl (fun (t : State) e =>
    let f : Failure := ⟨e.1, e.2, 0, t.round, 3, 0⟩
    let (u, j) := t.logFailure f 3 0
    let f := { f with log := j }
    { u with rep := { u.rep with failedLinks := u.rep.failedLinks ++ [e], queued := u.rep.queued ++ [f] } }) s
  let flaps (e : End) : Bool := s.rep.flapHeld.contains e || (match s.planFar e.1 e.2 with | some x => s.rep.flapHeld.contains x | none => false)
  let back := s1.rep.failedLinks.filter (fun e => !now.contains e && s.linkWhole p e && !flaps e)
  if back.isEmpty then s1
  else ({ s1 with rep := { s1.rep with failedLinks := s1.rep.failedLinks.filter (fun e => !back.contains e) } }).startRetry

/-- E of a repair install under the current binding (R135): REP_EST. -/
def showRepairEst (s : State) : State :=
  let targets := s.boundNodes
  let c := segsOf (l2pBytes s.tables)
  let (_, _, _, _, _, e) := s.figures (targets.map (fun n => (n, 1))) c (s.passesOf 1)
  (s.p F.REP_EST_E e).p F.REP_EST_BOUND (e + 4)

-- Repaired tables: what a variant or the matching array's result must hold

/-- The spare that a SUBSTITUTE variant names is free (R134, R139). -/
def spareFree (s : State) (p : Plan) (v : Variant) : Bool :=
  v.kind != 1 || v.l2p.all (fun x =>
    if l2pNode x = v.failed then
      match p.elements.find? (fun e => e.kind == 1 && e.row == l2pRow x && e.col == l2pCol x) with
      | some e => s.freeSpares.contains (localOf e.node)
      | none => false
    else true)

/-- An L2P entry that a result puts: the place is the node's already, or that of a free spare, where one may be used; a switch
keeps its place. -/
def placeOk (s : State) (p : Plan) (base : Tables) (spares : Bool) (x : Nat) : Bool :=
  let n := localOf (l2pNode x)
  let old := base.l2p.getD n 0
  if !l2pValid x then true
  else if 16 < l2pRow x then l2pRow old == l2pRow x && l2pCol old == l2pCol x
  else
    match p.elements.find? (fun e => e.kind == 1 && e.row == l2pRow x && e.col == l2pCol x) with
    | some e => playerOf p base n == localOf e.node || (spares && s.freeSpares.contains (localOf e.node))
    | none => false

/-- R141: with row `r` cut, the logical nodes of each row from `r` on stand one row of accelerators further down. -/
def rowShifted (p : Plan) (t : Tables) (r : Nat) : Bool :=
  let rows := ((p.elements.filter (fun e => e.kind == 1)).map (·.row)).eraseDups
  let next (x : Nat) : Nat := (rows.filter (fun y => decide (x < y))).foldl min 255
  (p.elements.filter (fun e => e.kind == 1 && !e.spare && !e.adoptable && decide (e.row ≤ 15))).all (fun e =>
    let x := t.l2p.getD (localOf e.node) 0
    l2pValid x && l2pCol x == e.col && l2pRow x == (if e.row < r then e.row else next e.row))

/-- The physical row and column of the element that plays a logical node under tables `t`; `none` for a switch. -/
def standsAt (p : Plan) (t : Tables) (logical : Nat) : Option (Nat × Nat) :=
  match p.at (playerOf p t logical) with
  | some e => if e.kind = 1 then some (e.row, e.col) else none
  | none => none

/-- The variant-1 entries of a flow lead from node `n` to node `w`, and between the two through accelerators of column `c` alone
(R99, R142). -/
def detourLeads (p : Plan) (t : Tables) (flow c w : Nat) : Nat → Nat → Bool
  | 0, _ => false
  | k + 1, n =>
    match (t.flowsOf n).find? (fun e => feFlow e == flow && feVariant e == 1 && feEgress e != 31) with
    | none => false
    | some e =>
      let m := feNextHop e
      m == w || ((match standsAt p t m with | some x => x.2 == c | none => true) && detourLeads p t flow c w k m)

/-- R142: in a cut row `r`, the traffic of each column whose accelerator's link domain is dead (`dead`, by position) runs through
the next column, c − 1, or 1 for column 0: every flow that crosses from the logical row above to logical row `r`, or back, has
its detour. -/
def columnDetours (p : Plan) (base t : Tables) (r : Nat) (dead : List Nat) : Bool :=
  let lost := p.elements.filter (fun e => e.kind == 1 && e.row == r && dead.contains (localOf e.node))
  let rows := ((p.elements.filter (fun e => e.kind == 1 && decide (e.row ≤ 15))).map (·.row)).eraseDups
  let above := if r = 0 then rows.foldl max 0 else r - 1
  lost.all (fun e =>
    let by' := if e.col = 0 then 1 else e.col - 1
    match p.elements.find? (fun x => x.kind == 1 && x.row == above && x.col == e.col) with
    | none => true
    | some u =>
      let toward (a b : Nat) (x : Nat) : Bool := feVariant x == 0 && feEgress x != 31 && (feNextHop x == b ||
        ((standsAt p base (feNextHop x)).isNone && (base.flowsOf (feNextHop x)).any (fun y =>
          feFlow y == feFlow x && feVariant y == 0 && feEgress y != 31 && feNextHop y == b)) && a != b)
      let crossing (a b : Nat) : List Nat := ((base.flowsOf a).filter (toward a b)).map feFlow
      (crossing u.node e.node).all (fun f => detourLeads p t f by' e.node 8 u.node)
        && (crossing e.node u.node).all (fun f => detourLeads p t f by' u.node 8 e.node))

/-- A repair's deltas use an element or a link that is lost, as the repaired tables `t` place the nodes that they name (R134,
R138): the last hop into a standing-in spare names the node that it stands in for (R99). -/
def deltasUse (s : State) (p : Plan) (t : Tables) (node : Nat → Bool) (link : End → Bool) (slots : List SlotDelta)
    (flows : List FlowDelta) : Bool :=
  let badNode (logical : Nat) : Bool := logical / 512 == s.spire && node (playerOf p t logical)
  let badLink (logical port : Nat) : Bool :=
    let n := playerOf p t logical
    link (n, port) || (match s.planFar n port with | some e => link e | none => false)
  slots.any (fun d => slotFlow d.entry != 0 && (badNode d.node || badLink d.node d.port))
    || flows.any (fun d => !d.remove && (badNode d.node
        || (feEgress d.entry != 31 && (badLink d.node (feEgress d.entry) || badNode (feNextHop d.entry)))))

/-- R137, R140 to R142, R57: the matching array's result for the cupolas `own` on tables `base` is one that it may give: slots and
flows of those cupolas and the detour reserve alone, a map that stays one-to-one, spares that are free, and a row cut only of a
row in `due`, whose cupolas' column traffic it moves. -/
def assignmentOk (s : State) (p : Plan) (base : Tables) (own due : List Nat) (spares : Bool) (a : Assignment) : Bool :=
  let t := base.apply a.l2p a.slots a.flows
  let rowUses (r c : Nat) : Bool := p.elements.any (fun e => e.kind == 1 && e.row == r && usesElement base p c e.node)
  let mine (c : Nat) : Bool := own.contains c || (match a.rowCut with | some r => rowUses r c | none => false)
  slotDeltasFree base mine a.slots
    && a.flows.all (fun d => mine (base.cupolaOfFlow (feFlow d.entry)))
    && !Img.l2pTwofold s.spire t.l2p
    && (match a.rowCut with
      | some r => p.rowCutOn && due.contains r && rowShifted p t r
          && columnDetours p base t r (s.rep.failedNodes.filter (fun n => !s.rep.computeFailed.contains n))
      | none => a.l2p.all (s.placeOk p base spares))

/-- R140: row `r` can be cut: every row-16 accelerator is free or stands in for a position of the row, and row cross-connect
0, by its switch index, is BOUND where the row wrap is required. -/
def rowCutPossible (s : State) (p : Plan) (r : Nat) : Bool :=
  let spares := p.elements.filter (fun e => e.kind == 1 && e.row == 16)
  let ok (e : ElemRec) : Bool := s.freeSpares.contains (localOf e.node) ||
    (match p.at (roleOf p s.boundTables (localOf e.node)) with | some x => x.row == r | none => false)
  let wrap := p.wraps % 2 == 0 || p.elements.any (fun e => e.kind == 2 && e.col == 0 && s.gi F.DISC_NODE_CLASS (localOf e.node) == 1)
  spares.all ok && wrap

/-- R143: Varlor's ports that the plan joins to a column cross-connect go dark with its loss, and train again after its return. -/
def wrapPorts (s : State) (p : Plan) (node : Nat) (on : Bool) : State :=
  let mine := p.links.filter (fun l => localOf l.a == node && l.bkind == 1 + s.g F.TWIN_STATUS_LETTER)
  match p.at node with
  | some e =>
    if e.kind ≠ 3 then s
    else mine.foldl (fun (t : State) l =>
      let st := t.gi F.PORT_STATUS_STATE l.b
      if on then (if st = 0 && t.gi F.PORT_STATUS_ROLE l.b = 1 then t.pi F.PORT_STATUS_STATE l.b 1 else t)
      else if st = 6 then t
      else ((t.pi F.PORT_STATUS_STATE l.b 0).pi F.PORT_STATUS_LANES l.b 0).bindPort l.b (t.gi F.PORT_STATUS_ROLE l.b) false) s
  | none => s

/-- R143: a cupola that used a lost cross-connect runs with its ring open. -/
def openWrap (s : State) (p : Plan) (old : Tables) (lost : List Nat) (c : Nat) : State :=
  let hit (kind : Nat) : Bool := lost.any (fun n =>
    (match p.at n with | some e => e.kind == kind | none => false) && usesElement old p c (s.tableNodeIn p old n))
  let s1 := if hit 2 then s.pi F.CUP_ENTRY_ROW_WRAP_OPEN c 1 else s
  let s2 := if hit 3 then s1.pi F.CUP_ENTRY_COL_WRAP_OPEN c 1 else s1
  if hit 2 || hit 3 then s2.raise F.CUP_EVENT_WRAP_OPEN c 1 else s2

-- What a renewed binding leads to (R87, R88, R138, R139)

/-- Positions whose element is another than DISC_NODE_ID shows. -/
def newPlaced (s : State) : List Nat := (s.disc.placed.filter (fun e => s.shownId e.1 != e.2)).map Prod.fst

/-- The element at a position has failed no longer: its failure and those of its links are over, and the pool may have grown. -/
def clearFailed (s : State) (node : Nat) : State :=
  let s1 := { s with rep := { s.rep with
    failedNodes := s.rep.failedNodes.filter (fun n => n != node)
    computeFailed := s.rep.computeFailed.filter (fun n => n != node)
    failedLinks := s.rep.failedLinks.filter (fun e => e.1 != node) } }
  let s2 := match s1.plan.cur with | some p => s1.wrapPorts p node true | none => s1
  s2.showSpares.startRetry

/-- An agent is to be bound anew: it is posted a RESET_NOTICE when it is bound (R284). -/
def bindAnew (s : State) (node : Nat) : State := { s with mbx := { s.mbx with told := s.mbx.told.filter (fun n => n != node) } }

/-- A new element is placed: a failure of the one before it is over, as is the mark of a member whose position it takes (R247), and it
receives its tables (R81, R87). -/
def newcomer (s : State) (node : Nat) : State :=
  let s1 := if s.rep.failedNodes.contains node then s.clearFailed node else s
  let s2 := match s1.plan.cur with
    | some p => s1.unmark (roleOf p s1.tables node)
    | none => s1
  (s2.bindAnew node).wantSingle node

/-- An element answers again (R87, R138, R139): one that works has not failed any longer and joins the spare pool; of one whose
compute part is in reset or has no usable tile the link domain is back. RESET_FULL's element is DONE; one that had failed and comes
back unbound has reset without a grant (R149; DEDUCED, log entry 132); one that holds other tables, or none, is to receive its own. -/
def elementReturns (s : State) (node epoch bound : Nat) (works : Bool) : State :=
  match s.plan.cur with
  | none => s
  | some p =>
    let failed := s.rep.failedNodes.contains node
    let s1 :=
      if failed && works then
        let t := s.clearFailed node
        if bound = 0xFFFFFFFF && s.rep.grantedReset ≠ some node then t.raise F.REP_EVENT_UNWARNED_RESET node 1 else t
      else if failed then { s with rep := { s.rep with
        computeFailed := addOnce node s.rep.computeFailed, failedLinks := s.rep.failedLinks.filter (fun e => e.1 != node) } }
      else s
    let s2 := if s1.rep.grantedReset = some node && bound = 0xFFFFFFFF then
        ({ s1 with rep := { s1.rep with grantedReset := none } }).p F.REP_RESET_STATE 5
      else s1
    let s3 := if bound = 0xFFFFFFFF then s2.bindAnew node else s2
    let foreign := epoch != s3.g F.PLAN_EPOCH_CURRENT || bound != s3.logical (roleOf p s3.tables node)
    if s3.tablesRun && foreign then s3.wantSingle node else s3

/-- The compute part of an observed element works: it is out of reset and, in an accelerator, has usable tiles. -/
def works (kind usable : Nat) (reset : Bool) : Bool := !reset && (kind != 1 || usable != 0)

/-- What follows when a binding that stands has been classed anew (R87, R88): its lost links and elements go to the repair engine,
elements at new places and those that have returned are taken up, and the install tree follows (R104). -/
def renewBinding (s : State) (p : Plan) (new : List Nat) (walked : Bool) : State :=
  let s1 := new.foldl (fun (t : State) n => t.newcomer n) (s.darkFailures p)
  let s2 := if walked then s1.disc.placed.foldl (fun (t : State) e =>
      match t.observedOf e.2 with
      | some o => if o.replied then t.elementReturns e.1 o.epoch o.bound (works o.kind o.usable o.computeReset) else t
      | none => t) s1
    else s1
  let s3 := s2.disc.placed.foldl (fun (t : State) e =>
    if (match t.observedOf e.2 with | some o => o.replied | none => false) then t else t.addSuspect e.1 255 0) s2
  s3.showSpares.showRepairEst.writeTrees

/-- Matching ends (R84 to R86): the classes stand under tables `t`, the criteria are evaluated, and a viable binding has
its tables installed when none run yet; `unbuilt` names the cupolas that a position leaves unserved. -/
def finishBinding (s : State) (p : Plan) (t : Tables) (unbuilt : Nat → Bool) : State :=
  let new := s.newPlaced
  let s1 := ({ s with disc := { s.disc with unserved := [] } }).classify p t
  let s2 := s1.evaluate p
  let slow := decide (s2.slotsPerRound < (s2.treeDepth + 1) * t.mgmtGap s2.slotsPerRound)
  let s3 := s2.p F.REP_STATUS_SLOW_DETECT (if slow then 1 else 0)
  if s3.g F.DISC_VIABLE_FAILED ≠ 0 && !s3.bindingStands then
    (((s3.p F.DISC_STATUS_STATE DState.notViable).p F.DISC_STATUS_VIABLE 0).raise F.DISC_EVENT_NOT_VIABLE 0
      (s3.g F.DISC_VIABLE_FAILED)).service 3
  else
    let ok := if s3.g F.DISC_VIABLE_FAILED = 0 then 1 else 0
    let s4 := ((s3.p F.DISC_STATUS_STATE DState.bound).p F.DISC_STATUS_VIABLE ok).p F.DISC_STATUS_BOUND_ROUND s3.round
    if s4.bindingStands then s4.renewBinding p new true
    else
      let dark := s4.lostLinks p
      let gone := s4.unservedPositions p
      let s5 := t.cupolas.foldl (fun (u : State) c =>
        let lost := unbuilt c || dark.any (fun e => usesLink t p c (u.logical e.1) e.2)
        let v := u.startCupola p t c (if lost then CState.unbuilt else CState.vacant)
        if lost then v else v.openWrap p p.tables gone c) s4
      let s6 := gone.foldl (fun (u : State) n => u.wrapPorts p n false) s5
      let s7 := (s6.darkFailures p).startInstall 0 t s6.planTargets [] false 0 (s6.round + 1) (fun q e => q + e + 2)
      s7.writeTrees.showSpares.showRepairEst

/-- Changes that waited for the walk are taken up (R88). -/
def queuedChanges (s : State) : State :=
  if s.discState ≠ DState.bound then s
  else
    let l := s.disc.changes
    l.foldl (fun (t : State) e =>
      if e.1 = t.ownId then t.topologyChange (510 + t.g F.TWIN_STATUS_LETTER) e.2.2
      else if e.1 = 0 then t.topologyChange e.2.1 e.2.2
      else
        match posOf t.disc.placed e.1 with
        | some n => t.topologyChange n e.2.2
        | none => t) { s with disc := { s.disc with changes := [] } }

/-- Cupolas that need one of some positions. -/
def needing (s : State) (p : Plan) (l : List Nat) (c : Nat) : Bool := l.any (fun n => usesElement p.tables p c (s.logical n))

/-- MATCHING_COMPLETE (R84, R85): one unserved position takes its variant, where the policy covers its kind and its spare is
there; more than one wait for the re-solve. -/
def matchingComplete (s : State) : State :=
  match s.plan.cur with
  | none => s
  | some p =>
    if s.discState ≠ DState.matching || !s.disc.unserved.isEmpty then s
    else if s.bindingStands then (s.finishBinding p s.boundTables (fun _ => false)).queuedChanges
    else
      let s1 := s.classify p p.tables
      let l := s1.unservedPositions p
      match l with
      | [] => (s1.finishBinding p p.tables (fun _ => false)).queuedChanges
      | [pos] =>
        match p.variantOf (s.logical pos) with
        | some v =>
          if p.covers v && s1.spareFree p v then (s1.finishBinding p (p.tables.withVariant v) (fun _ => false)).queuedChanges
          else (s1.finishBinding p p.tables (s1.needing p [pos])).queuedChanges
        | none => (s1.finishBinding p p.tables (s1.needing p [pos])).queuedChanges
      | _ => { s1 with disc := { s1.disc with unserved := l } }

/-- BINDING_RESOLVE_COMPLETE (R84): the repaired tables become the plan's first tables. A result that the array may not give, by
the policy, the spares there are, or the lost positions, serves none of them: they stay MISSING. -/
def bindingResolve (s : State) (a : Assignment) : State :=
  match s.plan.cur with
  | none => s
  | some p =>
    let l := s.disc.unserved
    if s.discState ≠ DState.matching || l.isEmpty then s
    else
      let own := p.tables.cupolas.filter (s.needing p l)
      let due := ((l.filterMap p.at).filter (fun e => e.kind == 1 && decide (e.row ≤ 15) && s.rowCutPossible p e.row)).map (·.row)
      let t := p.tables.apply a.l2p a.slots a.flows
      let ok := s.assignmentOk p p.tables own due p.substitute a && !s.deltasUse p t l.contains (s.lostLinks p).contains a.slots a.flows
      if ok then
        let s1 := match a.rowCut with
          | some r => { s with rep := { s.rep with rowsCut := addOnce r s.rep.rowsCut } }
          | none => s
        (s1.finishBinding p t (fun c => !a.serves.contains c && s.needing p l c)).queuedChanges
      else (s.finishBinding p p.tables (s.needing p l)).queuedChanges

/-- WALK_COMPLETE (R75). -/
def walkComplete (s : State) : State :=
  match s.plan.cur with
  | none => s
  | some p =>
    if s.discState ≠ DState.walking || !s.disc.probes.isEmpty then s
    else (s.place p).p F.DISC_STATUS_STATE DState.matching

/-- SETTLE_END (R88). -/
def settleEnd (s : State) : State :=
  let ended := decide (s.disc.quietSince + s.g F.DISC_CFG_SETTLE ≤ s.round) || decide (s.disc.entered + s.g F.DISC_CFG_LIMIT ≤ s.round)
  if s.discState = DState.settling && ended then s.startWalk else s

/-- RESCAN (R88); it also ends the holds of flapping ports (R132). -/
def rescan (s : State) : State :=
  let st := s.discState
  if s.plan.cur.isNone || s.g F.PLAN_STATUS_STAGED_STATE = 5 then s.err Status.state 0
  else if st = DState.idle || st = DState.notViable || st = DState.bound then
    let s1 := s.rep.flapHeld.foldl (fun (t : State) e =>
      t.portCfg e.1 e.2 0 false) s
    let s2 := { s1 with rep := { s1.rep with flapHeld := [], flaps := [] } }
    (if st = DState.bound then s2.startWalk else s2.enterSettling).ok
  else s.err Status.state 0

-- After binding (R83, R87)

/-- A compute failure is suspected (R83, R130). -/
def suspectCompute (s : State) (node cause : Nat) : State := s.addSuspect node 255 cause

/-- A census is recorded after binding (R83): the event and a record of its extremes; a census that falls to 0 is a compute
failure of the element. -/
def takeCensus (s : State) (node usable designed : Nat) : State :=
  let old := s.gi F.DISC_CENSUS_USABLE node
  if old = usable && s.gi F.DISC_CENSUS_DESIGNED node = designed then s
  else
    let s1 := (s.pi F.DISC_CENSUS_USABLE node usable).pi F.DISC_CENSUS_DESIGNED node designed
    let body := leBytes 4 (min old usable) ++ leBytes 4 (max old usable) ++ leBytes 4 designed
    let s2 := (s1.raise F.DISC_EVENT_CENSUS_CHANGE node usable).eventRecord F.DISC_EVENT_CENSUS_CHANGE
        (s.sevOf (sourceOf F.DISC_EVENT_CENSUS_CHANGE)) node body
    let acc := match s.plan.cur with
      | some p => (match p.at node with | some e => e.kind == 1 | none => false)
      | none => false
    if acc && usable = 0 && old != 0 then (s2.pi F.DISC_NODE_TRANSIT_ONLY node 1).suspectCompute node Cause.beaconChange
    else s2

/-- What replies after binding lead to when none is outstanding (R87): new elements are placed, everything is classed anew
under the tables that the binding stands for. An element that has failed and answers no more leaves its position to another, and
keeps it where none takes it. A placement stands though its ID is found again elsewhere (R80). DEDUCED (log entry 131). -/
def reclassify (s : State) : State :=
  match s.plan.cur with
  | none => s
  | some p =>
    if s.discState ≠ DState.bound || !s.disc.probes.isEmpty || s.g F.DISC_STATUS_INCREMENTAL = 0 then s
    else
      let gone (e : Nat × Nat) : Bool := s.rep.failedNodes.contains e.1 && !(match s.observedOf e.2 with | some o => o.replied | none => false)
      let dead := s.disc.placed.filter gone
      let pl0 := s.anchors ++ s.disc.placed.filter (fun e => !gone e)
      let dups := s.disc.twofold p (s.passes p pl0 []) s.obsLinks s.ownId
      let pl1 := s.passes p pl0 (dups ++ dead.map Prod.snd)
      let back := dead.filter (fun e => !pl1.any (fun x => x.1 == e.1))
      let s1 := ({ s with disc := { s.disc with placed := pl1.filter (fun (e : Nat × Nat) => e.1 < 510) ++ back } }).findDuplicates dups
      let new := s1.newPlaced
      ((s1.classify p s1.boundTables).renewBinding p new false).p F.DISC_STATUS_INCREMENTAL 0

/-- New far elements that a reply names, each with its port (R73): neither asked nor heard nor given up in this walk. -/
def newFar (s : State) (p : Option Plan) (o : Observed) : List (Nat × Nat) :=
  (List.range o.ports.length).filterMap (fun q =>
    match o.ports[q]? with
    | some r =>
      let edge := match p, posOf s.disc.placed o.id with
        | some p, some pos => p.interSpire (pos, q)
        | _, _ => false
      let known := s.disc.probes.any (fun x => x.id == r.farId) || s.disc.givenUp.contains r.farId ||
        (match s.observedOf r.farId with | some x => x.replied | none => false)
      if (1 ≤ r.link && r.link ≤ 3) && (r.farKind == 1 || r.farKind == 2) && r.farId != 0 && !edge && !known then some (q, r.farId)
      else none
    | none => none)

/-- The reply to a probe for the census alone (R83); a compute part that works again makes its element healthy (R139). -/
def censusReply (s : State) (b : Beacon) : State :=
  let reset := b.flags / 4 % 2 == 1
  let s1 := { s with disc := { s.disc with censusOnly := s.disc.censusOnly.filter (fun i => i != b.elementId) } }
  let s2 := match s1.observedOf b.elementId with
    | some o => s1.setObserved { o with usable := b.usable, designed := b.designed, computeReset := reset }
    | none => s1
  match posOf s2.disc.placed b.elementId with
  | some n =>
    let s3 := s2.takeCensus n b.usable b.designed
    if s3.rep.computeFailed.contains n && works b.kind b.usable reset then s3.clearFailed n else s3
  | none => s2

/-- PROBE_REPLY (R73, R83, R87). -/
def probeReply (s : State) (route : List Nat) (b : Beacon) (ports : List PortRec) : State :=
  if !b.crcOk || b.reserved ≠ 0 then s
  else
    match s.disc.probes.find? (fun x => x.route == route) with
    | none => s
    | some x =>
      let s1 := { s with disc := { s.disc with
        probes := s.disc.probes.erase x, givenUp := s.disc.givenUp.filter (fun i => i != b.elementId) } }
      if s.disc.censusOnly.contains b.elementId then s1.censusReply b
      else
        let reset := b.flags / 4 % 2 == 1
        let first := match s.observedOf b.elementId with | some o => o.route | none => route
        let o : Observed := ⟨b.elementId, b.kind, b.level, (if s.discState = DState.bound then first else route), true, b.epoch,
          b.boundNode, b.usable, b.designed, reset, ports⟩
        let s2 := s1.setObserved o
        let s3 := (s2.newFar s.plan.cur o).foldl (fun (t : State) e =>
          if route.length ≤ 24 then t.sendProbe (route ++ [e.1]) 0 e.2 else t) s2
        match posOf s3.disc.placed b.elementId with
        | some n =>
          let s4 := if s.bindingStands then s3.takeCensus n b.usable b.designed else s3
          if s.discState = DState.bound then
            (s4.elementReturns n b.epoch b.boundNode (works b.kind b.usable reset)).reclassify
          else s4
        | none => if s.discState = DState.bound then s3.reclassify else s3

/-- PROBE_TIMEOUT (R74): sent again, or given up: the element stands with its identity and no port records. -/
def probeTimeout (s : State) (route : List Nat) : State :=
  match s.disc.probes.find? (fun x => x.route == route) with
  | none => s
  | some x =>
    if s.round < x.sent + 2 then s
    else if x.tries < s.g F.DISC_CFG_PROBE_RETRY then s.sendProbe route (x.tries + 1) x.id
    else if s.disc.censusOnly.contains x.id then
      { s with disc := { s.disc with
        probes := s.disc.probes.erase x, censusOnly := s.disc.censusOnly.filter (fun i => i != x.id) } }
    else
      let s1 := { s with disc := { s.disc with probes := s.disc.probes.erase x, givenUp := addOnce x.id s.disc.givenUp } }
      let up := match s.disc.observed.find? (fun o => o.route == route.dropLast && !o.route.isEmpty) with
        | some o => o.ports[route.getLastD 0]?
        | none => none
      let kind := match up with
        | some r => r.farKind
        | none => (match s.disc.beacons.find? (fun e => e.1 == route.headD 0) with | some e => e.2.kind | none => 0)
      let s2 := match s1.observedOf x.id with
        | some o => s1.setObserved { o with replied := false, ports := [] }
        | none => s1.setObserved ⟨x.id, kind, (match up with | some r => r.level | none => 0), route, false, 0, 0xFFFFFFFF, 0, 0, false, []⟩
      s2.reclassify

-- Varlor's own ports (R70 to R72)

/-- The fields of Varlor's own beacon for a port, in the order of Table 3.1. -/
def ownBeacon (s : State) (port : Nat) : List Nat :=
  [1, 3, port, 48, (if s.disc.dark.any (fun (e : Nat × Nat) => (s.bothEnds e).contains (s.ownId, port)) then 2 else 0),
   s.gi F.IDENT_ID_ID 0, s.gi F.IDENT_ID_ID 1, s.g F.PLAN_EPOCH_CURRENT, s.identity, 0, 0, s.g F.TWIN_STATUS_LETTER,
   (if s.gi F.PORT_STATUS_ROLE port = 3 then s.g F.TWIN_STATUS_MIRROR_LEVEL else 0)]

/-- Varlor sends its beacon on one of its own ports (R70, R71). -/
def sendOwnBeacon (s : State) (port : Nat) : State :=
  let l := s.ownBeacon port
  s.emit .beacon (510 + s.g F.TWIN_STATUS_LETTER) port l (beaconFrame 1 l)

/-- A count by port goes up. -/
def bumpKey (l : List (Nat × Nat)) (k : Nat) : List (Nat × Nat) := setKey l k (lookupD l k 0 + 1)

/-- BEACON_RECEIVE (R72): at an agent, or on one of Varlor's own ports (node 510 or 511), where a beacon whose check fails, or whose
reserved fields are not 0, is counted and ignored. -/
def beaconReceive (s : State) (node port : Nat) (b : Beacon) : State :=
  if node < 510 then s.agentBeacon node port b
  else if !b.crcOk || b.reserved ≠ 0 then { s with disc := { s.disc with beaconErr := bumpKey s.disc.beaconErr port } }
  else
    let old := s.disc.beacons.find? (fun e => e.1 == port)
    let changed := match old with
      | none => true
      | some e => e.2.elementId != b.elementId || e.2.kind != b.kind || e.2.level != b.level
          || (e.2.epoch != b.epoch && b.epoch != s.g F.PLAN_EPOCH_CURRENT)
    let s1 := { s with disc := { s.disc with
      beacons := s.disc.beacons.filter (fun e => e.1 != port) ++ [(port, b)]
      heardOwn := setKey s.disc.heardOwn port s.round, unknown := s.disc.unknown.filter (fun q => q != port) } }
    let s2 := if b.kind = 3 && s.gi F.PORT_STATUS_ROLE port = 3 then
        let t := (s1.p F.TWIN_STATUS_PARTNER_LEVEL b.mirrorLevel).p F.TWIN_STATUS_PARTNER_SEEN 1
        if b.mirrorLevel != s.g F.TWIN_STATUS_MIRROR_LEVEL && s.g F.TWIN_STATUS_PARTNER_LEVEL != b.mirrorLevel then
          t.raise F.TWIN_EVENT_LEVEL_MISMATCH 0 b.mirrorLevel
        else t
      else s1
    if changed then s2.topologyChange node port else s2

/-- IDENTITY_UNKNOWN (R72): a trained port of Varlor that has delivered no valid beacon for 4 rounds is reported as link up, identity
unknown, and carries no link for discovery. -/
def identityUnknown (s : State) (node port : Nat) : State :=
  if node < 510 then s.agentIdentityUnknown node port
  else if s.gi F.PORT_STATUS_STATE port ≠ 2 || decide (s.round < lookupD s.disc.heardOwn port 0 + 4) then s
  else { s with disc := { s.disc with
    beacons := s.disc.beacons.filter (fun e => e.1 != port), unknown := addOnce port s.disc.unknown } }

/-- PORT_TRAINED (R70): an agent's port, or one of Varlor's own. -/
def portTrained (s : State) (node port : Nat) : State :=
  let firstTwin := decide (44 ≤ port) && s.g F.TWIN_STATUS_LETTER == 1
    && (List.range 4).all (fun i => s.gi F.PORT_STATUS_STATE (44 + i) != 2)
  if node < 510 then s.agentTrained node port
  else
    let st := s.gi F.PORT_STATUS_STATE port
    if 48 ≤ port || st = 4 || st = 6 then s
    else
      let s1 := (s.pi F.PORT_STATUS_STATE port 2).pi F.PORT_STATUS_LANES port 0xFF
      let s2 := { s1 with
        disc := { s1.disc with heardOwn := setKey s1.disc.heardOwn port s1.round }
        twin := { s1.twin with startedRound := if firstTwin then s1.round else s1.twin.startedRound } }
      let s3 := (s2.bindPort port (s.gi F.PORT_STATUS_ROLE port) true).sendOwnBeacon port
      let s4 := if s.pwr.retraining.contains port then
          ({ s3 with pwr := { s3.pwr with retraining := s3.pwr.retraining.filter (fun q => q != port) } }).raise
            F.PORT_EVENT_RETRAINED port 1
        else s3
      if s4.discState = DState.idle then s4.maybeSettle else s4.topologyChange node port

/-- PORT_LOSS_OF_LOCK (R386, R428): an agent's port, or one of Varlor's own, whose link then counts as failed; in BOUND the elements
within 2 hops of the port are probed (R87). -/
def portLost (s : State) (node port : Nat) : State :=
  if node < 510 then s.agentLost node port
  else if s.gi F.PORT_STATUS_STATE port ≠ 2 then s
  else
    let far := (s.disc.beacons.find? (fun e => e.1 == port)).map Prod.snd
    let s1 := ((s.pi F.PORT_STATUS_STATE port 1).pi F.PORT_STATUS_LANES port 0).bindPort port (s.gi F.PORT_STATUS_ROLE port) false
    let s2 := { s1 with disc := { s1.disc with
      beacons := s1.disc.beacons.filter (fun e => e.1 != port), unknown := s1.disc.unknown.filter (fun q => q != port) } }
    match far with
    | none => s2.topologyChange node port
    | some b =>
      let s3 := match posOf s.disc.placed b.elementId with
        | some n => { s2 with rep := { s2.rep with notices := addOnce (n, b.port, Cause.portDown) s2.rep.notices } }
        | none => s2
      if s.discState = DState.bound && b.kind ≠ 3 then s3.ownPortChange port b.elementId else s3.topologyChange node port

end State

-- The meanings

/-- BEACON_RECEIVE (R72). -/
def execBeaconReceive (node port : Nat) (b : Beacon) (s : State) : Host.Outcome State Fault Refusal :=
  finish (s.beaconReceive node port b)
/-- IDENTITY_UNKNOWN (R72). -/
def execIdentityUnknown (node port : Nat) (s : State) : Host.Outcome State Fault Refusal := finish (s.identityUnknown node port)
/-- PROBE_REPLY (R73). -/
def execProbeReply (route : List Nat) (b : Beacon) (ports : List PortRec) (s : State) : Host.Outcome State Fault Refusal :=
  finish (s.probeReply route b ports)
/-- PROBE_TIMEOUT (R74). -/
def execProbeTimeout (route : List Nat) (s : State) : Host.Outcome State Fault Refusal := finish (s.probeTimeout route)
/-- SETTLE_END (R88). -/
def execSettleEnd (s : State) : Host.Outcome State Fault Refusal := finish s.settleEnd
/-- WALK_COMPLETE (R75). -/
def execWalkComplete (s : State) : Host.Outcome State Fault Refusal := finish s.walkComplete
/-- MATCHING_COMPLETE (R85). -/
def execMatchingComplete (s : State) : Host.Outcome State Fault Refusal := finish s.matchingComplete
/-- BINDING_RESOLVE_COMPLETE (R84). -/
def execBindingResolveComplete (a : Assignment) (s : State) : Host.Outcome State Fault Refusal := finish (s.bindingResolve a)
/-- RESCAN (R88). -/
def execRescan (s : State) : Host.Outcome State Fault Refusal := finish s.rescan
/-- PORT_TRAINED (R70). -/
def execPortTrained (node port : Nat) (s : State) : Host.Outcome State Fault Refusal := finish (s.portTrained node port)
/-- PORT_LOSS_OF_LOCK (R386). -/
def execPortLossOfLock (node port : Nat) (s : State) : Host.Outcome State Fault Refusal := finish (s.portLost node port)

end Sys2Proof.Machine
end

