-- ==== Sys2Proof/Machine/Lantern.lean ====
section
/-! DEFINITION. The lantern (chapter 11): fabric time, who follows whom, holdover, the floor, PPS_IN, time of day and PTP;
in Varlor and in the agents. -/
namespace Sys2Proof.Machine

-- Lantern states (Table 11.2)
namespace LState
abbrev unset : Nat := 0
abbrev reference : Nat := 1
abbrev locked : Nat := 2
abbrev holdover : Nat := 3
abbrev free : Nat := 4
abbrev converging : Nat := 5
end LState

/-- Four time-word periods of 16 µs (Table 11.2). -/
def silenceNs : Nat := 64000

namespace State

def lantState (s : State) : Nat := s.g F.LANT_STATUS_STATE

/-- Fabric time never decreases (R289); it stands at 0 in UNSET. -/
def timeTo (s : State) (ns frac : Nat) : State :=
  if s.lantState = LState.unset || decide (ns ≤ s.lant.now) then s
  else { s with lant := { s.lant with now := ns % 2 ^ 64, frac := frac % 2 ^ 16 } }

/-- The round that fabric time gives (R90). -/
def showRound (s : State) : State :=
  s.p F.BELL_ROUND_ROUND
    (s.g F.BELL_ROUND_BASE_N_BASE + (s.lant.now - s.g F.LANT_ROUND_BASE_TIME_T_BASE) / s.roundNs)

/-- The lantern enters a state (Table 11.2). The estimate of LANT_HOLDOVER.BOUND_NS is open. -/
def setLant (s : State) (st : Nat) : State :=
  if s.lantState = st then s
  else
    let s1 := (s.p F.LANT_STATUS_STATE st).raise F.LANT_EVENT_STATE_CHANGE st st
    if st = LState.holdover then
      let s2 := { s1 with lant := { s1.lant with holdoverFrom := s1.lant.now } }
      let (n, s3) := s2.draw
      let s4 := (s3.p F.LANT_HOLDOVER_SECONDS 0).p F.LANT_HOLDOVER_BOUND_NS (Config.freeValue n % 2 ^ 32)
      (s4.count .LANT_COUNT 2).raise F.LANT_EVENT_HOLDOVER 0 1
    else if st = LState.free then (s1.count .LANT_COUNT 3).raise F.LANT_EVENT_FREE 0 1
    else s1.rst .LANT_HOLDOVER 0 0

/-- The plan gives the reference role to the active module of this pair (R293): it names this pair as the coordinator, or
has no INSTALL section; before any plan the retained one tells. -/
def planLeads (s : State) : Bool :=
  match s.plan.cur with
  | some p => decide (p.spires ≤ 1) || p.coordinatorFlag
  | none =>
    match s.pwr.retained with
    | some (p, _) => decide (p.spires ≤ 1) || p.coordinatorFlag
    | none => true

/-- The edges of PPS_IN so far. -/
def setPps (s : State) (last : Option Nat) (good bad : Nat) : State :=
  { s with lant := { s.lant with ppsLast := last, ppsGood := good, ppsBad := bad } }

/-- PPS_IN starts anew on a module that has become the reference, and disciplines no other (R300): off, or acquiring. -/
def restartPps (s : State) : State :=
  (s.setPps none 0 0).p F.LANT_STATUS_PPS_IN (if s.lantState = LState.reference then s.g F.LANT_CFG_PPS_IN_EN else 0)

/-- The module is the reference lantern, or becomes one, or a follower (Table 11.2, R293). -/
def lanternRole (s : State) : State :=
  let st := s.lantState
  if s.isActive && s.planLeads then
    if 2 ≤ st then
      let s1 := (s.setLant LState.reference).p F.LANT_STATUS_DEPTH 0
      let s2 := (s1.p F.LANT_STATUS_PARENT_TWIN 0).p F.LANT_STATUS_PARENT_SPIRE 0
      ({ s2 with lant := { s2.lant with parent := none } }).restartPps
    else s
  else if st = LState.reference && s.g F.TWIN_STATUS_STATE != 0 then (s.setLant LState.converging).restartPps
  else s

-- Time words (R293 to R298, R385)

/-- The state, depth and time that a sender's word carries (Table 15.5). -/
def timeFields (s : State) (seq st depth : Nat) : List Nat := [seq, st, depth, s.lant.now, s.lant.frac]

/-- TIME_WORD_SEND (R294, R385): on every trained port. -/
def timeWordSend (s : State) (node : Option Nat) (port : Nat) : State :=
  match node with
  | none =>
    if s.gi F.PORT_STATUS_STATE port ≠ 2 then s
    else
      let seq := lookupD s.lant.txSeq port 0
      let s1 := { s with lant := { s.lant with txSeq := setKey s.lant.txSeq port ((seq + 1) % 256) } }
      s1.send .timeWord 510 port (s.timeFields seq s.lantState (s.g F.LANT_STATUS_DEPTH))
  | some n =>
    if !s.portUp n port then s
    else
      let seq := lookupD (s.ag n).timeSeq port 0
      let s1 := s.updAg n (fun a => { a with timeSeq := setKey a.timeSeq port ((seq + 1) % 256) })
      s1.send .timeWord n port (s.timeFields seq (s.ga F.AG_LANT_STATE n 0) (s.ga F.AG_LANT_DEPTH n 0))

end State

end Sys2Proof.Machine

namespace Sys2Proof

/-- The parent's offset from the follower, and the one-way delay (R385). -/
def TimeW.offset (w : TimeW) : Int := ((w.t2 - w.t1) + (w.t3 - w.t4)) / 2
def TimeW.delay (w : TimeW) : Int := ((w.t4 - w.t1) - (w.t3 - w.t2)) / 2

end Sys2Proof

namespace Sys2Proof.Machine

/-- A signed value held to a range. -/
def clampInt (lo hi v : Int) : Int := max lo (min hi v)

namespace State

/-- Own ports whose far end may be this module's parent (R293): twin ports of a module that is not active, peer ports of an
active module that is not the reference. -/
def parentPort (s : State) (port : Nat) : Bool :=
  if s.isActive then s.gi F.PORT_STATUS_ROLE port == 2 && !s.planLeads
  else s.gi F.PORT_STATUS_ROLE port == 3 || decide (44 ≤ port)

/-- The peer spire of a port (Table 2.5). -/
def spireOfPort (s : State) (port : Nat) : Nat :=
  match s.plan.cur with
  | some p => (match p.ports[port]? with | some r => r.far % 128 | none => 0)
  | none => 0

/-- The nearer of two candidate parents, each (port, depth) (R293): fewer hops, then the lower spire number. -/
def nearer (s : State) (best : Option (Nat × Nat)) (e : Nat × Nat) : Option (Nat × Nat) :=
  match best with
  | none => some e
  | some b => if e.2 < b.2 || (e.2 == b.2 && decide (s.spireOfPort e.1 < s.spireOfPort b.1)) then some e else some b

/-- The parent's port. -/
def bestParent (s : State) : Option Nat :=
  ((s.lant.depths.filter (fun e => s.parentPort e.1)).foldl s.nearer none).map Prod.fst

/-- The rate is steered toward zero offset by at most 1 × 10^−6 (R298); by how much is open. -/
def steerBy (s : State) (offset : Int) : State :=
  let (n, s1) := s.draw
  let size : Int := ((Config.freeValue n % 1001 : Nat) : Int)
  { s1 with lant := { s1.lant with steer := if offset < 0 then -size else size } }

/-- Ends of the plan's inter-spire links. -/
def interSpireEnds (s : State) : List (Nat × Nat) :=
  match s.plan.cur with
  | none => []
  | some p => (p.links.filter (fun l => l.bkind == 3)).map (fun l => (localOf l.a, l.pa))

/-- R296: beyond ±250 ns every inter-spire link is classed a link failure; within ±50 ns they are released. -/
def judgeInterspire (s : State) (offset : Int) : State :=
  let ends := s.interSpireEnds
  if !s.isActive then s
  else if !s.lant.interspireFailed && decide (250 < offset.natAbs) then
    let s1 := { s with lant := { s.lant with interspireFailed := true } }
    let s2 := s1.raise F.LANT_EVENT_INTERSPIRE_FAIL 0 offset
    (ends.filter (fun e => !s.rep.failedLinks.contains e)).foldl (fun (t : State) e =>
      let f : Failure := ⟨e.1, e.2, 0, t.round, 3, 0⟩
      let (u, j) := t.logFailure f 3 0
      let f := { f with log := j }
      { u with rep := { u.rep with failedLinks := u.rep.failedLinks ++ [e], queued := u.rep.queued ++ [f] } }) s2
  else if s.lant.interspireFailed && decide (offset.natAbs ≤ 50) then
    let links := s.rep.failedLinks.filter (fun e => !ends.contains e)
    let s1 := { s with lant := { s.lant with interspireFailed := false } }
    ({ s1 with rep := { s1.rep with failedLinks := links } }).startRetry
  else s

/-- A follower in UNSET meets its parent's time (Table 11.2). -/
def acquire (s : State) (w : TimeW) : State :=
  let t := (w.t3 + w.delay).toNat
  if t < s.g F.LANT_FLOOR_FLOOR then s.raise F.LANT_EVENT_TIME_CONFLICT 0 1
  else
    let s1 := s.setLant LState.locked
    let s2 := { s1 with lant := { s1.lant with now := t % 2 ^ 64, frac := 0, slewAt := t % 2 ^ 64 } }
    let off := ofField 64 (s2.g F.LANT_OFFSET_OFFSET)
    s2.showRound.anchor 6 0 0 off off

/-- The time at which the parent was last heard. -/
def heardParent (s : State) : State := { s with lant := { s.lant with parentSeen := s.lant.now } }

/-- A valid word from the parent (R294 to R298, Table 11.2). -/
def followParent (s : State) (port : Nat) (w : TimeW) : State :=
  let twin := !s.isActive
  let s1 := (s.p F.LANT_PARENT_OFFSET (toField 32 w.offset)).p F.LANT_PARENT_DELAY (toField 32 w.delay)
  let s2 := (s1.p F.LANT_STATUS_DEPTH (min 15 (w.depth + 1))).p F.LANT_STATUS_PARENT_TWIN (if twin then 1 else 0)
  let s3 := s2.p F.LANT_STATUS_PARENT_SPIRE (if twin then 0 else s.spireOfPort port)
  let st := s.lantState
  if st = LState.unset then (s3.acquire w).heardParent
  else
    let s4 := ((s3.timeTo w.t4.toNat 0).steerBy w.offset).heardParent
    let s5 :=
      if st = LState.holdover || st = LState.free then s4.setLant LState.converging
      else if st = LState.converging && decide (w.offset.natAbs ≤ 10) then s4.setLant LState.locked
      else s4
    s5.judgeInterspire w.offset

/-- A time word on one of Varlor's own ports. -/
def ownTimeWord (s : State) (port : Nat) (w : TimeW) : State :=
  if !w.crcOk then s.count .LANT_COUNT 7
  else
    let s1 := { s with lant := { s.lant with rxSeq := setKey s.lant.rxSeq port w.seq } }
    if w.state = LState.unset || !s.parentPort port then s1
    else
      let s2 := { s1 with lant := { s1.lant with depths := setKey s1.lant.depths port w.depth } }
      let best := s2.bestParent
      let s3 := { s2 with lant := { s2.lant with parent := best } }
      if best = some port && s.lantState != LState.reference then s3.followParent port w else s3

/-- The time parent's port of an agent (R293, R408). -/
def agentParent (s : State) (node : Nat) : Option Nat :=
  if s.ga F.AG_TREE_UP_VALID node 0 = 1 then some (s.egressPort node (s.ga F.AG_TREE_UPLINK node 0))
  else if s.ga F.AG_MANAGER_VALID node 0 = 1 then some (s.ga F.AG_MANAGER_PORT node 0)
  else none

/-- The next state of an agent's lantern on a valid word from its parent (Table 11.2; an agent holds no floor). -/
def agentLantNext (st : Nat) (offset : Int) : Nat :=
  if st = LState.unset then LState.locked
  else if st = LState.holdover || st = LState.free then LState.converging
  else if st = LState.converging && decide (offset.natAbs ≤ 25) then LState.locked
  else st

/-- A time word at an agent (R296, R297, R385). -/
def agentTimeWord (s : State) (node port : Nat) (w : TimeW) : State :=
  if !w.crcOk then s.countAg node 11
  else if w.state = LState.unset then s
  else
    let s1 := if s.ga F.AG_PORT_INTERSPIRE node port = 1 then
      s.pa F.AG_PORT_SHIFT node port (toField 10 (clampInt (-250) 250 w.offset)) else s
    if s.agentParent node ≠ some port then s1
    else
      let off := clampInt (-32768) 32767 w.offset
      let s2 := (s1.pn F.AG_LANT_PARENT_PORT node port).pn F.AG_LANT_DEPTH node (min 15 (w.depth + 1))
      let s3 := (s2.pn F.AG_LANT_OFFSET node (toField 16 off)).pn F.AG_LANT_DELAY node (sat 16 w.delay.toNat)
      let next := agentLantNext (s.ga F.AG_LANT_STATE node 0) w.offset
      let s4 := (s3.pn F.AG_LANT_STATE node next).pn F.AG_LANT_HOLDOVER node 0
      s4.updAg node (fun a => { a with lastTime := max a.lastTime w.t3.toNat })

/-- TIME_WORD (R294). -/
def timeWord (s : State) (node : Option Nat) (port : Nat) (w : TimeW) : State :=
  match node with
  | none => s.ownTimeWord port w
  | some n => s.agentTimeWord n port w

-- Holdover (R297)

/-- Agents whose lantern is LOCKED and whose parent has been silent for 4 periods. -/
def silentAgents (s : State) : List Nat :=
  (s.agents.filter (fun a => s.ga F.AG_LANT_STATE a.node 0 == LState.locked
    && decide (a.lastTime + silenceNs ≤ s.lant.now))).map (fun a => a.node)

/-- The parent's port is silent: another candidate may become the parent (R293). -/
def dropParent (s : State) : State :=
  match s.lant.parent with
  | none => s
  | some q => { s with lant := { s.lant with depths := s.lant.depths.filter (fun e => e.1 != q), parent := none } }

/-- HOLDOVER_ENTRY (R297): lanterns whose parent has been silent by the clock, and the module's own when no other has. -/
def holdoverEntry (s : State) : State :=
  let due := s.silentAgents
  let s1 := due.foldl (fun (t : State) n => (t.pn F.AG_LANT_STATE n LState.holdover).pn F.AG_LANT_HOLDOVER n 0) s
  let own := s.lantState == LState.locked && (due.isEmpty || decide (s.lant.parentSeen + silenceNs ≤ s.lant.now))
  if own then (s1.setLant LState.holdover).dropParent else s1

/-- Agents in HOLDOVER for 8 rounds. -/
def spentAgents (s : State) : List Nat :=
  (s.agents.filter (fun a => s.ga F.AG_LANT_STATE a.node 0 == LState.holdover
    && decide (8 ≤ s.ga F.AG_LANT_HOLDOVER a.node 0))).map (fun a => a.node)

/-- HOLDOVER_LIMIT (R297): 8 rounds for an agent, 300 s for the module. -/
def holdoverLimit (s : State) : State :=
  let due := s.spentAgents
  let s1 := due.foldl (fun (t : State) n => t.pn F.AG_LANT_STATE n LState.free) s
  let own := s.lantState == LState.holdover
    && (due.isEmpty || decide (s.lant.holdoverFrom + 300000000000 ≤ s.lant.now))
  if own then s1.setLant LState.free else s1

/-- Lanterns at a round boundary: rounds and seconds of holdover. -/
def countHoldover (s : State) : State :=
  let s1 := s.agents.foldl (fun (t : State) a =>
    if t.ga F.AG_LANT_STATE a.node 0 = LState.holdover then
      t.pn F.AG_LANT_HOLDOVER a.node (sat 8 (t.ga F.AG_LANT_HOLDOVER a.node 0 + 1))
    else t) s
  if s.lantState = LState.holdover || s.lantState = LState.free then
    s1.p F.LANT_HOLDOVER_SECONDS (sat 32 ((s.lant.now - s.lant.holdoverFrom) / 1000000000))
  else s1

-- The reference and its floor (R291, R292)

/-- REFERENCE_START (R292): the greatest floor, or the installation epoch. -/
def referenceStart (s : State) (floors : List Nat) : State :=
  let st := s.g F.TWIN_STATUS_STATE
  if s.lantState ≠ LState.unset || !s.planLeads || decide (2 < st) then s
  else
    let start := floors.foldl max (s.g F.LANT_FLOOR_FLOOR)
    let off := ofField 64 (s.g F.LANT_OFFSET_OFFSET)
    let s1 := if start = 0 then s else (s.p F.LANT_STATUS_TOD_VALID 0).anchor 5 1 0 off off
    let s2 := (s1.setLant LState.reference).p F.LANT_STATUS_DEPTH 0
    ({ s2 with lant := { s2.lant with now := start % 2 ^ 64, frac := 0, slewAt := start % 2 ^ 64 } }).showRound

/-- FLOOR_WRITE (R291): fabric time plus 128 s, rounded up to a whole second. -/
def floorWrite (s : State) : State :=
  if s.lantState = LState.unset then s
  else s.p F.LANT_FLOOR_FLOOR (ceilDiv (s.lant.now + 128000000000) 1000000000 * 1000000000)

-- PPS_IN (R300)

/-- PPS_IN disciplines this lantern. -/
def ppsOn (s : State) : Bool := s.lantState == LState.reference && s.b F.LANT_CFG_PPS_IN_EN

/-- PPS_IN_LOST (R300): three edges missing or rejected in a row; the oscillator keeps its last frequency. -/
def ppsInLost (s : State) : State :=
  if !s.ppsOn then s
  else
    let s1 := s.setPps none 0 0
    let s2 := { s1 with lant := { s1.lant with ppsLostAt := s1.lant.now } }
    (s2.p F.LANT_STATUS_PPS_IN 3).raise F.LANT_EVENT_PPS_IN_LOST 0 1

/-- PPS_IN_EDGE (R300): an edge at a fabric time. -/
def ppsInEdge (s : State) (ns : Nat) : State :=
  if !s.ppsOn then s
  else
    let s1 := s.timeTo ns 0
    match s.lant.ppsLast with
    | none => s1.setPps (some ns) 0 0
    | some last =>
      if last + 999999000 ≤ ns && ns ≤ last + 1000001000 then
        let n := s.lant.ppsGood + 1
        let s2 := (s1.setPps (some ns) n 0).steerBy ((ns : Int) - ((last + 1000000000 : Nat) : Int))
        if 16 ≤ n then s2.p F.LANT_STATUS_PPS_IN 2
        else if s.g F.LANT_STATUS_PPS_IN = 2 then s2 else s2.p F.LANT_STATUS_PPS_IN 1
      else
        let bad := s.lant.ppsBad + 1
        let s2 := (s1.setPps (some last) 0 bad).count .LANT_COUNT 4
        if 3 ≤ bad then s2.ppsInLost else s2

-- Time of day (R302, R303)

def todOffset (s : State) : Int := ofField 64 (s.g F.LANT_OFFSET_OFFSET)
def todTarget (s : State) : Int := ofField 64 (s.g F.LANT_OFFSET_TARGET_TARGET)

/-- A slew under way is carried out up to the present fabric time: SLEW_PPM ns per ms. -/
def slewOn (s : State) : State :=
  if !s.b F.LANT_STATUS_SLEWING then s
  else
    let ppm := max 1 (s.g F.LANT_CFG_SLEW_PPM)
    let steps := (s.lant.now - s.lant.slewAt) * ppm / 1000000
    let gap := s.todTarget - s.todOffset
    let move : Int := if gap < 0 then max gap (-(steps : Int)) else min gap (steps : Int)
    let s1 := { s with lant := { s.lant with slewAt := s.lant.slewAt + steps * 1000000 / ppm } }
    s1.p F.LANT_OFFSET_OFFSET (toField 64 (s.todOffset + move))

/-- The target that a SET_TOD asks for, from the offset in force (R302). -/
def todWanted (s : State) (mode : Nat) : Int :=
  let arg := s.g F.LANT_TOD_ARG_VALUE
  if mode < 2 then (arg : Int) - (s.lant.now : Int) else s.todOffset + ofField 64 arg

/-- SET_TOD (R302, R303). -/
def setTod (s : State) (mode sess : Nat) : State :=
  let s1 := s.slewOn
  let cur := s1.todOffset
  let t := toField 64 (s1.todWanted mode)
  let s2 := ((s1.p F.LANT_STATUS_TOD_VALID 1).raise F.LANT_EVENT_TOD_SET mode 1).count .LANT_COUNT 0
  let s3 := s2.p F.LANT_OFFSET_TARGET_TARGET t
  if mode % 2 = 1 then
    let s4 := if s1.b F.LANT_STATUS_SLEWING then s3.anchor 4 0 sess cur cur else s3
    let s5 := (s4.p F.LANT_OFFSET_OFFSET t).p F.LANT_STATUS_SLEWING 0
    ((s5.anchor 2 0 sess cur (ofField 64 t)).count .LANT_COUNT 1).ok
  else
    let s4 := { s3 with lant := { s3.lant with slewAt := s3.lant.now } }
    ((s4.p F.LANT_STATUS_SLEWING 1).anchor 1 0 sess cur (ofField 64 t)).ok

/-- STOP_SLEW (R303): the current offset becomes the target. -/
def stopSlew (s : State) (sess : Nat) : State :=
  if !s.b F.LANT_STATUS_SLEWING then s.err Status.state 0
  else
    let s1 := s.slewOn
    let cur := s1.todOffset
    (((s1.p F.LANT_OFFSET_TARGET_TARGET (toField 64 cur)).p F.LANT_STATUS_SLEWING 0).anchor 4 0 sess cur cur).ok

/-- SLEW_COMPLETE (R302). -/
def slewComplete (s : State) : State :=
  if !s.b F.LANT_STATUS_SLEWING then s
  else
    let before := s.slewOn.todOffset
    let s1 := (s.p F.LANT_OFFSET_OFFSET (toField 64 s.todTarget)).p F.LANT_STATUS_SLEWING 0
    (s1.anchor 3 0 0 before s.todTarget).raise F.LANT_EVENT_SLEW_DONE 0 1

/-- LANT_NOW_NS_READ (R290): fabric time at the read, with time of day from the same instant. -/
def readNow (s : State) (ns frac : Nat) : State :=
  let s1 := (s.timeTo ns frac).slewOn
  let s2 := (s1.p F.LANT_NOW_NS_NS s1.lant.now).p F.LANT_NOW_FRAC_FRAC s1.lant.frac
  s2.p F.LANT_NOW_TOD_NS (toField 64 ((s1.lant.now : Int) + s1.todOffset))

-- PTP (R305, Table 11.4)

/-- The module is a PTP grandmaster. -/
def ptpMaster (s : State) : Bool := s.isActive && s.b F.LANT_CFG_PTP_EN

/-- Time of day now, as a 64-bit field. -/
def todNow (s : State) : Nat := toField 64 ((s.lant.now : Int) + s.slewOn.todOffset)

/-- clockClass (Table 11.4): 6, a reference with PPS_IN LOCKED and TOD_VALID; 7, PPS_IN LOST for no longer
than the holdover limit of 300 s; 248 otherwise. -/
def clockClass (s : State) : Nat :=
  if s.lantState ≠ LState.reference then 248
  else if s.g F.LANT_STATUS_PPS_IN = 2 && s.b F.LANT_STATUS_TOD_VALID then 6
  else if s.g F.LANT_STATUS_PPS_IN = 3 && decide (s.lant.now ≤ s.lant.ppsLostAt + 300000000000) then 7
  else 248

/-- PTP_SYNC (R305): Sync, then Follow_Up with time of day. -/
def ptpSync (s : State) : State :=
  if !s.ptpMaster then s
  else
    let d := s.g F.LANT_CFG_PTP_DOMAIN
    ((s.send .ptp 0 d []).send .ptp 8 d [s.todNow]).count .LANT_COUNT 5

/-- PTP_ANNOUNCE (R305). -/
def ptpAnnounce (s : State) : State :=
  if !s.ptpMaster then s
  else
    let c := s.clockClass
    s.send .ptp 11 (s.g F.LANT_CFG_PTP_DOMAIN) [c, if c = 6 then 0x21 else 0xFE, s.g F.LANT_CFG_PRIORITY1,
      s.g F.LANT_CFG_PRIORITY2, s.g F.LANT_UTC_UTC_OFFSET, s.g F.LANT_UTC_VALID, s.g F.LANT_UTC_LEAP61,
      s.g F.LANT_UTC_LEAP59, s.g F.LANT_STATUS_TOD_VALID, Config.elementId]

/-- PTP_DELAY_REQ (R305): answered; an unsupported message is discarded and counted. -/
def ptpDelayReq (s : State) (supported : Bool) : State :=
  if !s.ptpMaster then s
  else if supported then (s.send .ptp 9 (s.g F.LANT_CFG_PTP_DOMAIN) [s.todNow]).count .LANT_COUNT 6
  else s.count .ETH_COUNT 2

end State

/-- TIME_WORD_SEND (R385). -/
def execTimeWordSend (node : Option Nat) (port : Nat) (s : State) : Host.Outcome State Fault Refusal :=
  finish (s.timeWordSend node port)
/-- TIME_WORD (R294). -/
def execTimeWord (node : Option Nat) (port : Nat) (w : TimeW) (s : State) : Host.Outcome State Fault Refusal :=
  finish (s.timeWord node port w)
/-- HOLDOVER_ENTRY (R297). -/
def execHoldoverEntry (s : State) : Host.Outcome State Fault Refusal := finish s.holdoverEntry
/-- HOLDOVER_LIMIT (R297). -/
def execHoldoverLimit (s : State) : Host.Outcome State Fault Refusal := finish s.holdoverLimit
/-- REFERENCE_START (R292). -/
def execReferenceStart (floors : List Nat) (s : State) : Host.Outcome State Fault Refusal := finish (s.referenceStart floors)
/-- FLOOR_WRITE (R291). -/
def execFloorWrite (s : State) : Host.Outcome State Fault Refusal := finish s.floorWrite
/-- PPS_IN_EDGE (R300). -/
def execPpsInEdge (ns : Nat) (s : State) : Host.Outcome State Fault Refusal := finish (s.ppsInEdge ns)
/-- PPS_IN_LOST (R300). -/
def execPpsInLost (s : State) : Host.Outcome State Fault Refusal := finish s.ppsInLost
/-- SET_TOD (R302). -/
def execSetTod (mode session : Nat) (s : State) : Host.Outcome State Fault Refusal := finish (s.setTod mode session)
/-- STOP_SLEW (R303). -/
def execStopSlew (session : Nat) (s : State) : Host.Outcome State Fault Refusal := finish (s.stopSlew session)
/-- SLEW_COMPLETE (R302). -/
def execSlewComplete (s : State) : Host.Outcome State Fault Refusal := finish s.slewComplete
/-- LANT_NOW_NS_READ (R290). -/
def execLantNowNsRead (ns frac : Nat) (s : State) : Host.Outcome State Fault Refusal := finish (s.readNow ns frac)
/-- PTP_SYNC (R305). -/
def execPtpSync (s : State) : Host.Outcome State Fault Refusal := finish s.ptpSync
/-- PTP_ANNOUNCE (R305). -/
def execPtpAnnounce (s : State) : Host.Outcome State Fault Refusal := finish s.ptpAnnounce
/-- PTP_DELAY_REQ (R305). -/
def execPtpDelayReq (supported : Bool) (s : State) : Host.Outcome State Fault Refusal := finish (s.ptpDelayReq supported)

end Sys2Proof.Machine
end

