-- ==== Sys2Proof/Machine/Repair.lean ====
section
/-! DEFINITION. Failure detection and the repair engine (R126 to R149): heartbeats, fault notices, detection,
classification, the choice of a variant or a re-solve, planned resets. -/
namespace Sys2Proof.Machine

-- Repair engine states (REP_STATUS.ENGINE)
namespace Eng
abbrev idle : Nat := 0
abbrev classifying : Nat := 1
abbrev selecting : Nat := 2
abbrev resolving : Nat := 3
abbrev installing : Nat := 4
end Eng

-- States of a reset request (REP_RESET.STATE)
namespace RReset
abbrev rerouting : Nat := 1
abbrev draining : Nat := 2
abbrev granted : Nat := 3
abbrev refused : Nat := 4
abbrev done : Nat := 5
abbrev cancelled : Nat := 6
end RReset

namespace State

/-- The local node whose element a heartbeat or notice names by its logical node number; `none` for another spire. -/
def senderNode (s : State) (logical : Nat) : Option Nat :=
  if logical / 512 ≠ s.spire then none
  else
    match s.plan.cur with
    | some p => some (playerOf p s.tables logical)
    | none => some (localOf logical)

/-- The role that a position's element plays, as a logical node number. -/
def roleAt (s : State) (pos : Nat) : Nat :=
  match s.plan.cur with
  | some p => s.logical (roleOf p s.tables pos)
  | none => s.logical pos

-- What arrives (R126, R128)

/-- R110: an agent that was PREPARED for the activation of round A and reports another epoch in it, or is PREPARED still, as after
a repair under the same epoch, has missed ACTIVATE. -/
def missedActivate (s : State) (n : Nat) (hb : Heartbeat) : Bool :=
  hb.round == s.bell.recentAt && s.bell.recent.contains n && (hb.epoch != s.g F.PLAN_EPOCH_CURRENT || hb.installState == 2)

/-- HEARTBEAT_RECEIVE (R126, R110). -/
def heartbeatReceive (s : State) (hb : Heartbeat) : State :=
  if !hb.crcOk then s
  else
    match s.senderNode hb.node with
    | none => s
    | some n =>
      let beats := s.rep.beats.filter (fun (e : Nat × Nat × Nat × Nat) => e.1 != n) ++ [(n, hb.epoch, hb.portsUp, hb.installState)]
      let s1 := { s with rep := { s.rep with heard := addOnce n s.rep.heard, beats := beats } }
      if s.missedActivate n hb then
        let s2 := { s1 with
          bell := { s1.bell with recent := s1.bell.recent.filter (fun m => m != n) }
          rep := { s1.rep with declared := addOnce n s1.rep.declared } }
        ((s2.pi F.BELL_AGENT_MISSED_ACTIVATE n 1).raise F.BELL_EVENT_MISSED_ACTIVATE n 1).wantSingle n
      else s1

/-- A notice is kept until the end of the round. -/
def keepNotice (s : State) (node port cause : Nat) : State :=
  { s with rep := { s.rep with notices := addOnce (node, port, cause) s.rep.notices } }

/-- R132: a PORT_DOWN notice counts towards the flap limit; beyond it the port is held dark. -/
def countFlap (s : State) (node port : Nat) : State :=
  let old := match s.rep.flaps.find? (fun e => e.1 == node && e.2.1 == port) with
    | some e => e.2.2
    | none => []
  let l := (old.filter (fun (r : Nat) => decide (s.round < r + 1024))) ++ [s.round]
  let rest := s.rep.flaps.filter (fun (e : Nat × Nat × List Nat) => !(e.1 == node && e.2.1 == port))
  let s1 := { s with rep := { s.rep with flaps := rest ++ [(node, port, l)] } }
  if s.g F.REP_CFG_FLAP_LIMIT < l.length && !s.rep.flapHeld.contains (node, port) then
    let s2 := { s1 with rep := { s1.rep with flapHeld := s1.rep.flapHeld ++ [(node, port)] } }
    ((s2.portCfg node port 0 true).raise F.REP_EVENT_FLAP_HOLD node port).count .REP_COUNT 7
  else s1

/-- R83: the sender alone is probed for its census. -/
def probeCensus (s : State) (node : Nat) : State :=
  match s.disc.placed.find? (fun e => e.1 == node) with
  | none => s
  | some e =>
    if s.discState ≠ DState.bound || s.disc.probes.any (fun q => q.id == e.2) then s
    else
      let route := match s.tree.find? (fun x => x.1 == e.2) with
        | some x => some x.2
        | none => (s.observedOf e.2).map (·.route)
      match route with
      | some r => ({ s with disc := { s.disc with censusOnly := addOnce e.2 s.disc.censusOnly } }).sendProbe r 0 e.2
      | none => s

/-- FAULT_NOTICE (R128, Table 5.5). -/
def faultNotice (s : State) (x : Notice) : State :=
  match s.senderNode x.node with
  | none =>
    if x.node = 0xFFFFFFFF && (x.cause = Cause.portDown || x.cause = Cause.portUp || (x.cause = Cause.beaconChange && x.port ≠ 255))
      then s.unboundChange x.farId
    else s
  | some n =>
    if x.cause = Cause.portDown then ((s.keepNotice n x.port x.cause).countFlap n x.port).topologyChange n x.port
    else if x.cause = Cause.portUp then s.topologyChange n x.port
    else if x.cause = Cause.beaconChange then (if x.port = 255 then s.probeCensus n else s.topologyChange n x.port)
    else if x.cause = Cause.neighbourSilent then s.keepNotice n x.port x.cause
    else if x.cause = Cause.computeFault then s.keepNotice n 255 x.cause
    else if x.cause = Cause.computeReset then
      (if s.rep.grantedReset = some n then s else (s.keepNotice n 255 x.cause).raise F.REP_EVENT_UNWARNED_RESET n 1)
    else if x.cause = Cause.unknownFlow then (s.raise F.BELL_EVENT_UNKNOWN_FLOW n x.flow).count .BELL_COUNT 7
    else if x.cause = Cause.relayOverflow then (s.raise F.BELL_EVENT_RELAY_OVERFLOW n x.port).count .BELL_COUNT 6
    else if x.cause = Cause.drainExceeded then s.raise F.BELL_EVENT_DRAIN_EXCEEDED n x.flow
    else if x.cause = Cause.isolation then
      (s.raise F.CUP_EVENT_ISOLATION x.cupola n).eventRecord F.CUP_EVENT_ISOLATION 6 x.cupola
        (leBytes 4 x.node ++ leBytes 2 x.flow ++ leBytes 2 x.cupola ++ leBytes 4 x.count)
    else s

-- Detection (R129)

/-- R368, R425: in the round in which Varlor reads the heartbeats anew, each difference between a heartbeat's ports-up mask
and the binding is a PORT_DOWN or PORT_UP notice. -/
def rereadPorts (s : State) (hb : Heartbeat) : State :=
  match s.senderNode hb.node, s.plan.cur with
  | some n, some p =>
    if !hb.crcOk || s.rep.reread ≠ some s.round then s
    else
      (p.neighbours (s.logical n)).foldl (fun (t : State) e =>
        let up := hasBit hb.portsUp e.1
        let joined := (match s.disc.placed.find? (fun x => x.1 == n) with | some x => s.linkLive x.2 e.1 | none => false) && !s.knownFault n e.1
        if up = joined then t
        else t.faultNotice ⟨if up then Cause.portUp else Cause.portDown, e.1, hb.node, s.round, 0, 0, 1, 0⟩) s
  | _, _ => s

/-- An element resets by Varlor's grant (R148): it and its links are no suspects until it has come back. -/
def resetting (s : State) (node : Nat) : Bool := s.rep.grantedReset == some node

/-- What one notice makes suspect (Table 5.5): the link and its far element, the far element, or the sender. -/
def suspectNotice (s : State) (e : Nat × Nat × Nat) : State :=
  let far := s.planFar e.1 e.2.1
  if s.resetting e.1 || (match far with | some m => s.resetting m.1 | none => false) then s else
  let farSuspect (t : State) : State := match far with
    | some m => t.addSuspect m.1 255 e.2.2
    | none => t
  if e.2.2 = Cause.portDown then
    let known := match far with | some m => s.knownFault m.1 m.2 | none => false
    farSuspect (if known then s else s.addSuspect e.1 e.2.1 e.2.2)
  else if e.2.2 = Cause.neighbourSilent then farSuspect s
  else s.addSuspect e.1 255 e.2.2

/-- Agents that sent in the round before and whose heartbeat has not come in this one. -/
def silentNow (s : State) : List Nat := s.rep.heardBefore.filter (fun n => !s.rep.heard.contains n && !s.resetting n)

/-- FAILURE_DETECTION (R129), at the end of a round. A cupola whose carve is in progress completes its carve round first. -/
def failureDetection (s : State) : State :=
  match s.plan.cur with
  | none => s
  | some p =>
    let s1 := s.rep.notices.foldl suspectNotice s
    let s2 := s.silentNow.foldl (fun (t : State) n => t.addSuspect n 255 0) { s1 with rep := { s1.rep with notices := [] } }
    let new := s2.rep.suspects.filter (fun f => f.d == s.round)
    if new.isEmpty then s2
    else
      let hit := ((s2.listed .CUP_ENTRY).map Prod.fst).filter (fun c =>
        s2.cupState c == CState.active && new.any (s2.failureHits p c))
      let s3 := hit.foldl (fun (t : State) c => (t.setCup c CState.repairing).raise F.CUP_EVENT_REPAIR_STARTED c 1) s2
      let carving := ((s2.listed .CUP_ENTRY).map Prod.fst).filter (fun c =>
        s2.cupState c == CState.carving && new.any (s2.failureHits p c))
      let s3 := carving.foldl (fun (t : State) c => t.raise F.CUP_EVENT_REPAIR_STARTED c 1) s3
      let s4 := (s3.raise F.REP_EVENT_FAULT 0 new.length).bump .REP_COUNT 0 0 new.length
      if s4.g F.REP_STATUS_ENGINE = Eng.idle then s4.p F.REP_STATUS_ENGINE Eng.classifying else s4

-- Classification (R130, R131)

/-- The class field of a REP_LOG record, and its action field. -/
def logClass (s : State) (j cls : Nat) : State :=
  s.wr .REP_LOG 0 (2 * j) (putBits (s.rd .REP_LOG 0 (2 * j)) 48 4 cls)
def logAction (s : State) (j action : Nat) : State :=
  s.wr .REP_LOG 0 (2 * j) (putBits (s.rd .REP_LOG 0 (2 * j)) 52 4 action)

/-- An element's agent is silent in the present round. -/
def silent (s : State) (node : Nat) : Bool := !s.rep.heard.contains node

/-- Every trained port of an element is reported down: of the ports that its last reply gives as trained, or, without a reply, of
those that the plan joins to another element. -/
def allDown (s : State) (node : Nat) : Bool :=
  match s.plan.cur with
  | none => false
  | some p =>
    let o := match s.disc.placed.find? (fun x => x.1 == node) with | some x => s.observedOf x.2 | none => none
    let planned := ((p.neighbours (s.logical node)).filter (fun e => e.2.2.2 == 0)).map Prod.fst
    let ports : List Nat := match o with
      | some o =>
        if o.ports.isEmpty then planned
        else (List.range o.ports.length).filter (fun q => match o.ports[q]? with | some r => r.link != 0 | none => false)
      | none => planned
    let down (e : Nat × Nat) : Bool := s.rep.failedLinks.contains e
      || s.rep.suspects.any (fun f => f.node == e.1 && f.port == e.2)
    !ports.isEmpty && ports.all (fun q => down (node, q) || (match s.planFar node q with | some e => down e | none => false))

/-- The install-tree parent of an element is silent or failed (R131). -/
def parentLost (s : State) (node : Nat) : Bool :=
  match s.treeParent node with
  | some m => s.silent m || s.rep.failedNodes.contains m
  | none => false

/-- The class of a suspect (R130): 1 element, 2 compute, 3 link, 4 cleared; 0: it waits for a rebuilt tree (R131). A link
with a lost end goes with that element. `wait`: an element may still be deferred. -/
def classOf (s : State) (wait : Bool) (f : Failure) : Nat :=
  let lost (n : Nat) : Nat := if wait && s.silent n && s.parentLost n then 0 else 1
  if f.port = 255 then
    if s.silent f.node || s.allDown f.node then lost f.node
    else if computeCause f.cause then 2
    else 4
  else if s.silent f.node then lost f.node
  else
    match s.planFar f.node f.port with
    | some e => if s.silent e.1 then lost e.1 else 3
    | none => 3

/-- The fate of an item whose destination is no element of the spire, as an operation of a queue pair (R133). -/
def linkFate (s : State) (failed : List Failure) : Nat × Nat :=
  match failed.find? (fun f => f.port != 255) with
  | some f => (Fate.link, s.logical f.node % 2 ^ 16 + f.port % 16 * 2 ^ 16)
  | none => (Fate.link, (failed.map (fun f => s.roleAt f.node)).headD 0 % 2 ^ 16)

/-- R133: the fate of an item in flight of a REPAIRING cupola, by its destination. -/
def lostFate (s : State) (failed : List Failure) (dest : Nat) : Nat × Nat :=
  match failed.find? (fun f => f.port == 255 && s.roleAt f.node % 2 ^ 32 == dest) with
  | some _ => (Fate.peerLost, dest % 2 ^ 16)
  | none => s.linkFate failed

/-- Varlor's own items in flight of a REPAIRING cupola end (R133, R189, R207): every sub-item, on the fabric or a queue pair. Their
source is Varlor. -/
def endRepairing (s : State) (failed : List Failure) (c : Nat) : State :=
  (s.tasksWhere (fun t => t.live && t.cupola == c)).foldl (fun (u : State) t =>
    t.inFlight.foldl (fun (v : State) x =>
      let (st, d) := if x.kind = 0 || x.kind = 2 || x.kind = 4 then v.lostFate failed x.node else v.linkFate failed
      v.endSubs t.idx [x.seq] st d) u) s

/-- The failure broadcast (R133): failed elements, failed links, REPAIRING cupolas, to every agent. -/
def broadcastFailure (s : State) (failed : List Failure) (cups : List Nat) : State :=
  let nodes := (failed.filter (fun f => f.port == 255)).map (fun f => s.roleAt f.node)
  let links := (failed.filter (fun f => f.port != 255)).flatMap (fun f => [s.logical f.node, f.port])
  s.boundNodes.foldl (fun (t : State) n =>
    t.send .failBroadcast n 0 ([nodes.length] ++ nodes ++ [links.length / 2] ++ links ++ cups)) s

/-- Cupolas in a state, by ID. -/
def cupolasAt (s : State) (st : Nat) : List Nat :=
  ((s.listed .CUP_ENTRY).filter (fun e => getBits e.2 0 3 == st)).map Prod.fst

/-- The engine's next state when no repair is left to install: the next batch, or a re-solve that is due (R146). -/
def nextBatch (s : State) : State :=
  if !s.rep.queued.isEmpty then s.p F.REP_STATUS_ENGINE Eng.selecting
  else
    let t := s.p F.REP_STATUS_ENGINE Eng.idle
    if t.rep.retryDue then t.startRetry else t

/-- R133, Table 6.9: where only links of a cupola have failed, the items of its groups in INGEST have ended with them: their FOLDs end
FAILED_LINK. Where an element has failed, the loss of a member decides (R172). -/
def foldsCut (s : State) (p : Plan) (failed : List Failure) (cups : List Nat) : State :=
  let cut (c : Nat) : Bool :=
    let l := failed.filter (s.failureHits p c)
    !l.isEmpty && l.all (fun f => f.port != 255)
  let gids := (s.grd.groups.filter (fun g => g.bound && cups.contains g.cupola && s.gphase g.gid == GPhase.ingest
    && cut g.cupola)).map (fun g => g.gid)
  if gids.isEmpty then s else s.foldsFail gids Fate.link (s.linkFate failed).2

/-- Suspects that are due have been classified: what follows from it at the end of the round (R119, R129, R130, R133, R172, R214).
The items of REPAIRING cupolas end, and the broadcast goes out, at the end of round d + 1 though the classification of an element
itself may wait for a rebuilt tree (R131). -/
def applyClasses (s : State) (p : Plan) (l : List (Failure × Nat)) : State :=
  let s0 := l.foldl (fun (t : State) e => if e.2 = 0 then t else t.logClass e.1.log e.2) s
  let failed := (l.filter (fun e => e.2 == 1 && e.1.port == 255 || e.2 == 2 || e.2 == 3)).map (fun e => { e.1 with cls := e.2 })
  let elems := (failed.filter (fun (f : Failure) => f.port == 255)).map (fun (f : Failure) => f.node)
  let compute := (failed.filter (fun (f : Failure) => f.cls == 2)).map (fun (f : Failure) => f.node)
  let linksLost := (failed.filter (fun (f : Failure) => f.port != 255)).map (fun (f : Failure) => (f.node, f.port))
  let wait := (l.filter (fun e => e.2 == 0)).map Prod.fst
  let s1 := { s0 with rep := { s0.rep with
    deferred := s0.rep.deferred ++ wait, failedNodes := unionL s0.rep.failedNodes elems,
    computeFailed := unionL (s0.rep.computeFailed.filter (fun n => !elems.contains n)) compute
    failedLinks := unionL s0.rep.failedLinks linksLost, queued := s0.rep.queued ++ failed } }
  let cleared := (l.filter (fun e => e.2 == 4)).map Prod.fst
  let back := (s1.cupolasAt CState.repairing).filter (fun c => cleared.any (s1.failureHits p c) && !s1.cupHurt c)
  let s2 := back.foldl (fun (t : State) c => t.setCup c CState.active) s1
  let hit := (s2.cupolasAt CState.active).filter (fun c => failed.any (s2.failureHits p c))
  let s2 := hit.foldl (fun (t : State) c => (t.setCup c CState.repairing).raise F.CUP_EVENT_REPAIR_STARTED c 1) s2
  if failed.isEmpty && wait.isEmpty then
    if s2.g F.REP_STATUS_ENGINE = Eng.classifying && s2.rep.suspects.isEmpty && s2.rep.deferred.isEmpty then s2.nextBatch
    else s2
  else
    let cups := s2.cupolasAt CState.repairing
    let s3 := cups.foldl (fun (t : State) c => t.endRepairing failed c) s2
    let s4 := (s3.foldsCut p failed cups).broadcastFailure failed cups
    let s5 := elems.foldl (fun (t : State) n => (t.memberLost (t.roleAt n)).scalarLost (t.roleAt n)) s4
    let gone := elems.filter (fun n => !compute.contains n)
    let s6 := ((gone.foldl (fun (t : State) n => t.wrapPorts p n false) s5).writeNodes p s5.boundTables).showSpares
    if !failed.isEmpty && s6.g F.REP_STATUS_ENGINE ≤ Eng.classifying then s6.p F.REP_STATUS_ENGINE Eng.selecting else s6

/-- Rounds that SLOW_DETECT adds to every detection bound (R127). -/
def slowRounds (s : State) : Nat := s.g F.REP_STATUS_SLOW_DETECT

/-- FAILURE_CLASSIFICATION (R130): at the end of round d + 1; elements that FAIL_NODE or a missed ACTIVATE declares failed
are classified with them. -/
def failureClassification (s : State) : State :=
  match s.plan.cur with
  | none => s
  | some p =>
    let named := s.rep.declared.filter (fun n => !s.rep.failedNodes.contains n)
    let s0 := named.foldl (fun (t : State) n => t.addSuspect n 255 0) s
    let isDue (f : Failure) : Bool := decide (f.d + 1 + s.slowRounds ≤ s.round) || (named.contains f.node && f.port == 255)
    let due := s0.rep.suspects.filter isDue
    let l := due.map (fun f => (f, if named.contains f.node && f.port == 255 then 1 else s0.classOf true f))
    let rest := s0.rep.suspects.filter (fun f => !isDue f)
    let s1 := { s0 with rep := { s0.rep with suspects := rest, declared := [] } }
    if l.isEmpty then s1 else s1.applyClasses p l

/-- INSTALL_TREE_REBUILD (R131, R104): new tree masks around the failed elements. -/
def installTreeRebuild (s : State) : State := s.writeTrees

/-- DEFERRED_CLASSIFICATION (R131): at the end of round d + 3. -/
def deferredClassification (s : State) : State :=
  match s.plan.cur with
  | none => s
  | some p =>
    let isDue (f : Failure) : Bool := decide (f.d + 3 + s.slowRounds ≤ s.round)
    let due := s.rep.deferred.filter isDue
    let l := due.map (fun f => (f, s.classOf false f))
    let rest := s.rep.deferred.filter (fun f => !isDue f)
    let s1 := { s with rep := { s.rep with deferred := rest } }
    if l.isEmpty then s1 else s1.applyClasses p l

-- The choice (R134, R137, R140)

/-- A failure touches some slot of the tables in force, so that it asks for a repair. -/
def asksRepair (s : State) (p : Plan) (f : Failure) : Bool := s.tables.cupolas.any (fun c => s.failureHits p c f)

/-- Cupolas that a batch touches. -/
def hitBy (s : State) (p : Plan) (l : List Failure) : List Nat := s.tables.cupolas.filter (fun c => l.any (s.failureHits p c))

/-- A variant is valid (R134, R57): its spare is free, nothing on its detour paths has failed, no slot gets two owners, and the
map stays one-to-one. -/
def variantValid (s : State) (p : Plan) (v : Variant) (own : List Nat) : Bool :=
  let t := s.tables.withVariant v
  p.covers v && v.kind != 2 && s.spareFree p v
    && !s.deltasUse p t s.rep.failedNodes.contains s.rep.failedLinks.contains v.slots v.flows
    && slotDeltasFree s.tables own.contains v.slots && !Img.l2pTwofold s.spire t.l2p

/-- Positions of a row that have failed or are substituted (R140). -/
def rowLosses (s : State) (p : Plan) (row : Nat) : Nat :=
  (p.elements.filter (fun e => e.kind == 1 && e.row == row
    && (s.rep.failedNodes.contains (localOf e.node) || s.gi F.DISC_NODE_CLASS (localOf e.node) == 2))).length

/-- The row that a failure has Varlor cut (R140): the losses of an element's row reach the threshold, or a link between two
accelerators of one row fails. -/
def rowDue (s : State) (p : Plan) (f : Failure) : Option Nat :=
  let row (n : Nat) : Option Nat := match p.at n with
    | some e => if e.kind = 1 && e.row ≤ 15 then some e.row else none
    | none => none
  if !p.rowCutOn then none
  else
    match row f.node with
    | none => none
    | some r =>
      if s.rep.rowsCut.contains r then none
      else if f.port = 255 then (if p.rowCut ≠ 0 && p.rowCut ≤ s.rowLosses p r then some r else none)
      else match s.planFar f.node f.port with
        | some e => if row e.1 = some r then some r else none
        | none => none

/-- The variant by which a failure of one element can be served (R134). -/
def validVariant (s : State) (p : Plan) (f : Failure) : Option Variant :=
  if f.port ≠ 255 || (s.rowDue p f).isSome then none
  else
    match p.variantOf (s.roleAt f.node) with
    | some v => if s.variantValid p v (s.hitBy p [f]) then some v else none
    | none => none

/-- The repair by a variant. -/
def variantRepair (s : State) (p : Plan) (f : Failure) (v : Variant) (planned : Bool) : Repair :=
  ⟨s.tables.withVariant v, v.kind, s.hitBy p [f], [], planned, [f], none⟩

/-- The repair that is chosen; its failures' records show the action. -/
def choose (s : State) (r : Repair) : State :=
  let s1 := r.faults.foldl (fun (t : State) f => if r.planned then t else t.logAction f.log r.action) s
  ({ s1 with rep := { s1.rep with chosen := some r } }).p F.REP_STATUS_ENGINE Eng.installing

/-- The failures of a batch touch the cupolas, the spare or the detour paths of the repair being installed (Table 5.6). -/
def meetsInstall (s : State) (p : Plan) (i : Install) (l : List Failure) : Bool :=
  let own (c : Nat) : Bool := i.cupolas.contains c
  l.any (fun f => (s.hitBy p [f]).any own || i.tables.cupolas.any (fun c => own c
    && (if f.port = 255 then usesElement i.tables p c (s.logical f.node) else usesLink i.tables p c (s.logical f.node) f.port)))

/-- A repair meets an install in progress (R115, Tables 2.20 and 5.6): the state after what gives way to the repair. A
repair install that the new failures touch goes back into the batch. -/
def giveWay (s : State) (p : Plan) (i : Install) : State :=
  if s.committed then s
  else if i.kind = 0 then (if s.g F.PLAN_STATUS_STAGED_STATE = 5 then s.cancelActivation 1 else s.cancelInstall)
  else if i.kind = 2 then
    let t := s.cancelInstall
    { t with bell := { t.bell with completionDue := true } }
  else if i.kind = 3 then i.targets.foldl (fun (t : State) n => t.wantSingle n) s.cancelInstall
  else if s.meetsInstall p i s.rep.queued then
    let t := s.cancelInstall
    let u := { t with rep := { t.rep with queued := t.rep.batch ++ t.rep.queued, batch := [], chosen := none } }
    let v := u.p F.REP_STATUS_ENGINE Eng.selecting
    if i.planned then
      match v.rep.resetNode with
      | some _ => ((({ v with rep := { v.rep with resetNode := none } }).p F.REP_RESET_STATE RReset.cancelled).p
          F.REP_RESET_REASON 3)
      | none => v
    else v
  else s

/-- A planned reset is taken up (R148): its variant, or a re-solve. -/
def selectReset (s : State) (p : Plan) (n : Nat) : State :=
  let f : Failure := ⟨n, 255, 0, s.round, 0, 0⟩
  match s.validVariant p f with
  | some v => s.choose (s.variantRepair p f v true)
  | none => ({ s with rep := { s.rep with resolvingReset := true } }).p F.REP_STATUS_ENGINE Eng.resolving

/-- A batch is formed of every failure classified by now, and served by a variant or a re-solve (R134, R137). -/
def formBatch (s : State) (p : Plan) : State :=
  let b := s.rep.queued
  let s1 := { s with rep := { s.rep with batch := b, queued := [], resolvingReset := false } }
  match b.filter (s.asksRepair p) with
  | [] =>
    ({ s1 with rep := { s1.rep with batch := [] } }).nextBatch
  | [f] =>
    match s1.validVariant p f with
    | some v => s1.choose (s1.variantRepair p f v false)
    | none => s1.p F.REP_STATUS_ENGINE Eng.resolving
  | _ => s1.p F.REP_STATUS_ENGINE Eng.resolving

/-- REPAIR_SELECT (R134, R137, Table 5.6). -/
def repairSelect (s : State) : State :=
  match s.plan.cur with
  | none => s
  | some p =>
    let s1 := match s.bell.install with
      | some i => if s.rep.queued.any (s.asksRepair p) then s.giveWay p i else s
      | none => s
    if s1.bell.install.isSome || s1.rep.chosen.isSome then s1
    else if s1.g F.REP_STATUS_ENGINE = Eng.resolving then
      match s1.rep.queued with
      | [f] =>
        match s1.validVariant p f with
        | some v =>
          let t := s1.choose (s1.variantRepair p f v false)
          ({ t with rep := { t.rep with batch := t.rep.batch ++ [f], queued := [] } }).p F.REP_STATUS_ENGINE Eng.resolving
        | none => s1
      | _ => s1
    else if !s1.rep.queued.isEmpty then s1.formBatch p
    else
      match s1.rep.resetNode with
      | some n => if s1.g F.REP_RESET_STATE = RReset.rerouting then s1.selectReset p n else s1
      | none => s1

/-- REPAIR_INSTALL_START (R135, R116, R148): the chosen repair's send phase begins; the elements that its failures name are
no targets. -/
def repairInstallStart (s : State) : State :=
  match s.rep.chosen with
  | none => s
  | some r =>
    if s.installing then s
    else
      let gone := if r.planned then [] else (r.faults.filter (fun f => f.port == 255)).map (fun f => f.node)
      let targets := s.boundNodes.filter (fun n => !gone.contains n && !s.rep.failedNodes.contains n)
      let b := max 2 (changedBound s.tables r.tables)
      s.startInstall 1 r.tables targets r.cupolas r.planned r.action s.round (fun q e => if r.planned then q + e + b else q + e + 2)

-- The re-solve (R137, R140, R145)

/-- R145: a cupola that no repair keeps in shape shrinks, or is held. -/
def canShrink (s : State) (c : Nat) : Bool :=
  match s.template c with
  | some t => t.elastic && decide (t.minRows < s.gi F.CUP_ENTRY_ROWS c)
  | none => false

/-- R145: a REPAIRING cupola enters JOB_HELD. -/
def holdJob (s : State) (c : Nat) : State :=
  ((((s.setCup c CState.held).raise F.CUP_EVENT_JOB_HELD c 1).count .REP_COUNT 5).service c).holdLost c 4

/-- What the matching array's result was asked for: the cupolas of the batch, and every UNBUILT and JOB_HELD one (R146), or those
of a reset's planned repair (R148). -/
def solveFor (s : State) (p : Plan) : List Nat :=
  match s.rep.resolvingReset, s.rep.resetNode with
  | true, some n => s.hitBy p [⟨n, 255, 0, s.round, 0, 0⟩]
  | _, _ => unionL (s.hitBy p s.rep.batch) s.retryCupolas

/-- The rows in which a cupola has lost an element of the batch, or an in-row link. -/
def lostRows (s : State) (p : Plan) (t : Tables) (c : Nat) : List Nat :=
  ((s.rep.batch.filter (s.failureHits p c)).filterMap (fun f =>
    match p.at (if s.rep.rowsCut.isEmpty then f.node else roleOf p t f.node) with
    | some e => if e.kind = 1 then some e.row else none
    | none => none)).eraseDups

/-- R145: a cupola's failed rows are cut without a splice: the elements of those rows carry none of its slots and entries any longer,
and the flows that they source or sink are gone. The way that its other flows take past the row is the matching array's to give;
where it gives none, their entries stand as they are. DESIGN CHOICE (log entry 133). -/
def withoutRows (p : Plan) (t : Tables) (c : Nat) (rows : List Nat) : Tables :=
  let nodes := (p.elements.filter (fun e => e.kind == 1 && rows.contains e.row)).map (fun e => e.node)
  let flows := t.flowsOfCupola c
  let gone := flows.filter (fun f => (t.sourcesOf f ++ t.sinksOf f).any nodes.contains)
  let slot (n e : Nat) : Nat := if slotCupola e = c && (nodes.contains n || gone.contains (slotFlow e)) then 0 else e
  { t with
    sched := t.sched.map (fun (b : SchedBlock) => { b with ports := b.ports.map (fun q => q.map (slot b.node)) })
    flows := t.flows.map (fun (b : FlowBlock) => { b with entries := b.entries.filter (fun e =>
      !(gone.contains (feFlow e) || (nodes.contains b.node && flows.contains (feFlow e)))) }) }

/-- The tables that a shrink installs (R145). -/
def shrinkTables (s : State) (p : Plan) (t : Tables) (cups : List Nat) : Tables :=
  cups.foldl (fun u c => withoutRows p u c (s.lostRows p t c)) t

/-- The repair that a re-solve leaves, if any, is chosen, or waits for a variant that is being installed (Table 5.6). -/
def takeResult (s : State) (r : Repair) : State :=
  if r.cupolas.isEmpty && !r.planned then
    let t := s.rep.batch.foldl (fun (t : State) f => t.logAction f.log 7) s
    ({ t with rep := { t.rep with batch := [] } }).nextBatch
  else if s.rep.chosen.isSome then ({ s with rep := { s.rep with waiting := some r } }).p F.REP_STATUS_ENGINE Eng.installing
  else s.choose r

/-- R145: REPAIRING cupolas that no repair keeps in shape shrink, or are held; those that shrink. -/
def runOut (s : State) (unserved : List Nat) : State × List Nat :=
  let heldNow := unserved.filter (fun c => !s.canShrink c)
  (heldNow.foldl (fun (t : State) c => t.holdJob c) s, unserved.filter s.canShrink)

/-- RESOLVE_COMPLETE (R137, R140, R145, Table 5.6). A result that the array may not give, or that uses what had failed before, is
none: the re-solve goes on. One that uses what has failed since is solved anew with the enlarged batch. -/
def resolveComplete (s : State) (a : Option Assignment) (us : Nat) : State :=
  match s.plan.cur with
  | none => s
  | some p =>
    if s.g F.REP_STATUS_ENGINE ≠ Eng.resolving then s
    else
      let s0 := s.p F.REP_EST_RESOLVE_US us
      let base := match s.bell.install, s.rep.chosen with
        | some i, some _ => if i.kind = 1 then i.tables else s.tables
        | _, some r => r.tables
        | _, none => s.tables
      let own := s0.solveFor p
      let reset := s0.rep.resolvingReset && s0.rep.resetNode.isSome
      let due := (s0.rep.batch.filterMap (s0.rowDue p)).eraseDups
      let can := due.filter (s0.rowCutPossible p)
      let barred := !due.isEmpty && can.isEmpty
      match a with
      | some x =>
        let t := if barred && x.rowCut.isSome then base else base.apply x.l2p x.slots x.flows
        let inRow (c : Nat) : Bool := s0.rep.batch.any (fun f => (s0.rowDue p f).isSome && s0.failureHits p c f)
        let serves := if barred then (if x.rowCut.isSome then [] else x.serves.filter (fun c => !inRow c)) else x.serves
        let freshNode (n : Nat) : Bool := s0.rep.queued.any (fun f => f.port == 255 && f.node == n)
        let freshLink (e : End) : Bool := s0.rep.queued.any (fun f => f.port != 255 && (f.node, f.port) == e)
        let lostNode (n : Nat) : Bool := s0.rep.failedNodes.contains n && !freshNode n || (reset && s0.rep.resetNode == some n)
        let lostLink (e : End) : Bool := s0.rep.failedLinks.contains e && !freshLink e
        let bad := !(barred && x.rowCut.isSome) && (!s0.assignmentOk p base own can true x
          || s0.deltasUse p t lostNode lostLink x.slots x.flows || (!can.isEmpty && x.rowCut.isNone))
        let newly := s0.deltasUse p t freshNode freshLink x.slots x.flows
          || s0.rep.queued.any (fun f => serves.any (fun c => s0.hitsIn p t c f))
        if bad then s0
        else if newly then
          if reset then ({ s0 with rep := { s0.rep with resolvingReset := false } }).p F.REP_STATUS_ENGINE Eng.selecting
          else { s0 with rep := { s0.rep with batch := s0.rep.batch ++ s0.rep.queued, queued := [], enlarged := true } }
        else
          let unserved := if reset then [] else (s0.cupolasAt CState.repairing).filter (fun c => own.contains c && !serves.contains c)
          let (s1, shrunk) := s0.runOut unserved
          let s2 := if unserved.isEmpty then s1 else s1.raise F.REP_EVENT_SPARES_EXHAUSTED 0 unserved.length
          let row := if barred then none else x.rowCut
          let r : Repair := ⟨s0.shrinkTables p t shrunk, if shrunk.isEmpty then 5 else 6, serves ++ shrunk, shrunk, reset,
            s2.rep.batch, row⟩
          let s3 := match row with
            | some n => { s2 with rep := { s2.rep with rowsCut := addOnce n s2.rep.rowsCut } }
            | none => s2
          ({ s3 with rep := { s3.rep with enlarged := false, resolvingReset := false } }).takeResult r
      | none =>
        let s1 := s0.raise F.REP_EVENT_RESOLVE_FAILED 0 1
        if reset then
          let s2 := { s1 with rep := { s1.rep with resetNode := none, resolvingReset := false } }
          let s3 := (s2.p F.REP_RESET_STATE RReset.refused).p F.REP_RESET_REASON 1
          (s3.raise F.REP_EVENT_RESET_REFUSED (s3.g F.REP_RESET_NODE) 1).nextBatch
        else
          let hit := (s1.cupolasAt CState.repairing).filter own.contains
          let (s2, shrunk) := s1.runOut hit
          let s3 := if s2.freeSpares.isEmpty || barred then s2.raise F.REP_EVENT_SPARES_EXHAUSTED 0 hit.length else s2
          s3.takeResult ⟨s3.shrinkTables p base shrunk, 6, shrunk, shrunk, false, s3.rep.batch, none⟩

-- Resets (R147, R148)

/-- An element of this spire that has its place and has not failed. -/
def resettable (s : State) (logical : Nat) : Option Nat :=
  match s.senderNode logical with
  | some n => if s.placedAt n && !s.rep.failedNodes.contains n then some n else none
  | none => none

/-- R147: the element sources or sinks a flow of a cupola in states 2 to 6. -/
def isMember (s : State) (pos : Nat) : Bool :=
  (s.listed .CUP_ENTRY).any (fun e =>
    let st := getBits e.2 0 3
    decide (2 ≤ st) && decide (st ≤ 6) && (s.cupAgents e.1).contains pos)

/-- REP_RESET takes a request. -/
def showReset (s : State) (logical full st reason : Nat) : State :=
  (((s.p F.REP_RESET_NODE logical).p F.REP_RESET_FULL full).p F.REP_RESET_STATE st).p F.REP_RESET_REASON reason

/-- A reset in progress: another is answered with an error response. -/
def resetBusy (s : State) : Bool :=
  let st := s.g F.REP_RESET_STATE
  st == RReset.rerouting || st == RReset.draining

/-- A reset of a member is refused (R147). -/
def refuseReset (s : State) (logical full : Nat) : State :=
  ((s.showReset logical full RReset.refused 2).raise F.REP_EVENT_RESET_REFUSED logical 2).err Status.state 2

/-- RESET_COMPUTE (R147): granted through AG_CTRL. -/
def resetCompute (s : State) (logical : Nat) : State :=
  match s.resettable logical with
  | none => s.err Status.value 0
  | some n =>
    if s.resetBusy then s.err Status.state 0
    else if s.isMember n then s.refuseReset logical 0
    else
      let s1 := (s.showReset logical 0 RReset.granted 0).agCommand n 1 0
      ((s1.raise F.REP_EVENT_RESET_GRANTED logical 1).count .REP_COUNT 6).ok

/-- RESET_FULL (R148): the flows through the element are to move first. -/
def resetFull (s : State) (logical : Nat) : State :=
  match s.resettable logical with
  | none => s.err Status.value 0
  | some n =>
    if s.resetBusy then s.err Status.state 0
    else if s.isMember n then s.refuseReset logical 1
    else
      let s1 := s.showReset logical 1 RReset.rerouting 0
      let s2 := { s1 with rep := { s1.rep with resetNode := some n } }
      (if s2.g F.REP_STATUS_ENGINE = Eng.idle then s2.p F.REP_STATUS_ENGINE Eng.selecting else s2).ok

/-- RESET_GRANT (R148): every heartbeat since A reports the planned repair's epoch. -/
def resetGrant (s : State) : State :=
  match s.rep.resetNode with
  | none => s
  | some n =>
    let live := s.boundNodes.filter (fun m => !s.rep.failedNodes.contains m)
    let all := live.all (fun m => s.rep.beats.any (fun b => b.1 == m && b.2.1 == s.tables.epoch))
    if s.g F.REP_RESET_STATE = RReset.draining && all then
      let s1 := ({ s with rep := { s.rep with resetNode := none, grantedReset := some n } }).p F.REP_RESET_STATE RReset.granted
      ((s1.agCommand n 2 0).raise F.REP_EVENT_RESET_GRANTED (s1.g F.REP_RESET_NODE) 1).count .REP_COUNT 6
    else s

/-- REP_CANCEL_RESET (R148): before the planned repair's commit point. -/
def repCancelReset (s : State) : State :=
  if s.g F.REP_RESET_STATE ≠ RReset.rerouting then s.err Status.state 0
  else
    let mine := s.rep.chosen.any (fun r => r.planned)
    if mine && s.bell.install.any (fun i => i.kind == 1) && s.committed then s.err Status.state 0
    else
      let s1 := if mine && s.bell.install.any (fun i => i.kind == 1) then s.cancelInstall else s
      let s2 := (s1.p F.REP_RESET_STATE RReset.cancelled).p F.REP_RESET_REASON 0
      let s3 := { s2 with rep := { s2.rep with resetNode := none, resolvingReset := false, chosen := if mine then none else s2.rep.chosen } }
      let idle := mine || (s3.rep.chosen.isNone && s3.rep.batch.isEmpty && (s.rep.resolvingReset || s.g F.REP_STATUS_ENGINE ≠ Eng.resolving))
      (if idle then s3.nextBatch else s3).ok

/-- FAIL_NODE (R130): the element is classified failed at the end of the round. -/
def failNode (s : State) (logical : Nat) : State :=
  match s.senderNode logical with
  | none => s.err Status.value 0
  | some n =>
    if s.placedAt n then ({ s with rep := { s.rep with declared := addOnce n s.rep.declared } }).ok
    else s.err Status.value 0

/-- FLAP_HOLD_CLEAR (R132). -/
def flapHoldClear (s : State) : State :=
  let s1 := s.rep.flapHeld.foldl (fun (t : State) e => t.portCfg e.1 e.2 0 false) s
  ({ s1 with rep := { s1.rep with flapHeld := [], flaps := [] } }).p F.REP_EVENT_FLAP_HOLD 0

end State

-- The meanings

/-- HEARTBEAT_RECEIVE (R126). -/
def execHeartbeatReceive (hb : Heartbeat) (s : State) : Host.Outcome State Fault Refusal := finish ((s.heartbeatReceive hb).rereadPorts hb)
/-- FAULT_NOTICE (R128). -/
def execFaultNotice (n : Notice) (s : State) : Host.Outcome State Fault Refusal := finish (s.faultNotice n)
/-- FAILURE_DETECTION (R129). -/
def execFailureDetection (s : State) : Host.Outcome State Fault Refusal := finish s.failureDetection
/-- FAILURE_CLASSIFICATION (R130). -/
def execFailureClassification (s : State) : Host.Outcome State Fault Refusal := finish (s.after s.failureClassification)
/-- INSTALL_TREE_REBUILD (R131). -/
def execInstallTreeRebuild (s : State) : Host.Outcome State Fault Refusal := finish s.installTreeRebuild
/-- DEFERRED_CLASSIFICATION (R131). -/
def execDeferredClassification (s : State) : Host.Outcome State Fault Refusal := finish (s.after s.deferredClassification)
/-- REPAIR_SELECT (R134). -/
def execRepairSelect (s : State) : Host.Outcome State Fault Refusal := finish s.repairSelect
/-- REPAIR_INSTALL_START (R135). -/
def execRepairInstallStart (s : State) : Host.Outcome State Fault Refusal := finish s.repairInstallStart
/-- RESOLVE_COMPLETE (R137). -/
def execResolveComplete (a : Option Assignment) (us : Nat) (s : State) : Host.Outcome State Fault Refusal :=
  finish (s.resolveComplete a us)
/-- RESET_COMPUTE (R147). -/
def execResetCompute (logical : Nat) (s : State) : Host.Outcome State Fault Refusal := finish (s.resetCompute logical)
/-- RESET_FULL (R148). -/
def execResetFull (logical : Nat) (s : State) : Host.Outcome State Fault Refusal := finish (s.resetFull logical)
/-- RESET_GRANT (R148). -/
def execResetGrant (s : State) : Host.Outcome State Fault Refusal := finish s.resetGrant
/-- REP_CANCEL_RESET (R148). -/
def execRepCancelReset (s : State) : Host.Outcome State Fault Refusal := finish s.repCancelReset
/-- FAIL_NODE (R130). -/
def execFailNode (logical : Nat) (s : State) : Host.Outcome State Fault Refusal := finish (s.failNode logical)
/-- FLAP_HOLD_CLEAR (R132). -/
def execFlapHoldClear (s : State) : Host.Outcome State Fault Refusal := finish s.flapHoldClear

end Sys2Proof.Machine
end

