-- ==== Sys2Proof/Machine/Capacity.lean ====
section
/-! DEFINITION. What a loss of bonded SRAM or of LPDDR5X packages takes from the current plan (R54, R164, R165, R421). -/
namespace Sys2Proof.Machine

namespace State

-- Bonded SRAM (R164, R421, Table 17.3)

/-- MiB of the bonded SRAM that the current plan partitions, less the bank groups that its regions have lost. -/
def partitioned (s : State) : Nat :=
  match s.plan.cur with
  | none => 0
  | some p => p.fold + p.graph + p.sentinel + p.stage - 80 * s.pwr.regionLoss.length

/-- Groups, highest ID first, that R164 takes until the fold requirement of the others fits in `room` bytes: those that
declare FOLD_DIRECT at their direct requirement, then those that do not, which no longer fit. -/
def foldVictims (p : Plan) (room : Nat) : List Nat :=
  let byId := p.guard.mergeSort (fun a b => decide (b.gid ≤ a.gid))
  let need (l : List Nat) : Nat := p.guard.foldl (fun n g =>
    n + (if !l.contains g.gid then p.foldFull g else if hasBit g.modes 3 then p.foldDirect g else 0)) 0
  let pick (l : List Nat) (g : GuardRec) : List Nat := if need l ≤ room then l else l ++ [g.gid]
  let direct := (byId.filter (fun g => hasBit g.modes 3)).foldl pick []
  (byId.filter (fun g => !hasBit g.modes 3)).foldl pick direct

/-- R164: the FOLD region has shrunk. -/
def shrinkFold (s : State) (p : Plan) : State :=
  let room := p.fold * mib - 80 * mib * s.pwr.regionLoss.count 0
  let due := (foldVictims p room).filter (fun gid =>
    s.gi F.GRD_GROUP_DIRECT gid == 0 && s.gstate gid != GState.held)
  let s1 := { s with grd := { s.grd with directPending := due.foldl (fun l g => addOnce g l) s.grd.directPending } }
  s1.directFoldSwitch

/-- A region loses a bank group (Table 17.3). -/
def shrinkRegion (s : State) (region : Nat) : State :=
  match s.plan.cur with
  | none => s
  | some p =>
    let s1 := { s with pwr := { s.pwr with regionLoss := s.pwr.regionLoss ++ [region] } }
    if region = 0 then s1.shrinkFold p
    else if region = 1 then s1.p F.GRAPH_RING_CFG_CAP_LOG2 (p.ringLog (s1.pwr.regionLoss.count 1))
    else if region = 2 then { s1 with sen := { s1.sen with now := s1.sen.now.take s1.senRoom } }
    else s1.sentinelEngage 2

/-- The regions of the current plan that still hold bank groups. -/
def regionsLeft (s : State) : List Nat :=
  match s.plan.cur with
  | none => []
  | some p =>
    ([(0, p.fold), (1, p.graph), (2, p.sentinel), (3, p.stage)].filter (fun e =>
      decide (80 * s.pwr.regionLoss.count e.1 < e.2))).map Prod.fst

-- LPDDR5X packages (R54, R165)

/-- The package set of a package (R165). -/
def packageSet (n : Nat) : Nat := if n ≤ 20 then 0 else if n ≤ 41 then 1 else 2

/-- A lane held here: a group's own (0, group, lane), or one kept for a peer (1 + spire, group, lane). -/
abbrev LaneKey := Nat × Nat × Nat

/-- The lanes of number `j` held here, each with its bytes: local lanes of the groups, in order, then lanes kept for peers. Lane 0 of a
group with m = 1 is none of them. -/
def laneItems (p : Plan) (j : Nat) : List (LaneKey × Nat) :=
  p.guard.filterMap (fun g => if g.m != 1 && g.lanes.getD j 0 = 1 then some ((0, g.gid, j), g.shard) else none)
    ++ p.lends.filterMap (fun l => if l.lane = j then some ((1 + l.spire, l.group, j), l.size) else none)

/-- Bytes of a package set that take lanes: its packages that are left, less what the groups with m = 1 spread over all of them. -/
def setRoom (p : Plan) (retired : List Nat) (j : Nat) : Nat :=
  let left := (List.range 64).filter (fun n => !retired.contains n)
  let mine := (left.filter (fun n => packageSet n == j)).length
  let spread := p.guard.foldl (fun n g => if g.m = 1 && g.lanes.getD 0 0 = 1 then n + g.shard else n) 0
  mine * 64 * gib - spread * mine / max 1 left.length

/-- Lanes in turn take the room of a set: which lie in it, and what does not fit, with the room that is left. -/
def fillSet (room : Nat) : List (LaneKey × Nat) → List LaneKey × List (LaneKey × Nat) × Nat
  | [] => ([], [], room)
  | (k, n) :: rest =>
    let fits := min n room
    let (inside, beyond, left) := fillSet (room - fits) rest
    ((if fits = 0 then inside else k :: inside), (if fits < n then (k, n - fits) :: beyond else beyond), left)

/-- R165: the package sets that hold a byte of each lane: lane j lies in set j, and what that set does not hold in the others, in
ascending order. -/
def lanePlaces (p : Plan) (retired : List Nat) : List (LaneKey × Nat) :=
  let own := (List.range 3).map (fun j => fillSet (setRoom p retired j) (laneItems p j))
  let inside := (List.range 3).flatMap (fun j => (own.getD j ([], [], 0)).1.map (fun k => (k, j)))
  let rest := (List.range 3).flatMap (fun j => (own.getD j ([], [], 0)).2.1)
  let more := (List.range 3).foldl (fun (acc : List (LaneKey × Nat) × List (LaneKey × Nat)) j =>
    let (k, beyond, _) := fillSet (own.getD j ([], [], 0)).2.2 acc.2
    (acc.1 ++ k.map (fun x => (x, j)), beyond)) ([], rest)
  inside ++ more.1

/-- R165: a lane may have a byte on a package: with m = 1 on every one, else in the sets that hold it. -/
def laneOn (places : List (LaneKey × Nat)) (m : Nat) (k : LaneKey) (package : Nat) : Bool :=
  m == 1 || places.contains (k, packageSet package)

/-- EXPORT_STAGE bytes in use by a task. -/
def exportUse (s : State) (idx : Nat) : Nat :=
  let sum (l : List (Nat × Bytes)) : Nat := (l.filter (fun e => e.1 == idx)).foldl (fun n e => n + e.2.length) 0
  sum s.graph.stage + sum s.graph.packages

/-- R54: export items that no longer fit in EXPORT_STAGE end FAILED_CAPACITY. The spec does not say which; those of the highest resident
index end first. DESIGN CHOICE (log entry 134). -/
def trimExport (s : State) (room : Nat) : State :=
  let ids := ((s.graph.stage ++ s.graph.packages).map Prod.fst).eraseDups.mergeSort (fun a b => decide (a ≤ b))
  let keep := ids.foldl (fun (acc : Nat × List Nat) i =>
    let n := acc.1 + s.exportUse i
    (n, if n ≤ room then acc.2 else acc.2 ++ [i])) (0, [])
  s.endTasks (keep.2.map (fun i => (i, Fate.capacity, 2)))

/-- Cupolas that are at work. -/
def cupolaLive (s : State) (c : Nat) : Bool :=
  let st := s.gi F.CUP_ENTRY_STATE c
  st == CState.active || st == CState.repairing

/-- R54: `n` GiB that the plan no longer has come from its declared margin, then from EXPORT_STAGE, and then from its jobs: those of
the cupolas whose guard groups `lost` parity are held. -/
def takeCapacity (s : State) (p : Plan) (n : Nat) (lost : List Nat) : State :=
  let margin := s.g F.PLAN_CAPACITY_MARGIN_LEFT_GIB
  let s1 := s.p F.PLAN_CAPACITY_MARGIN_LEFT_GIB (margin - n)
  let excess := n - margin
  let stage := p.exportStage - s.pwr.exportLost
  let took := min excess stage
  let s2 := { s1 with pwr := { s1.pwr with exportLost := s1.pwr.exportLost + took } }
  let s3 := if took = 0 then s2 else s2.trimExport ((stage - took) * gib)
  if excess ≤ stage then s3
  else
    let s4 := (s3.p F.PLAN_STATUS_SHORT 1).service 0
    let cups := (lost.filterMap (fun gid => (s.group gid).map (fun g => g.cupola))).eraseDups
    (cups.filter s4.cupolaLive).foldl holdJob s4

/-- Groups whose local lanes are not all current. -/
def lanesWanting (s : State) : List Nat :=
  (s.grd.groups.filter (fun g => g.bound && (List.range g.rcd.m).any (fun j => g.rcd.lanes.getD j 0 == 1 && !g.current.contains j))).map
    (fun g => g.gid)

/-- A plan that has become current although the capacity fell below its need at or after the commit point (Table 2.20): R54 takes what
the memory lacks, R421 what the bonded SRAM lacks; the regions that the lost bank groups lie in are open. -/
def meetShortage (s : State) (p : Plan) : State :=
  let lack := ceilDiv (p.dramNeed - s.dramCap) gib
  let s1 := if lack = 0 then s else s.takeCapacity p lack s.lanesWanting
  (List.range (ceilDiv (p.sramDeficit (fun _ => false) s.sramCap) (80 * mib))).foldl (fun (t : State) _ =>
    let left := t.regionsLeft
    if left.isEmpty then t
    else
      let (n, u) := t.draw
      u.shrinkRegion (left.getD (Config.freeValue n % left.length) 0)) s1

end State

end Sys2Proof.Machine
end

