-- ==== Sys2Proof/Machine/Activation.lean ====
section
/-! DEFINITION. The boundary of an install's round A at Varlor (R68, R90, R109 to R119, R143, R145, R188, R327): a plan
becomes current, held cupolas keep their tables, repaired cupolas return. -/
namespace Sys2Proof.Machine

/-- R112: one slot or flow entry of the tables in force after A: the old one where it or the new one belongs to a held
cupola. -/
def keepOld (held : List Nat) (cup : Nat → Nat) (old new : Nat) : Nat :=
  if held.contains (cup old) || held.contains (cup new) then old else new

/-- The slots of a port after A. -/
def heldSlots (held old new : List Nat) : List Nat :=
  (List.range (max old.length new.length)).map (fun i => keepOld held slotCupola (old.getD i 0) (new.getD i 0))

/-- The flow entries of an agent after A: those of held flows are the old ones. -/
def heldEntries (held : List Nat) (cup : Nat → Nat) (old new : List Nat) : List Nat :=
  old.filter (fun e => held.contains (cup (feFlow e))) ++ new.filter (fun e => !held.contains (cup (feFlow e)))

/-- R112: the tables in force after A with a hold set: held cupolas on their old entries, everything else on the new ones. -/
def Tables.mixed (old new : Tables) (held : List Nat) : Tables :=
  if held.isEmpty then new
  else
    let cup (f : Nat) : Nat := let c := old.cupolaOfFlow f; if c = 0 then new.cupolaOfFlow f else c
    let sched := new.sched.map (fun (b : SchedBlock) =>
      let ports := (List.range (max b.ports.length (old.portsOf b.node).length)).map (fun q =>
        heldSlots held (old.slotsOf b.node q) (b.ports.getD q []))
      { b with ports := ports })
    let flows := new.flows.map (fun (b : FlowBlock) => { b with entries := heldEntries held cup (old.flowsOf b.node) b.entries })
    { new with sched := sched, flows := flows }

namespace State

-- Guard groups (R152, R188)

/-- A group takes the record that a plan gives it: no lane is current, and a bound one is EXPOSED (R188). -/
def takeRecord (s : State) (g : Group) (r : GuardRec) : State :=
  let s1 := (s.updGroup g.gid (fun x => { x with rcd := r, parity := [], regions := [], lentDue := [], next := none })).setCurrent g.gid []
  let s2 := s1.showSpill
  if g.bound then s2.expose g.gid else s2

/-- R188: a plan activation changes a group's record. A group in INGEST first rolls back under R173; it is EXPOSED at once, and what is
under way goes by the earlier record until it has ended (Table 1.5): the new one is taken when the group is QUIET. DEDUCED (log entry
142). -/
def changeGroup (s : State) (g : Group) (r : GuardRec) : State :=
  let gid := g.gid
  let s1 := if g.bound && s.gphase gid == GPhase.ingest then s.requestRollback g.job (s.recovery gid) false else s
  if g.bound && s1.gphase gid ≠ GPhase.quiet then (s1.updGroup gid (fun x => { x with next := some r })).expose gid
  else s1.takeRecord g r

/-- Groups that are QUIET take the records that waited for it. -/
def takeRecords (s : State) : State :=
  s.grd.groups.foldl (fun (t : State) g =>
    match g.next with
    | some r => if t.gphase g.gid = GPhase.quiet then t.takeRecord g r else t
    | none => t) s

/-- The guard groups follow the plan: new ones are IDLE and unbound, dropped ones are UNUSED, changed ones EXPOSED. -/
def loadGroups (s : State) (p : Plan) : State :=
  let gone := s.grd.groups.filter (fun g => !p.guard.any (fun r => r.gid == g.gid))
  let s1 := gone.foldl (fun (t : State) g =>
    let u := ((t.rst .GRD_GROUP 0 g.gid).rst .GRD_GROUP_STEP 0 g.gid).rst .GRD_GROUP_PROG 0 g.gid
    { u with grd := { u.grd with groups := u.grd.groups.filter (fun x => x.gid != g.gid) } }) s
  p.guard.foldl (fun (t : State) r =>
    match t.group r.gid with
    | none =>
      let u := { t with grd := { t.grd with groups := t.grd.groups ++ [Group.fresh r] } }
      u.setGState r.gid GState.idle 0
    | some g =>
      if g.next.isNone && { g.rcd with modes := r.modes } = r then t.updGroup r.gid (fun x => { x with rcd := r }) else t.changeGroup g r) s1

-- The plan becomes current (R68, R69)

/-- The roles of Varlor's own ports (Table 2.5); dark ports are unpowered (R51). -/
def setRoles (s : State) (p : Plan) : State :=
  (List.range 48).foldl (fun (t : State) n =>
    let role := match p.ports[n]? with | some r => r.role | none => 0
    let st := t.gi F.PORT_STATUS_STATE n
    if st = 6 then t
    else
      let t1 := t.pi F.PORT_STATUS_ROLE n role
      let t2 := if role = 0 then (t1.pi F.PORT_STATUS_STATE n 0).pi F.PORT_STATUS_LANES n 0
        else if role != 0 && st = 0 then t1.pi F.PORT_STATUS_STATE n 1 else t1
      t2.bindPort n role (t2.gi F.PORT_STATUS_STATE n == 2)) s

/-- The figures of a plan that has become current (R162, R204, Tables of chapters 2, 6, 7, 8 and 17). -/
def showPlan (s : State) (p : Plan) : State :=
  let s1 := ((s.p F.PLAN_EPOCH_CURRENT p.tables.epoch).p F.PLAN_STATUS_CUR_VALID 1).p F.PLAN_STATUS_SHORT 0
  let s2 := (List.range 4).foldl (fun (t : State) i => t.pi F.PLAN_DIGEST_DIGEST i (p.digest.getD i 0)) s1
  let s3 := (s2.p F.PLAN_CAPACITY_MARGIN_LEFT_GIB p.margin).p F.PWR_STATUS_CEILING p.ceiling
  let s4 := (s3.p F.GRD_FOLD_NEED_BYTES (p.foldNeed (fun _ => false))).p F.GRD_FOLD_DIRECT_BYTES
    (p.foldNeed (fun g => hasBit g.modes 3))
  let s5 := (s4.p F.SEN_STATUS_RULES p.rules.length).p F.SEN_STATUS_TENSORS p.tensors.length
  (s5.p F.GRAPH_RING_CFG_CAP_LOG2 (p.ringLog 0)).p F.GRAPH_RING_CFG_JOURNALLED (if p.journal = 0 then 0 else 1)

/-- The image becomes the current plan, and the staged slot empties (R68, Table 2.19); debug lockout engages under a
confidential plan (R348). It is retained in flash (R415). A capacity that has fallen below its need is met by R54 (Table 2.20). -/
def becomeCurrent (s : State) (p : Plan) : State :=
  let uses (q : Plan) : Bool := s.graph.tasks.any (fun t => t.epoch == q.tables.epoch)
    || s.grd.groups.any (fun g => g.epoch == q.tables.epoch)
  let s1 := { s with
    plan := { s.plan with cur := some p, old := (s.plan.cur.toList ++ s.plan.old).filter uses, staged := none, bytes := [], len := 0, firstPlan := false, verified := none }
    pwr := { s.pwr with
      retained := some (p, p.tables.epoch), retainedImage := s.plan.bytes, retainedLen := s.plan.len, regionLoss := [], exportLost := 0 } }
  let s2 := ((s1.p F.PLAN_STATUS_STAGED_STATE 0).p F.PLAN_EPOCH_STAGED 0).p F.PLAN_STATUS_STANDBY_AGREE 0
  let s3 := (((((s2.showPlan p).setRoles p).loadGroups p).startHops).lanternRole).meetShortage p
  if p.confidentialFlag then s3.p F.KEY_STATUS_DEBUG_LOCKED 1 else s3

/-- A position of the current binding is served (R85). -/
def served' (s : State) (n : Nat) : Bool := s.boundClass (localOf n) && !s.rep.failedNodes.contains (localOf n)

/-- The shape of a cupola's entry as a plan gives it; state, job and hold stay. -/
def shapeCupola (s : State) (p : Plan) (t : Tables) (c : Nat) : State :=
  let members := t.memberCount p c
  let (rows, cols, id) := match p.templateOf c with | some x => (x.rows, x.cols, x.id) | none => (0, 0, 0)
  let s1 := (((s.pi F.CUP_ENTRY_SHRUNK c 0).pi F.CUP_ENTRY_ROW_WRAP_OPEN c 0).pi F.CUP_ENTRY_COL_WRAP_OPEN c 0).pi
    F.CUP_ENTRY_ROWS c rows
  ((s1.pi F.CUP_ENTRY_COLS c cols).pi F.CUP_ENTRY_MEMBERS c members).pi F.CUP_JOB_TEMPLATE c id

/-- R119: the new plan carries the state of each cupola that it keeps; one that it drops is ABSENT, and a new one VACANT, or
UNBUILT where a position or link that it needs is not served. -/
def carryCupolas (s : State) (p : Plan) (t : Tables) : State :=
  let new := t.cupolas
  let gone := ((s.listed .CUP_ENTRY).map Prod.fst).filter (fun c => !new.contains c)
  let s1 := gone.foldl (fun (u : State) c => (u.rst .CUP_ENTRY 0 c).rst .CUP_JOB 0 c) s
  let lostNodes := (p.elements.filter (fun e => !e.adoptable && !s1.served' e.node)).map (fun e => e.node)
  let lostLinks := s1.lostLinks p ++ s1.rep.failedLinks
  new.foldl (fun (u : State) c =>
    if u.cupState c = CState.absent then
      let bad := lostNodes.any (fun n => usesElement t p c n) || lostLinks.any (fun e => usesLink t p c (u.logical e.1) e.2)
      u.startCupola p t c (if bad then CState.unbuilt else CState.vacant)
    else u.shapeCupola p t c) s1

/-- R90, R327: the round length of the new plan from round A on. -/
def changeRound (s : State) (code a : Nat) : State :=
  if code = s.g F.BELL_STATUS_ROUND_CODE then s
  else
    let start := s.g F.LANT_ROUND_BASE_TIME_T_BASE + (a - s.g F.BELL_ROUND_BASE_N_BASE) * s.roundNs
    let s1 := ((s.p F.LANT_ROUND_BASE_TIME_T_BASE start).p F.BELL_ROUND_BASE_N_BASE a).p F.BELL_STATUS_ROUND_CODE code
    let least := alarmFloor (s1.g F.BELF_CFG_REPEAT) s1.roundNs
    if s1.gi F.BELF_ETH_BUDGET_RATE 0 < least then
      (s1.pi F.BELF_ETH_BUDGET_RATE 0 least).record 0x0008 3 (sourceOf F.BELF_EVENT_SHED) 0 (leBytes 8 least)
    else s1

-- Fenced stragglers, and what fails the new tables

/-- Elements that count as failed from A on: fenced stragglers (R113, R116); their failures go to the repair engine. -/
def fenceFailed (s : State) (l : List Nat) : State :=
  l.foldl (fun (t : State) n =>
    let f : Failure := ⟨n, 255, 0, t.round, 1, 0⟩
    let (u, j) := (t.pi F.BELL_AGENT_FENCED n 1).logFailure f 1 0
    let f := { f with log := j }
    { u with rep := { u.rep with failedNodes := addOnce n u.rep.failedNodes, queued := u.rep.queued ++ [f] } }) s

/-- Failures that have not returned and that touch the new plan's tables are served from those (Table 2.20). -/
def requeueFailures (s : State) (p : Plan) : State :=
  let nodes := s.rep.failedNodes.map (fun n => (⟨n, 255, 0, s.round, if s.rep.computeFailed.contains n then 2 else 1, 0⟩ : Failure))
  let links := s.rep.failedLinks.map (fun e => (⟨e.1, e.2, Cause.portDown, s.round, 3, 0⟩ : Failure))
  let l := (nodes ++ links).filter (fun f => s.asksRepair p f
    && !(s.rep.queued.any (fun q => q.node == f.node && q.port == f.port)))
  l.foldl (fun (t : State) f =>
    let (u, j) := t.logFailure f f.cls 0
    let f := { f with log := j }
    { u with rep := { u.rep with queued := u.rep.queued ++ [f] } }) s

/-- ACTIVE cupolas that a queued failure touches are REPAIRING, and the engine goes on to choose. -/
def meetQueued (s : State) (p : Plan) : State :=
  if s.rep.queued.isEmpty then s
  else
    let hit := (s.cupolasAt CState.active).filter (fun c => s.rep.queued.any (s.failureHits p c))
    let s1 := hit.foldl (fun (t : State) c => (t.setCup c CState.repairing).raise F.CUP_EVENT_REPAIR_STARTED c 1) s
    if s1.g F.REP_STATUS_ENGINE ≤ Eng.classifying then s1.p F.REP_STATUS_ENGINE Eng.selecting else s1

-- The kinds of install

/-- Stragglers that affect no cupola, in either bank, receive their tables alone (R111). -/
def leaveStragglers (s : State) (p : Plan) (old : Tables) (i : Install) : State :=
  let late := i.targets.filter (fun n => !isPrepared (s.gi F.BELL_AGENT_STATE n) && !i.fenced.contains n)
  let use (n : Nat) : Bool := (unionL old.cupolas i.tables.cupolas).any (fun c => affects p old i.tables c (s.logical n))
  (late.filter (fun n => !use n)).foldl (fun (t : State) n => t.wantSingle n) s

/-- R83, R87: a new plan's activation classes each position by its element's present census. -/
def freshClasses (s : State) (p : Plan) : State :=
  p.elements.foldl (fun (t : State) e =>
    if t.gi F.DISC_CENSUS_USABLE (localOf e.node) = 0 then t else t.pi F.DISC_NODE_TRANSIT_ONLY (localOf e.node) 0) s

/-- A plan install activates: the plan becomes current unless it already was (R69), held cupolas keep the earlier tables. -/
def activatePlan (s : State) (i : Install) (a : Nat) : State :=
  let old := s.tables
  let armed := s.g F.PLAN_STATUS_STAGED_STATE = 5
  let s1 := match s.plan.staged with
    | some p =>
      if armed then
        let t := { s with plan := { s.plan with earlier := if i.held.isEmpty then none else s.plan.cur } }
        (t.changeRound i.tables.code a).becomeCurrent p
      else s
    | none => s
  let s2 := if armed then s1 else s1.changeRound i.tables.code a
  let s3 := { s2 with bell := { s2.bell with
    tables := some (old.mixed i.tables i.held), heldTables := if i.held.isEmpty then none else some old,
    completionDue := !i.held.isEmpty } }
  let s4 := match s3.plan.cur with
    | some p => (s3.setHeld i.held).leaveStragglers p old i
    | none => s3.setHeld i.held
  match s4.plan.cur with
  | none => s4
  | some p =>
    let s5 := (if armed then (s4.freshClasses p).carryCupolas p s4.tables else s4).setHeld i.held
    let s6 := (s5.fenceFailed i.fenced).requeueFailures p
    (((s6.writeNodes p s6.tables).evaluate p).showSpares).meetQueued p

/-- A cupola that a repair serves: back to ACTIVE, or built (Table 5.1); a shrunk one is a row shorter (R145), and one whose ring
used a lost cross-connect, under the tables before, runs open (R143). -/
def repairCupola (s : State) (p : Plan) (old : Tables) (r : Repair) (c : Nat) : State :=
  let st := s.cupState c
  let s1 :=
    if st = CState.unbuilt then s.setCup c CState.vacant
    else if (st = CState.repairing || st = CState.held) && !s.cupHurt c && (s.retireOf c).isNone then
      (s.setCup c CState.active).raise F.CUP_EVENT_REPAIRED c 1
    else s
  let s2 := if r.shrunk.contains c then
      let t := (s1.pi F.CUP_ENTRY_ROWS c (s1.gi F.CUP_ENTRY_ROWS c - 1)).pi F.CUP_ENTRY_MEMBERS c (r.tables.memberCount p c)
      (((t.pi F.CUP_ENTRY_SHRUNK c 1).raise F.CUP_EVENT_SHRUNK c 1).count .REP_COUNT 4).holdLost c 5
    else s1
  s2.openWrap p old ((r.faults.filter (fun (f : Failure) => f.port == 255)).map (fun (f : Failure) => f.node)) c

/-- A chosen repair has activated (R134 to R145, R148); `old` are the tables before it. -/
def finishRepair (s : State) (p : Plan) (old : Tables) (r : Repair) : State :=
  let rest := s.rep.batch.filter (fun (f : Failure) => !r.faults.contains f)
  let waiting := s.rep.waiting
  let s0 := { s with rep := { s.rep with batch := rest, chosen := waiting, waiting := none, beats := [] } }
  if r.planned then
    (s0.p F.REP_RESET_STATE RReset.draining).nextBatch
  else
    let s1 := r.cupolas.foldl (fun (t : State) c => t.repairCupola p old r c) s0
    let s2 := if r.action ≤ 4 then (s1.raise F.REP_EVENT_PRECOMPILED 0 1).count .REP_COUNT 1
      else (s1.raise F.REP_EVENT_RESOLVED 0 1).count .REP_COUNT 2
    let s3 := match r.rowCut with
      | some row => (s2.raise F.REP_EVENT_ROW_CUT row 1).count .REP_COUNT 3
      | none => s2
    if waiting.isSome then s3.p F.REP_STATUS_ENGINE Eng.installing
    else if !rest.isEmpty then s3.p F.REP_STATUS_ENGINE Eng.resolving
    else s3.nextBatch

/-- A repair install activates; one that only restores a GUARD layout (R177) has no chosen repair. -/
def activateRepair (s : State) (i : Install) : State :=
  let s1 := { s with bell := { s.bell with tables := some i.tables } }
  match s1.plan.cur with
  | none => s1
  | some p =>
    let s2 := match s1.rep.chosen with
      | some r => if r.tables = i.tables && r.action = i.action then s1.finishRepair p s.tables r else s1
      | none => s1
    let s3 := (s2.fenceFailed i.fenced).writeNodes p i.tables
    ((s3.evaluate p).showSpares).meetQueued p

/-- A completion install activates (R114): the cupolas that stay held go on to the next one. -/
def activateCompletion (s : State) (i : Install) : State :=
  let left := i.cupolas.filter i.held.contains
  let s1 := { s with
    bell := { s.bell with
      tables := some (s.tables.mixed i.tables left), heldTables := if left.isEmpty then none else s.bell.heldTables
      completionDue := !left.isEmpty }
    plan := { s.plan with earlier := if left.isEmpty then none else s.plan.earlier } }
  let s2 := s1.setHeld left
  match s2.plan.cur with
  | none => s2
  | some p =>
    let s3 := s2.fenceFailed i.fenced
    ((s3.writeNodes p s3.tables).showSpares).meetQueued p

/-- A single-agent install activates: its agent carries tables again. -/
def activateSingle (s : State) : State := s.showSpares.startRetry

/-- Cupolas whose GUARD layout waits for the end of an install (R177). -/
def nextRestore (s : State) : State :=
  match s.rep.restores with
  | [] => s
  | c :: l => ({ s with rep := { s.rep with restores := l } }).restoreLayout c

/-- INSTALL_ACTIVATION (R109): the boundary of round A. -/
def installActivation (s : State) : State :=
  match s.bell.install with
  | none => s
  | some i =>
    let a := s.g F.BELL_ACT_ROUND_ROUND
    if !s.committed || a = 0 || s.round < a then s
    else
      let ready := i.targets.filter (fun n => isPrepared (s.gi F.BELL_AGENT_STATE n))
      let s0 := { s with bell := { s.bell with recentAt := a, recent := ready } }
      let s1 := if i.kind = 0 then s0.activatePlan i a else if i.kind = 1 then s0.activateRepair i
        else if i.kind = 2 then s0.activateCompletion i else s0.activateSingle
      let s2 := ((s1.endInstall.raise F.BELL_EVENT_INSTALL_DONE i.kind 1).count .BELL_COUNT 3).writeAllowances
      s2.showRepairEst.nextRestore

end State

-- The meaning

/-- INSTALL_ACTIVATION (R109). -/
def execInstallActivation (s : State) : Host.Outcome State Fault Refusal := finish (s.after s.installActivation)

end Sys2Proof.Machine
end

