-- ==== Sys2Proof/Machine/PlanStore.lean ====
section
/-! DEFINITION. The staged plan (R61 to R69, Tables 2.19 and 2.20): loading, verification, activation, abort. -/
namespace Sys2Proof.Machine

-- States of the staged slot (Table 2.19)
namespace Slot
abbrev empty : Nat := 0
abbrev loading : Nat := 1
abbrev verifying : Nat := 2
abbrev admitted : Nat := 3
abbrev refused : Nat := 4
abbrev armed : Nat := 5
end Slot

/-- An agent's union of active and new flow entries is at most 16,384, identical entries counted once (R108). -/
def unionFits (old new : Tables) (node : Nat) : Bool :=
  let a := old.flowsOf node
  let b := (new.flowsOf node).filter (fun e => !a.contains e)
  decide (a.length + b.length ≤ 16384)

namespace State

/-- The state of the staged slot. -/
def slotState (s : State) : Nat := s.g F.PLAN_STATUS_STAGED_STATE

/-- The staged slot without content. -/
def clearSlot (s : State) : State :=
  let s1 := { s with plan := { s.plan with bytes := [], len := 0, staged := none, verified := none } }
  (((s1.p F.PLAN_EPOCH_STAGED 0).p F.PLAN_STATUS_STANDBY_AGREE 0).p F.PLAN_EARLIEST_ROUND 0)

/-- LOAD_BEGIN (R61, R67): the slot's content goes, and its length is PLAN_LOAD_LEN. -/
def loadBegin (s : State) : State :=
  let st := s.slotState
  if st = Slot.verifying || st = Slot.armed then s.err Status.state 0
  else if s.g F.PLAN_LOAD_LEN_LEN > 268435456 then s.err Status.value 0
  else
    let s1 := s.clearSlot
    let s2 := { s1 with plan := { s1.plan with len := s.g F.PLAN_LOAD_LEN_LEN } }
    let s3 := ((s2.wr .PLAN_ERR 0 0 0).wr .PLAN_ERR_OFFSET 0 0 0).wr .PLAN_RATE_EXCESS 0 0 0
    (s3.p F.PLAN_STATUS_STAGED_STATE Slot.loading).ok

/-- A plan segment (R61): bytes at an offset of the staged slot. -/
def planSegmentAt (s : State) (off : Nat) (bs : Bytes) : State :=
  if s.slotState ≠ Slot.loading then s.err Status.state 0
  else if s.plan.len < off + bs.length then s.err Status.value 0
  else if 8192 < bs.length then s.err Status.malformed 0
  else ({ s with plan := { s.plan with bytes := s.plan.bytes.write off bs } }).ok

/-- VERIFY (R63, R67): PLAN snoops start anew (R254). -/
def verify (s : State) : State :=
  if s.slotState ≠ Slot.loading then s.err Status.state 0
  else ((s.restartSnoops Tap.plan 0).p F.PLAN_STATUS_STAGED_STATE Slot.verifying).ok

/-- R64, R65: the deficits and the acceptable modes after a capacity failure. -/
def showDeficits (s : State) (p : Plan) (dram : Bool) : State :=
  let s1 := (s.p F.PLAN_DEFICIT_BYTES (if dram then p.dramNeed - s.dramCap else 0)).p F.PLAN_SRAM_DEFICIT_BYTES
    (if dram then 0 else p.sramDeficit (fun _ => false) s.sramCap)
  let l := p.modes s.sramCap s.dramCap
  (List.range 4).foldl (fun (t : State) i =>
    let e := l.getD i (false, 0)
    (t.pi F.PLAN_MODE_EVAL_DECLARED i (if e.1 then 1 else 0)).pi F.PLAN_MODE_EVAL_SHORTFALL i e.2) s1

/-- PLAN_EARLIEST (R107): the earliest A when ACTIVATE is accepted in this round. -/
def earliest (s : State) (p : Plan) : Nat :=
  let targets := s.planTargets
  let segs := s.targetSegs p 0 p.tables targets
  let (_, _, _, _, _, e) := s.figures segs (segsOf (l2pBytes p.tables)) (s.passesOf 0)
  s.round + 1 + e + max 2 (changedBound s.tables p.tables)

/-- PLAN_EARLIEST follows the binding and the management share while the image is ADMITTED. -/
def showEarliest (s : State) : State :=
  match s.plan.staged with
  | some p => if s.slotState = Slot.admitted then s.p F.PLAN_EARLIEST_ROUND (s.earliest p) else s
  | none => s

/-- The verification result is a decision of the round (R364); a synchronised pair compares it (R62). -/
def noteVerified (s : State) (code : Nat) : State :=
  let s1 := s.decision 1 0 code
  let st := s.g F.TWIN_STATUS_STATE
  { s1 with plan := { s1.plan with verified := if st = 2 || st = 4 then some s.round else none } }

/-- The image in the slot is refused: PLAN_ERR and what goes with its code (R63 to R65). -/
def refuseImage (s : State) (e : PErr) : State :=
  let im := s.knownImage
  let s1 := (((s.p F.PLAN_ERR_CODE e.code).p F.PLAN_ERR_SECTION e.section_).p F.PLAN_ERR_ITEM e.item).p
    F.PLAN_ERR_OFFSET_OFFSET e.off
  let s2 := if e.code = PCode.rate then s1.p F.PLAN_RATE_EXCESS_EXCESS e.excess else s1
  let s3 := if e.code = PCode.sram then s2.showDeficits im.plan false
    else if e.code = PCode.dram then s2.showDeficits im.plan true else s2
  let seen := s.checkComplete.isNone && im.checkHeader.isNone
  let s4 := s3.p F.PLAN_EPOCH_STAGED (if seen then field im.bytes 0x28 4 else 0)
  s4.p F.PLAN_STATUS_STAGED_STATE Slot.refused

/-- VERIFY_COMPLETE (R63 to R69). -/
def verifyComplete (s : State) : State :=
  if s.slotState ≠ Slot.verifying then s
  else
    let p := s.knownImage.plan
    match s.verifyImage with
    | some e => (s.refuseImage e).noteVerified e.code
    | none =>
      let s1 := ((s.p F.PLAN_DEFICIT_BYTES 0).p F.PLAN_SRAM_DEFICIT_BYTES 0).p F.PLAN_EPOCH_STAGED p.tables.epoch
      let s2 := { s1 with plan := { s1.plan with staged := some p } }
      let s3 := (s2.p F.PLAN_STATUS_STAGED_STATE Slot.admitted).noteVerified 0
      if s.plan.firstPlan then (s3.becomeCurrent p).maybeSettle else s3.showEarliest

/-- R119: a cupola that the new plan drops must be VACANT or UNBUILT. -/
def dropsLive (s : State) (t : Tables) : Bool :=
  let new := t.cupolas
  (s.listed .CUP_ENTRY).any (fun e =>
    let st := getBits e.2 0 3
    !new.contains e.1 && st != CState.vacant && st != CState.unbuilt && st != CState.absent)

/-- The plan needs the twin and the pair is not synchronised (Table 2.15). -/
def twinMissing (s : State) (p : Plan) : Bool :=
  let st := s.g F.TWIN_STATUS_STATE
  p.twinRequired == 1 && !(st == 2 || st == 4)

/-- ACTIVATE (R67, R68, R107, R108, R114, R119): the armed plan's install starts in the next round. -/
def activate (s : State) : State :=
  match s.plan.staged with
  | none => s.err Status.state 0
  | some p =>
    let a := s.g F.PLAN_ACT_ROUND_ROUND
    if s.slotState ≠ Slot.admitted || !s.heldCupolas.isEmpty || s.installing || s.dropsLive p.tables || s.twinMissing p then
      s.err Status.state 0
    else if a < s.earliest p then s.err Status.value 0
    else
      let sram := p.sramDeficit (fun _ => false) s.sramCap
      if 0 < sram then (s.showDeficits p false).err Status.refused PCode.sram
      else if s.dramCap < p.dramNeed then (s.showDeficits p true).err Status.refused PCode.dram
      else if !(p.elements.all (fun e => unionFits s.tables p.tables e.node)) then s.err Status.state 0
      else
        let s1 := (s.p F.PLAN_STATUS_STAGED_STATE Slot.armed).p F.PLAN_STATUS_CANCEL_REASON 0
        let s2 := { s1 with bell := { s1.bell with peerReports := [] } }
        ((s2.startInstall 0 p.tables s2.planTargets [] false 0 (s2.round + 1) (fun _ _ => a)).tellPeers p 1 a []).ok

/-- ABORT (R68): before the boundary of round A − 2. -/
def abort (s : State) : State :=
  if s.slotState = Slot.armed && decide (s.round + 2 < s.g F.BELL_ACT_ROUND_ROUND) && !s.committed then
    let s1 := (s.p F.PLAN_STATUS_STAGED_STATE Slot.admitted).cancelInstall
    s1.showEarliest.ok
  else s.err Status.state 0

/-- DISCARD (R67). -/
def discard (s : State) : State :=
  let st := s.slotState
  if st = Slot.loading || st = Slot.admitted || st = Slot.refused then
    (s.clearSlot.p F.PLAN_STATUS_STAGED_STATE Slot.empty).ok
  else s.err Status.state 0

end State

-- The meanings

/-- LOAD_BEGIN (R61). -/
def execLoadBegin (s : State) : Host.Outcome State Fault Refusal := finish s.loadBegin
/-- VERIFY (R63). -/
def execVerify (s : State) : Host.Outcome State Fault Refusal := finish s.verify
/-- VERIFY_COMPLETE (R63). -/
def execVerifyComplete (s : State) : Host.Outcome State Fault Refusal := finish s.verifyComplete
/-- ACTIVATE (R68). -/
def execActivate (s : State) : Host.Outcome State Fault Refusal := finish s.activate
/-- ABORT (R68). -/
def execAbort (s : State) : Host.Outcome State Fault Refusal := finish s.abort
/-- DISCARD (R67). -/
def execDiscard (s : State) : Host.Outcome State Fault Refusal := finish s.discard

end Sys2Proof.Machine
end

