-- ==== Sys2Proof/Machine/Power.lean ====
section
/-! DEFINITION. Power and internal repair: the pace monitors and the voltage loop (R31, R32), pace deficits and fallbacks
(R36, R37), feed current (R439), bank groups and GF lanes (R420, R421), and LPDDR5X packages (R54, R165). -/
namespace Sys2Proof.Machine

namespace State

-- The voltage loop

/-- An engine has scheduled work in the round (R31). -/
def engineBusy (s : State) (engine : Nat) : Bool :=
  let phase (l : List Nat) : Bool := s.grd.groups.any (fun g => l.contains (s.gphase g.gid))
  if engine = 1 || engine = 4 then phase [GPhase.ingest, GPhase.rollingBack]
  else if engine = 2 then phase [GPhase.reconstructing]
  else if engine = 3 then !s.graph.tasks.isEmpty
  else s.g F.REP_STATUS_ENGINE == Eng.resolving

/-- The target of an engine's pace monitor for a window (R31): zero without scheduled work. -/
def paceWant (s : State) (engine : Nat) : Nat :=
  match s.plan.cur with
  | none => 0
  | some p =>
    match p.rates.find? (fun r => r.engine == engine) with
    | some r => if s.engineBusy engine then Config.paceTarget engine r.value else 0
    | none => 0

/-- The core rail in mV (R32). -/
def setCore (s : State) (mv : Nat) : State := (s.p F.PWR_STATUS_CORE_MV mv).pi F.PWR_RAIL_MV 4 mv

/-- The ceiling of the core rail in mV: the plan's ceiling point, or economy while R439 has lowered it. -/
def ceilingMv (s : State) : Nat :=
  if s.pwr.feedEconomy then 600
  else if s.g F.PWR_STATUS_CEILING = 0 then 600 else if s.g F.PWR_STATUS_CEILING = 1 then 720 else 820

/-- The loop may not raise the rail: the junction is above 100 °C (R32), or the feed carries 15.5 A (R439). -/
def raiseBarred (s : State) : Bool := decide (1000 < s.g F.PWR_STATUS_TJ_MAX) || s.pwr.feedHold

/-- Windows of 16 µs in a round. -/
def windowsPerRound (s : State) : Nat := s.slotsPerRound / 16

/-- The junction band of a PACE record (Table 12.2). -/
def junctionBand (deciC : Nat) : Nat := if deciC < 700 then 0 else min 7 ((deciC - 700) / 50 + 1)

end State

/-- Pace in permille of target, saturating at 16 bits. -/
def permille (count want : Nat) : Nat := sat 16 (count * 1000 / want)

/-- The extremes of a monitor with one more reading (R36). -/
def Pace.extreme (m : Pace) (band pace tj mv : Nat) : Pace :=
  let bands := match m.bands.find? (fun b => b.1 == band) with
    | some (_, lo, hi) => setKey m.bands band (min lo pace, max hi pace)
    | none => m.bands ++ [(band, pace, pace)]
  if m.hottest ≤ tj then { m with bands := bands, hottest := tj, railThen := mv } else { m with bands := bands }

/-- A monitor after a window with target `want` in which it counted `count` (R31, R32). -/
def Pace.window (m : Pace) (want count tj mv : Nat) : Pace :=
  let slow := decide (count < want)
  let m1 := { m with
    done := m.done + count, want := m.want + want, row := if slow then m.row + 1 else 0,
    below := if slow then m.below + 1 else m.below, fast := m.fast && decide (want * 110 ≤ count * 100) }
  if want = 0 then m1 else m1.extreme (State.junctionBand tj) (permille count want) tj mv

namespace State

/-- PACE_WINDOW (R32). -/
def paceWindow (s : State) (counts : List Nat) : State :=
  let tj := s.g F.PWR_STATUS_TJ_MAX
  let mv := s.g F.PWR_STATUS_CORE_MV
  let pace := s.pwr.pace.map (fun m => m.window (s.paceWant m.engine) (counts.getD (m.engine - 1) 0) tj mv)
  let n := s.pwr.windows + 1
  let s1 := { s with pwr := { s.pwr with pace := pace, windows := n } }
  let slow := pace.any (fun m => decide (4 ≤ m.row))
  if slow && !s.raiseBarred && decide (mv + 5 ≤ s.ceilingMv) then
    let s2 := s1.setCore (mv + 5)
    let again := pace.map (fun (m : Pace) => { m with row := 0 })
    { s2 with pwr := { s2.pwr with pace := again } }
  else if !slow && n == s.windowsPerRound && pace.all (fun m => m.fast) && decide (555 ≤ mv) then s1.setCore (mv - 5)
  else s1

/-- JUNCTION_TEMPERATURE_THRESHOLD (R32): at 105 °C the rail goes to economy. -/
def junctionTemperature (s : State) (deciC : Nat) : State :=
  let s1 := s.p F.PWR_STATUS_TJ_MAX (sat 12 deciC)
  if 1050 ≤ deciC then s1.setCore (min 600 (s.g F.PWR_STATUS_CORE_MV)) else s1

/-- The pace monitor of an engine. -/
def paceOf (s : State) (engine : Nat) : Option Pace := s.pwr.pace.find? (fun m => m.engine == engine)

/-- R36: the monitor read below target in every window of the round. -/
def paceShort (s : State) (engine : Nat) : Bool :=
  match s.paceOf engine with
  | some m => decide (0 < s.pwr.windows) && decide (s.windowsPerRound ≤ s.pwr.windows) && m.below == s.pwr.windows
  | none => false

/-- R36: the rail is at the ceiling point, or the loop may not raise it. -/
def railSpent (s : State) : Bool := decide (s.ceilingMv < s.g F.PWR_STATUS_CORE_MV + 5) || s.raiseBarred

/-- The body of a PACE record (Table 12.2). -/
def paceBody (m : Pace) (deficits : Nat) : Bytes :=
  ((List.range 8).flatMap (fun b =>
    match m.bands.find? (fun e => e.1 == b) with
    | some (_, lo, hi) => leBytes 2 lo ++ leBytes 2 hi
    | none => zeros 4)) ++ leBytes 2 m.hottest ++ leBytes 2 m.railThen ++ leBytes 4 deficits

/-- The temperature and rail voltage of a PACE record: in confidential mode averages on the grid of Table 13.7, which the model
does not know. -/
def paceShown (s : State) (m : Pace) : Pace × State :=
  if s.confidential then
    let (n, s1) := s.draw
    let (k, s2) := s1.draw
    ({ m with hottest := Config.freeValue n % 6554 * 10, railThen := Config.freeValue k % 2622 * 25 }, s2)
  else (m, s)

/-- PACE_DEFICIT (R36): the alarm and event, the PACE record, and the report in PWR. -/
def paceDeficit (s : State) (engine : Nat) : State :=
  match s.paceOf engine with
  | none => s
  | some m =>
    if !s.paceShort engine || !s.railSpent then s
    else
      let n := sat 32 (s.gi F.PWR_PACE_DEFICITS engine + 1)
      let s1 := ((s.pi F.PWR_PACE_DEFICIT engine 1).pi F.PWR_PACE_DEFICITS engine n).p F.PWR_STATUS_DEFICIT 1
      let (shown, sf) := s1.paceShown m
      let s2 := (sf.raise F.PWR_EVENT_DEFICIT engine 1).record 0x0002 4 (sourceOf F.PWR_EVENT_DEFICIT) engine (paceBody shown n)
      let fresh := s2.pwr.pace.map (fun (x : Pace) =>
        if x.engine = engine then { x with bands := [], hottest := 0, railThen := 0 } else x)
      { s2 with pwr := { s2.pwr with pace := fresh } }

/-- FALLBACK_APPLY (R36): from the round boundary after the deficit. -/
def fallbackApply (s : State) (engine : Nat) : State :=
  if s.gi F.PWR_PACE_DEFICIT engine = 1 then
    { s with pwr := { s.pwr with fallback := addOnce engine s.pwr.fallback } }
  else s

/-- R36: the end of a round for one monitor: its pace over the round is reported, and a deficit is over after a full round
that was not below target. Without a target the pace over the round is open. -/
def paceRound (s : State) (m : Pace) : State :=
  let s1 :=
    if m.want = 0 then
      let (n, t) := s.draw
      t.pi F.PWR_PACE_ACHIEVED m.engine (Config.freeValue n % 2 ^ 16)
    else s.pi F.PWR_PACE_ACHIEVED m.engine (permille m.done m.want)
  if m.below = s.pwr.windows then s1
  else
    let s2 := s1.pi F.PWR_PACE_DEFICIT m.engine 0
    { s2 with pwr := { s2.pwr with fallback := s2.pwr.fallback.filter (fun e => e != m.engine) } }

/-- R31: the monitors at the end of a round. -/
def closePace (s : State) : State :=
  if s.pwr.windows = 0 then s
  else
    let s1 := s.pwr.pace.foldl paceRound s
    let any := (List.range 5).any (fun i => s1.gi F.PWR_PACE_DEFICIT (i + 1) == 1)
    let s2 := s1.p F.PWR_STATUS_DEFICIT (if any then 1 else 0)
    let fresh := s2.pwr.pace.map (fun (x : Pace) => { x with done := 0, want := 0, below := 0, fast := true })
    { s2 with pwr := { s2.pwr with pace := fresh, windows := 0 } }

/-- FEED_CURRENT_LIMIT (R439): the current of the only feed that conducts. -/
def feedCurrent (s : State) (ma : Nat) : State :=
  let one := decide (s.gi F.TWIN_FEED_STATE 0 < 2) != decide (s.gi F.TWIN_FEED_STATE 1 < 2)
  if ma < 14000 then
    let since := match s.pwr.feedCalm with | some r => some r | none => some s.round
    { s with pwr := { s.pwr with feedCalm := since } }
  else
    let s1 := { s with pwr := { s.pwr with feedCalm := none } }
    if one && decide (16000 ≤ ma) then
      let s2 := { s1 with pwr := { s1.pwr with feedHold := true, feedEconomy := true } }
      s2.setCore (min 600 (s2.g F.PWR_STATUS_CORE_MV))
    else if one && decide (15500 ≤ ma) then { s1 with pwr := { s1.pwr with feedHold := true } }
    else s1

/-- R439: the limit ends after one full round below 14 A; at the end of a round. -/
def closeFeed (s : State) : State :=
  match s.pwr.feedCalm with
  | some r =>
    if r < s.round then { s with pwr := { s.pwr with feedHold := false, feedEconomy := false } } else s
  | none => s

-- Bank groups and GF lanes (R420, R421, Table 17.3)

/-- A capacity that has become too small for an armed plan cancels its activation before the commit point (Table 2.20). -/
def rejudgeArmed (s : State) : State :=
  match s.plan.staged with
  | none => s
  | some p =>
    if s.slotState ≠ Slot.armed || s.committed then s
    else if 0 < p.sramDeficit (fun _ => false) s.sramCap then (s.showDeficits p false).cancelActivation 3
    else if s.dramCap < p.dramNeed then (s.showDeficits p true).cancelActivation 3
    else s

/-- R421: a bank group goes with no spare left: an unpartitioned one first, else the region that holds it. Which region a
bank group lies in is open where `region` names none. -/
def loseBank (s : State) (physical : Nat) (region : Option Nat) : State :=
  let spare := decide (80 ≤ s.g F.PLAN_CAPACITY_SRAM_MIB - s.partitioned)
  let s1 := (s.p F.IDENT_INTERNAL_BANKS (s.g F.IDENT_INTERNAL_BANKS - 1)).p F.PLAN_CAPACITY_SRAM_MIB
    (s.g F.PLAN_CAPACITY_SRAM_MIB - 80)
  let s2 := (s1.alarm 3 physical).eventRecord F.PWR_EVENT_SRAM_RETIRED (s1.sevOf (sourceOf F.PWR_EVENT_SRAM_RETIRED)) physical
    (leBytes 4 physical)
  let s3 :=
    if spare then s2
    else
      let left := s2.regionsLeft
      match region with
      | some r => if left.contains r then s2.shrinkRegion r else s2
      | none =>
        if left.isEmpty then s2
        else
          let (n, t) := s2.draw
          t.shrinkRegion (left.getD (Config.freeValue n % left.length) 0)
  s3.rejudgeArmed

/-- Logical units in ascending order take the physical units that are good, in ascending order (R419, Table 1.7). -/
def mapUnits (logical physical : Nat) (bad : List Nat) : List (Nat × Nat) :=
  (List.range logical).zip ((List.range physical).filter (fun u => !bad.contains u))

/-- R39, R420: the logical unit that a physical unit held moves, in one step, to the lowest good one that holds none. -/
def moveUnit (m : List (Nat × Nat)) (physical n : Nat) (bad : List Nat) : List (Nat × Nat) :=
  match (List.range n).find? (fun u => !bad.contains u && !m.any (fun e => e.2 == u)) with
  | some u => m.map (fun e => if e.2 = physical then (e.1, u) else e)
  | none => m.filter (fun e => e.2 != physical)

/-- R421: with no spare and an unpartitioned bank group left, the contents move into the highest-numbered logical bank group, which
goes. -/
def moveIntoTop (m : List (Nat × Nat)) (physical : Nat) : List (Nat × Nat) :=
  let top := m.foldl (fun n e => max n e.1) 0
  match m.find? (fun e => e.1 == top) with
  | some t => (m.filter (fun e => e.1 != top)).map (fun e => if e.2 = physical then (e.1, t.2) else e)
  | none => m

/-- The memory channels, logical to physical: a package that has gone takes its four with it (R40, Table 1.7). -/
def channelMap (s : State) : List (Nat × Nat) :=
  ((List.range 256).filter (fun c => !s.pwr.packagesRetired.contains (c / 4))).map (fun c => (c, c))

/-- A bank group takes no logical unit any longer (R420, R421). -/
def retireBank (s : State) (physical : Nat) (region : Option Nat) : State :=
  if s.pwr.banksRetired.contains physical then s
  else
    let bad := s.pwr.banksRetired ++ [physical]
    let n := s.g F.IDENT_INTERNAL_BANK_SPARES
    let free := decide (80 ≤ s.g F.PLAN_CAPACITY_SRAM_MIB - s.partitioned)
    let map := if n = 0 && free then moveIntoTop s.pwr.bankMap physical else moveUnit s.pwr.bankMap physical 104 bad
    let s1 := { s with pwr := { s.pwr with banksRetired := bad, bankMap := map } }
    let s2 := s1.raise F.PWR_EVENT_SRAM_RETIRED physical 1
    if 0 < n then s2.p F.IDENT_INTERNAL_BANK_SPARES (n - 1) else s2.loseBank physical region

/-- GF_LANE_RETIRE (R420, R421): no fold result is affected. -/
def retireLane (s : State) (physical : Nat) : State :=
  if s.pwr.lanesRetired.contains physical then s
  else
    let bad := s.pwr.lanesRetired ++ [physical]
    let s1 := { s with pwr := { s.pwr with lanesRetired := bad, laneMap := moveUnit s.pwr.laneMap physical 72 bad } }
    let s2 := s1.raise F.PWR_EVENT_GF_RETIRED physical 1
    let n := s.g F.IDENT_INTERNAL_GF_SPARES
    if 0 < n then s2.p F.IDENT_INTERNAL_GF_SPARES (n - 1)
    else
      ((s2.p F.IDENT_INTERNAL_GF_LANES (s.g F.IDENT_INTERNAL_GF_LANES - 1)).alarm 3 physical).eventRecord
        F.PWR_EVENT_GF_RETIRED (s.sevOf (sourceOf F.PWR_EVENT_GF_RETIRED)) physical (leBytes 4 physical)

/-- R433: before its commit a new image that fails makes the previous slot preferred again. -/
def firmwareFallback (s : State) : State :=
  if s.pwr.applying then
    let s1 := { s with pwr := { s.pwr with applying := false, preferred := 1 - s.pwr.preferred % 2, goodRounds := 0 } }
    (s1.p F.PWR_FW_STATUS_STATE 0).raise F.PWR_EVENT_FW_FALLBACK s1.pwr.preferred 1
  else s

/-- The ring restarts empty with its EPOCH increased (R206). -/
def restartRing (s : State) : State :=
  let s1 := { s with graph := { s.graph with ring := [], journal := [], ledger := [] } }
  let s2 := s1.p F.GRAPH_RING_CFG_EPOCH ((s.g F.GRAPH_RING_CFG_EPOCH + 1) % 2 ^ 32)
  ((s2.rst .GRAPH_RING_HEAD 0 0).rst .GRAPH_RING_TAIL 0 0).raise F.GRAPH_EVENT_RING_LOST 0 1

/-- SRAM_UNCORRECTABLE (R420, Table 17.3): each owner of the lost lines acts, and the bank group is retired. -/
def sramUncorrectable (s : State) (physical region : Nat) (owners : List Nat) : State :=
  let s1 :=
    if region = 0 then owners.foldl (fun (t : State) gid => t.foldFails gid Fate.check 0) s
    else if region = 1 then
      let t := if s.b F.GRAPH_RING_CFG_JOURNALLED then { s with graph := { s.graph with ring := s.graph.journal } }
        else s.restartRing
      t.endTasks (owners.map (fun i => (i, Fate.check, 0)))
    else if region = 2 then
      let now := s.sen.now.map (fun (x : Stats) =>
        if owners.contains x.group then (Stats.empty x.group x.member x.tensor x.step).flag 0 else x)
      { s with sen := { s.sen with now := now } }
    else if region = 3 then s.sentinelEngage 1
    else s
  s1.retireBank physical (if region < 4 then some region else none)

/-- PACKAGE_FAILURE (R40, R54, R165). -/
def packageFailure (s : State) (package : Nat) : State :=
  if s.pwr.packagesRetired.contains package then s
  else
    let s1 := { s with pwr := { s.pwr with packagesRetired := s.pwr.packagesRetired ++ [package] } }
    let s2 := (s1.p F.IDENT_INTERNAL_PACKAGES (s.g F.IDENT_INTERNAL_PACKAGES - 1)).p F.PLAN_CAPACITY_DRAM_GIB
      (s.g F.PLAN_CAPACITY_DRAM_GIB - 64)
    let s3 := ((s2.raise F.PWR_EVENT_PACKAGE_RETIRED package 1).alarm 3 package).eventRecord F.PWR_EVENT_PACKAGE_RETIRED
      (s.sevOf (sourceOf F.PWR_EVENT_PACKAGE_RETIRED)) package (leBytes 4 package)
    match s.plan.cur with
    | none => s3.rejudgeArmed
    | some p =>
      let places := lanePlaces p s.pwr.packagesRetired
      let hit (g : Group) : List Nat := (List.range g.rcd.m).filter (fun j =>
        g.rcd.lanes.getD j 0 == 1 && g.current.contains j && laneOn places g.rcd.m (0, g.gid, j) package)
      let lost := (s3.grd.groups.filter (fun g => g.bound && !(hit g).isEmpty)).map (fun g => g.gid)
      let s4 := s3.grd.groups.foldl (fun (t : State) g => if g.bound then t.laneLost g.gid (hit g) else t) s3
      let lent := p.lends.filter (fun l => laneOn places 3 (1 + l.spire, l.group, l.lane) package)
      let s5 := lent.foldl (fun (t : State) l =>
        let left := t.grd.lentIn.filter (fun x => !(x.spire == l.spire && x.group == l.group && x.lane == l.lane))
        let t1 := { t with grd := { t.grd with lentIn := left } }
        t1.send .laneLoss l.spire 0 [l.group, l.lane]) s4
      (s5.takeCapacity p 64 lost).rejudgeArmed

end State

/-- PACE_WINDOW (R32). -/
def execPaceWindow (counts : List Nat) (s : State) : Host.Outcome State Fault Refusal := finish (s.paceWindow counts)
/-- JUNCTION_TEMPERATURE_THRESHOLD (R32). -/
def execJunctionTemperatureThreshold (deciC : Nat) (s : State) : Host.Outcome State Fault Refusal :=
  finish (s.junctionTemperature deciC)
/-- PACE_DEFICIT (R36). -/
def execPaceDeficit (engine : Nat) (s : State) : Host.Outcome State Fault Refusal := finish (s.paceDeficit engine)
/-- FALLBACK_APPLY (R36). -/
def execFallbackApply (engine : Nat) (s : State) : Host.Outcome State Fault Refusal := finish (s.fallbackApply engine)
/-- BANK_GROUP_MIGRATE (R420). -/
def execBankGroupMigrate (physical : Nat) (s : State) : Host.Outcome State Fault Refusal :=
  finish (s.after (s.retireBank physical none))
/-- GF_LANE_RETIRE (R420). -/
def execGfLaneRetire (physical : Nat) (s : State) : Host.Outcome State Fault Refusal := finish (s.retireLane physical)
/-- SRAM_UNCORRECTABLE (R420). -/
def execSramUncorrectable (physical region : Nat) (owners : List Nat) (s : State) : Host.Outcome State Fault Refusal :=
  finish (s.after (s.sramUncorrectable physical region owners))
/-- PACKAGE_FAILURE (R54). -/
def execPackageFailure (package : Nat) (s : State) : Host.Outcome State Fault Refusal :=
  finish (s.after (s.packageFailure package))

end Sys2Proof.Machine
end

