-- ==== Sys2Proof/Machine/Twin.lean ====
section
/-! DEFINITION. The twin (chapter 14): pair states, claims and grants, the mirror stream, the comparison of digests and the
outcome of a mismatch, captures, and the words of Table 14.7. -/
namespace Sys2Proof.Machine

-- Pair states (Table 14.2)
namespace Pair
abbrev starting : Nat := 0
abbrev solo : Nat := 1
abbrev active : Nat := 2
abbrev syncing : Nat := 3
abbrev standby : Nat := 4
abbrev yielded : Nat := 5
abbrev unsynced : Nat := 6
end Pair

-- Kinds of mirror frames (Table 14.3)
namespace Mirror
abbrev input : Nat := 1
abbrev endOfRound : Nat := 2
abbrev snapshot : Nat := 3
abbrev checkpoint : Nat := 4
abbrev parity : Nat := 5
abbrev record : Nat := 6
end Mirror

/-- R366: bytes of one capture. -/
def captureMax : Nat := 67108864

/-- R361: the largest payload of a mirror frame. -/
def mirrorPayload : Nat := 65504

/-- Order of decisions in a digest (R364): kind, then target, then sequence. -/
def decisionLe (a b : Nat × Nat × Nat × Nat) : Bool :=
  if a.1 ≠ b.1 then decide (a.1 < b.1)
  else if a.2.1 ≠ b.2.1 then decide (a.2.1 < b.2.1)
  else decide (a.2.2.1 ≤ b.2.2.1)

/-- R364: the digest of a round's decisions. -/
def digestOf (l : List (Nat × Nat × Nat × Nat)) : Word :=
  BitVec.ofNat 64 (crc64 ((l.mergeSort decisionLe).flatMap (fun d => Config.decisionBytes d.1 d.2.1 d.2.2.1 d.2.2.2)))

namespace State

/-- The pair state. -/
def pair (s : State) : Nat := s.g F.TWIN_STATUS_STATE

/-- The claim epoch (R360). -/
def claimEpoch (s : State) : Nat := s.g F.TWIN_STATUS_CLAIM_EPOCH

/-- Module A (R356). -/
def isPrimary (s : State) : Bool := s.g F.TWIN_STATUS_LETTER == 0

/-- R435: the features that R4 and R5 use: the pair's intersection while it is synchronised, else this module's own. -/
def showPairFeatures (s : State) : State :=
  let own := s.g F.IDENT_LIC_FEATURES
  let st := s.pair
  s.p F.IDENT_LIC_PAIR_FEATURES (match s.pwr.partnerFeatures with
    | some f => if st = Pair.active || st = Pair.standby then Nat.land own f else own
    | none => own)

/-- R435: a synchronised pair whose licences differ raises an alarm. -/
def judgeFeatures (s : State) : State :=
  let st := s.pair
  match s.pwr.partnerFeatures with
  | some f => if (st = Pair.active || st = Pair.standby) && f != s.g F.IDENT_LIC_FEATURES then s.alarm 3 f else s
  | none => s

/-- R435: the partner's licence comes with the snapshot, to which the spec gives no layout: its features are open. -/
def meetLicence (s : State) : State :=
  let (n, s1) := s.draw
  ({ s1 with pwr := { s1.pwr with partnerFeatures := some (Config.freeValue n % 64) } }.showPairFeatures).judgeFeatures

/-- The module enters a pair state; one that no longer holds control leaves the spire address (R265). -/
def setPair (s : State) (st : Nat) : State :=
  let was := s.pair
  let s1 := (s.p F.TWIN_STATUS_STATE st).showPairFeatures
  let sync (x : Nat) : Bool := x == Pair.active || x == Pair.standby
  let s2 := if sync st && !sync was then s1.judgeFeatures else s1
  let s3 := if st = Pair.solo || st = Pair.active then s2 else s2.p F.ETH_STATUS_SPIRE_ADDR 0
  s3.lanternRole

/-- R265: the module answers on the spire address, and says so. -/
def takeSpireAddress (s : State) : State := (s.p F.ETH_STATUS_SPIRE_ADDR 1).send .advertisement 0 0 []

/-- The own ports that are trained under a role: 1 spire, 2 peer, 3 twin (Table 2.5). -/
def rolePorts (s : State) (role : Nat) : List Nat :=
  (List.range 48).filter (fun n => s.gi F.PORT_STATUS_STATE n == 2 && s.gi F.PORT_STATUS_ROLE n == role)

/-- The ports on which claims go out (R359, R360): spire ports; before any plan, ports whose far beacon has kind 2. -/
def claimPorts (s : State) : List Nat :=
  if s.plan.cur.isSome then s.rolePorts 1
  else (s.disc.beacons.filter (fun e => e.2.kind == 2 && e.1 < 48 && s.gi F.PORT_STATUS_STATE e.1 == 2)).map (·.1)

/-- A twin port is trained. -/
def twinUp (s : State) : Bool := (List.range 4).any (fun i => s.gi F.PORT_STATUS_STATE (44 + i) == 2)

/-- The cross-connects among which a claim needs more than half (R360). -/
def claimVoters (s : State) : Nat :=
  match s.plan.cur with
  | some p =>
    if s.disc.placed.isEmpty then s.claimPorts.length
    else (p.elements.filter (fun e => e.kind != 1 && e.node / 512 == s.spire
      && (s.gi F.DISC_NODE_CLASS (localOf e.node) == 1 || s.gi F.DISC_NODE_CLASS (localOf e.node) == 6))).length
  | none => s.claimPorts.length

/-- The fields of a claim or release frame of this module (Table 14.1). -/
def claimFields (s : State) : List Nat :=
  [if s.isPrimary then 1 else 0, s.claimEpoch, (s.rd .IDENT_ID 0 0).toNat, (s.rd .IDENT_ID 0 1).toNat, s.round]

/-- The hand-over or switch in hand is given up; what has been copied is discarded (R370). -/
def dropSwitch (s : State) : State :=
  let s1 := { s with twin := { s.twin with
    copied := [], received := [], handoverDone := false, switchRound := none, switchWanted := false } }
  (s1.p F.TWIN_STATUS_HANDOVER 0).p F.TWIN_STATUS_SWITCH_PENDING 0

/-- R372: a drill in progress fails. -/
def failDrill (s : State) : State :=
  if s.b F.TWIN_STATUS_DRILL then
    ({ s with twin := { s.twin with drillReturn := none } }.p F.TWIN_STATUS_DRILL 0).raise F.TWIN_EVENT_DRILL_FAILED 0 1
  else s

/-- The module yields (Tables 14.2 and 14.5). -/
def yieldControl (s : State) : State :=
  let s1 := { s with twin := { s.twin with claiming := false, claimRetry := none, grants := [], mismatch := none,
                                           ownTest := none, partnerTest := none, again := none } }
  ((s1.dropSwitch.failDrill).setPair Pair.yielded).raise F.TWIN_EVENT_YIELDED 0 1

/-- SYNCING is entered (R363): a new snapshot is asked for. -/
def enterSyncing (s : State) : State :=
  let s1 := { s with twin := { s.twin with
    snapshotFrames := 0, snapshotApplied := false, imagesVerified := false, nakked := [], mismatch := none, ownTest := none,
    partnerTest := none, again := none, claiming := false, claimRetry := none, actsAt := none, shadow := [],
    shadowLast := [], decisions := [] } }
  (((s1.dropSwitch).setPair Pair.syncing).p F.PWR_STATUS_STAGE 13).postTwin 0 0x11 0

/-- R362: a mirror loss sends the standby back to SYNCING. -/
def mirrorLoss (s : State) : State := ((s.raise F.TWIN_EVENT_MIRROR_LOSS 0 1).count .TWIN_COUNT 7).enterSyncing

/-- The active module without its standby: the pair is ACTIVE no longer, and a hand-over ends (Table 14.2, R370). -/
def loseStandby (s : State) : State :=
  if s.pair = Pair.active then (if s.b F.TWIN_STATUS_SWITCH_PENDING then s else s.dropSwitch).setPair Pair.solo else s

/-- R359, R360: CLAIM goes out on every spire port, with the next claim epoch; only STARTING and STANDBY claim. -/
def startClaim (s : State) : State :=
  if s.twin.claiming || !(s.pair = Pair.starting || s.pair = Pair.standby) then s
  else
    let s1 := s.p F.TWIN_STATUS_CLAIM_EPOCH ((s.claimEpoch + 1) % 2 ^ 32)
    let s2 := { s1 with twin := { s1.twin with claiming := true, claimRound := s.round, claimRetry := none, grants := [] } }
    s2.claimPorts.foldl (fun (t : State) n => t.send .claim n 0 s2.claimFields) s2

/-- R359: RELEASE to the cross-connects on all spire ports. -/
def sendRelease (s : State) : State := s.claimPorts.foldl (fun (t : State) n => t.send .release n 0 s.claimFields) s

/-- R360: a claim that has not reached the count in its round: the grants are released, and it is made again after 2 or 8
rounds. A standby without twin ports that is denied is UNSYNCED. -/
def failClaim (s : State) : State :=
  if !s.twin.claiming then s
  else
    let s1 := s.twin.grants.foldl (fun (t : State) n => t.send .release 0 n s.claimFields) s
    let again := s.twin.claimRound + (if s.isPrimary then 2 else 8)
    let lone := s.pair == Pair.standby && !s.twinUp
    let s2 := { s1 with twin := { s1.twin with claiming := false, grants := [], claimRetry := if lone then none else some again } }
    if lone then s2.failDrill.setPair Pair.unsynced else s2.failDrill

/-- CLAIM_RETRY (R360): a claim that failed is given up; one that is due is made. -/
def claimRetry (s : State) : State :=
  let s1 := if s.twin.claiming && decide (s.twin.claimRound < s.round) then s.failClaim else s
  match s1.twin.claimRetry with
  | some r => if r ≤ s1.round then s1.startClaim else s1
  | none => s1

/-- R372: the old active module of a drill is active again. -/
def endDrill (s : State) : State :=
  if s.b F.TWIN_STATUS_DRILL then (s.p F.TWIN_STATUS_DRILL 0).raise F.TWIN_EVENT_DRILL_DONE 0 1 else s

/-- A claim has succeeded (R360): a STARTING module is active at once; a STANDBY acts from the next round boundary
(R367, R371). -/
def claimWon (s : State) : State :=
  let planned := s.twin.switchRound.isSome
  let from_ := s.pair
  let s1 := { s with twin := { s.twin with claiming := false, claimRetry := none,
                                           actsAt := if from_ = Pair.standby then some (s.round + 1) else none } }
  let s2 := s1.setPair Pair.solo
  if from_ = Pair.standby then
    let s3 := if planned then (s2.raise F.TWIN_EVENT_RETURNED 0 1).count .TWIN_COUNT 4
      else (s2.raise F.TWIN_EVENT_TAKEOVER 0 1).count .TWIN_COUNT 3
    s3.endDrill
  else s2.takeSpireAddress.maybeSettle

/-- GRANT (R359, R360) at this module. -/
def grant (s : State) (node : Nat) (g : ClaimF) : State :=
  if !g.crcOk then s
  else if s.claimEpoch < g.epoch && s.isActive && !s.twin.hardStopped then s.yieldControl
  else if g.denied then (if s.twin.claiming then s.raise F.TWIN_EVENT_CLAIM_DENIED node 1 else s)
  else if s.twin.claiming && g.epoch = s.claimEpoch then
    let s1 := { s with twin := { s.twin with grants := addOnce node s.twin.grants } }
    if s1.claimVoters < 2 * s1.twin.grants.length then s1.claimWon else s1
  else s

/-- R357: a port of a cross-connect that faces Varlor; before the first binding one whose far beacon has kind 3. -/
def facesVarlor (s : State) (node port : Nat) : Bool :=
  let mask := s.ga F.AG_TREE_VARLOR_FACING node 0
  if mask = 0 then s.ga F.AG_PORT_FAR_KIND node port == 3 else hasBit mask port

/-- R359: the manager's beacon has come neither in the previous round nor in this one. -/
def managerSilent (s : State) (node : Nat) : Bool :=
  match (s.ag node).heard.find? (fun e => e.1 == s.ga F.AG_MANAGER_PORT node 0) with
  | some e => decide (e.2 + 1 < s.round)
  | none => true

/-- CLAIM (R359) at a cross-connect. -/
def claim (s : State) (node port : Nat) (c : ClaimF) : State :=
  if !c.crcOk || s.ga F.AG_IDENT_KIND node 0 = 1 || !s.facesVarlor node port then s
  else
    let letter := if c.primary then 0 else 1
    let valid := s.bn F.AG_MANAGER_VALID node
    let mine := valid && s.ga F.AG_MANAGER_LETTER node 0 == letter && s.ga F.AG_MANAGER_PORT node 0 == port
    let twice := (s.ag node).grantRound == some s.round && !mine
    let allow := if mine then true else if twice then c.primary
      else !valid || s.bn F.AG_MANAGER_RELEASED node || s.managerSilent node
    if allow then
      let s1 := s.updAg node (fun a => { a with grantRound := some s.round })
      let s2 := ((s1.pn F.AG_MANAGER_VALID node 1).pn F.AG_MANAGER_LETTER node letter).pn F.AG_MANAGER_PORT node port
      let s3 := (s2.pn F.AG_MANAGER_RELEASED node 0).pn F.AG_MANAGER_CLAIM_EPOCH node c.epoch
      s3.send .grant node port [letter, 0, c.epoch]
    else s.send .grant node port [s.ga F.AG_MANAGER_LETTER node 0, 1, s.ga F.AG_MANAGER_CLAIM_EPOCH node 0]

/-- RELEASE (R359) at a cross-connect: from its manager. -/
def release (s : State) (node port : Nat) (r : ClaimF) : State :=
  if r.crcOk && s.bn F.AG_MANAGER_VALID node && s.ga F.AG_MANAGER_PORT node 0 == port then s.pn F.AG_MANAGER_RELEASED node 1
  else s

/-- STARTING_TIMEOUT (Table 14.2): no HELLO within 2,048 rounds of the start, for module B of its twin ports' training. -/
def startingTimeout (s : State) : State :=
  if s.pair = Pair.starting && !s.b F.TWIN_STATUS_PARTNER_SEEN && decide (s.twin.startedRound + 2048 ≤ s.round) then s.startClaim
  else s

/-- Mirror levels equal and letters different (R44, R356). -/
def compatible (s : State) (level letter : Nat) : Bool :=
  level == s.g F.TWIN_STATUS_MIRROR_LEVEL && letter != s.g F.TWIN_STATUS_LETTER

/-- A pair at unequal mirror levels, or with one letter, raises an alarm (R44, R356). -/
def levelMismatch (s : State) : State :=
  if s.b F.TWIN_EVENT_LEVEL_MISMATCH then s else (s.raise F.TWIN_EVENT_LEVEL_MISMATCH 0 1).alarm 3 0

/-- What a HELLO leads to in the present pair state (Table 14.2). -/
def helloState (s : State) (ok : Bool) (theirs epoch : Nat) : State :=
  let st := s.pair
  let partnerActive := theirs == Pair.solo || theirs == Pair.active
  if st = Pair.starting then
    if s.g F.PWR_STATUS_STAGE < 9 then s
    else if partnerActive then
      (if ok then { s with twin := { s.twin with claiming := false, claimRetry := none } }.enterSyncing
       else (s.setPair Pair.unsynced).levelMismatch)
    else if theirs = Pair.starting && s.isPrimary && s.twin.claimRetry.isNone then s.startClaim
    else s
  else if st = Pair.unsynced then (if ok && s.twinUp then s.enterSyncing else s)
  else if st = Pair.solo then (if ok && theirs = Pair.standby then (s.setPair Pair.active).meetLicence else s)
  else if st = Pair.active then
    if s.twin.hardStopped then
      (if partnerActive && decide (s.claimEpoch < epoch) then
        let s1 := { s with twin := { s.twin with stopped := false, hardStopped := false,
                                                 drillReturn := some (s.round + s.g F.TWIN_CFG_DRILL_ROUNDS) } }
        s1.enterSyncing
       else s)
    else if theirs = Pair.standby then s
    else (if theirs = Pair.yielded then s.failDrill else s).loseStandby
  else s

/-- HELLO (R373, Table 14.2). The claim epoch is mirrored control state (R360). A partner that reaches STANDBY is a beacon
change for a module that is NOT_VIABLE (R414). -/
def hello (s : State) (level letter theirs epoch : Nat) : State :=
  let was := s.g F.TWIN_STATUS_PARTNER_STATE
  let s1 := { s with twin := { s.twin with helloRound := s.round } }
  let s2 := ((s1.p F.TWIN_STATUS_PARTNER_STATE theirs).p F.TWIN_STATUS_PARTNER_LEVEL level).p F.TWIN_STATUS_PARTNER_SEEN 1
  let ok := s.compatible level letter
  let s3 := if ok then s2 else s2.levelMismatch
  let s4 := if ok && s.shadowing && !s.twin.claiming then s3.p F.TWIN_STATUS_CLAIM_EPOCH epoch else s3
  let s5 := s4.helloState ok theirs epoch
  if theirs = Pair.standby && was ≠ Pair.standby && s5.isActive && s5.discState = DState.notViable then s5.enterSettling else s5

/-- PARTNER_LOST (R373, Table 14.2): the partner's HELLO has stopped. -/
def partnerLost (s : State) : State := (s.p F.TWIN_STATUS_PARTNER_SEEN 0).failDrill.loseStandby

-- The mirror stream

/-- SYNC_REQ (R363): the active module sends a snapshot of every mirrored item; the spec gives its frames no layout. -/
def syncReq (s : State) : State :=
  if !s.isActive then s else s.loseStandby.mirrorSend Mirror.snapshot true [] []

/-- SYNC_DONE (R363): the partner has reached STANDBY. -/
def syncDone (s : State) (_first : Nat) : State :=
  let s1 := s.p F.TWIN_STATUS_PARTNER_STATE Pair.standby
  let s2 := if s.pair = Pair.solo then (s1.setPair Pair.active).meetLicence else s1
  if s2.isActive && s2.discState = DState.notViable then s2.enterSettling else s2

/-- MIRROR_NAK (R362): the frame is sent again, or is a mirror loss. -/
def mirrorNak (s : State) (seq : Nat) : State :=
  if !s.isActive then s
  else
    match s.twin.kept.find? (fun (f : MirrorF) => f.seq == seq && decide (s.round < f.round + 8)) with
    | some f => s.emit .mirror 0 f.seq [f.round] f.payload
    | none => ((s.raise F.TWIN_EVENT_MIRROR_LOSS 0 1).count .TWIN_COUNT 7).loseStandby

/-- R362: a frame is asked for again. -/
def askAgain (s : State) (seq : Nat) : State :=
  ({ s with twin := { s.twin with nakked := s.twin.nakked ++ [seq] } }.count .TWIN_COUNT 6).postTwin 0 0x18 (seq % 2 ^ 32)

/-- R362: a mirror frame arrives; whether it is to be consumed. Its trailer and its place in the sequence are checked: a
gap, or a failed frame, is asked for again once, and failing again is a mirror loss. -/
def mirrorAccept (s : State) (f : MirrorF) : State × Bool :=
  if !s.shadowing then (s, false)
  else if f.level ≠ s.g F.TWIN_STATUS_MIRROR_LEVEL then (s.levelMismatch, false)
  else if !f.trailerOk then
    if s.twin.nakked.contains f.seq then (s.mirrorLoss, false) else (s.askAgain f.seq, false)
  else
    let expected := if s.twin.snapshotFrames = 0 && !s.twin.snapshotApplied then f.seq else s.twin.rxSeq
    if f.seq = expected then
      ({ s with twin := { s.twin with rxSeq := (f.seq + 1) % 2 ^ 32,
                                      nakked := s.twin.nakked.filter (fun q => q != f.seq) } }, true)
    else if s.twin.nakked.contains expected || decide ((f.seq + 2 ^ 32 - expected) % 2 ^ 32 ≥ 2 ^ 31) then (s, false)
    else (s.askAgain expected, false)

/-- R363: the three conditions of STANDBY. -/
def reachStandby (s : State) (agrees : Bool) (first : Nat) : State :=
  if s.pair = Pair.syncing && s.twin.snapshotApplied && s.twin.imagesVerified && agrees then
    let s1 := { s with twin := { s.twin with standbySince := s.round } }
    ((((s1.setPair Pair.standby).meetLicence).p F.PWR_STATUS_STAGE 12).raise F.TWIN_EVENT_SYNCED 0 1).postTwin 0 0x12 first
  else s

/-- SNAPSHOT (R363). -/
def snapshot (s : State) (f : MirrorF) (verified agrees : Bool) : State :=
  match s.mirrorAccept f with
  | (t, false) => t
  | (t, true) =>
    let tw := { t.twin with snapshotFrames := t.twin.snapshotFrames + 1, snapshotApplied := t.twin.snapshotApplied || f.last,
                            imagesVerified := verified }
    { t with twin := tw }.reachStandby agrees f.round

/-- CHECKPOINT (R258): the standby's copy of a channel's checkpoint pair. -/
def checkpoint (s : State) (f : MirrorF) (channel : Nat) (value bytes : Word) : State :=
  match s.mirrorAccept f with
  | (t, false) => t
  | (t, true) => if freeChannel channel then t.setCheckpoint channel value.toNat bytes.toNat else t

/-- Length of a licence (R434). -/
def licenceLen : Nat := 29920

/-- A licence that the partner has installed (R435). -/
def partnerLicence (s : State) (bs : Bytes) : State :=
  ({ s with pwr := { s.pwr with partnerFeatures := some (field bs 0x0E 2 % 64) } }.showPairFeatures).judgeFeatures

/-- MIRROR_RECORD (R332, R435): an enrolment record, verified by this module's own keystone and shown to agree where the
sequences do, or the partner's licence. -/
def mirrorRecord (s : State) (f : MirrorF) : State :=
  match s.mirrorAccept f with
  | (t, false) => if s.pair = Pair.active && f.trailerOk && f.payload.length = licenceLen then t.partnerLicence f.payload else t
  | (t, true) =>
    if f.payload.length = licenceLen then t.partnerLicence f.payload
    else if f.payload.length = 128 then
      let i := field f.payload 0 1
      let s1 := { t with
        key := { t.key with partnerSeq := setKey t.key.partnerSeq i (field f.payload 8 8) }
        twin := { t.twin with enrolSlot := none } }
      let s2 := if s1.enrolGood f.payload then (s1.fillSlot f.payload).raise F.KEY_EVENT_ENROLLED i 1
        else if s1.gi F.KEY_SLOT_SEQ_SEQUENCE i = field f.payload 8 8 then s1
        else s1.raise F.KEY_EVENT_ENROL_REFUSED 0 1
      if i < 8 then s2.pi F.KEY_SLOT_INFO_AGREE i (if s2.gi F.KEY_SLOT_SEQ_SEQUENCE i = field f.payload 8 8 then 1 else 0)
      else s2
    else t

/-- ENROL (Table 14.7): a record follows. -/
def twinEnrol (s : State) (slot : Nat) : State := { s with twin := { s.twin with enrolSlot := some slot } }

-- Comparison (R364 to R366)

/-- The first capture slot that is free, else that of the oldest capture. -/
def captureSlot (s : State) : Nat × Bool :=
  match (List.range 4).find? (fun c => !s.twin.captures.any (fun (x : Capture) => x.slot == c)) with
  | some c => (c, false)
  | none => (s.twin.captureOrder.headD 0, true)

/-- R366: a divergence capture of rounds n − 1 and n. What an active module's own inputs hold is not modelled: the rest of a
capture reads as free values, and whether the inputs overflow is open there. -/
def capture (s : State) (n : Nat) : State :=
  let (c, lost) := s.captureSlot
  let bytes := ((s.twin.inputs.filter (fun (i : Input) => i.round == n || i.round + 1 == n)).map (·.bytes)).flatten
  let (k, s0) := s.draw
  let spills := if s.isActive then Config.freeValue k % 2 else if captureMax < bytes.length then 1 else 0
  let tw := { s0.twin with captures := s0.twin.captures.filter (fun (x : Capture) => x.slot != c) ++ [⟨c, bytes.take captureMax, k⟩],
                           captureOrder := s0.twin.captureOrder.filter (fun x => x != c) ++ [c] }
  let s1 := (({ s0 with twin := tw }.pi F.TWIN_CAP_INFO_ROUND c n).pi F.TWIN_CAP_INFO_VALID c 1).pi F.TWIN_CAP_INFO_OVERFLOW c spills
  if lost then s1.raise F.TWIN_EVENT_CAPTURE_LOST c 1 else s1

/-- R365: a mismatch of round n on this module: the event, the captures, and DISCARD for an install that has not reached its
commit point. -/
def mismatchOf (s : State) (n : Nat) : State :=
  let s1 := ((s.raise F.TWIN_EVENT_MISMATCH 0 n).count .TWIN_COUNT 1).capture n
  if s1.twin.mismatch.isSome then s1
  else
    let keep := if s1.committed then none else s1.bell.install
    let s2 := { s1 with twin := { s1.twin with mismatch := some n, ownTest := none, partnerTest := none, again := keep } }
    if keep.isSome then s2.cancelInstall else s2

/-- MISMATCH (R365) at the active module. -/
def mismatch (s : State) (n : Nat) : State := if s.isActive then s.mismatchOf n else s

/-- The decisions of a round are closed into its digest. -/
def closeDigest (s : State) (n : Nat) : State :=
  let d := digestOf s.twin.decisions
  { s with twin := { s.twin with decisions := [], digests := (s.twin.digests.filter (fun e => decide (n < e.1 + 8))) ++ [(n, d)] } }

/-- R62: the comparison of the round in which the staged image was verified agreed. -/
def agreeVerified (s : State) (n : Nat) : State :=
  if s.plan.verified = some n then
    { s with plan := { s.plan with verified := none } }.p F.PLAN_STATUS_STANDBY_AGREE 1
  else s

/-- END_OF_ROUND (R364, R365): the standby closes its own round and compares. -/
def endOfRound (s : State) (f : MirrorF) (digest : Word) : State :=
  match s.mirrorAccept f with
  | (t, false) => t
  | (t, true) =>
    let n := f.round
    let own := digestOf t.twin.decisions
    let t1 := t.closeDigest n
    let t2 := { t1 with twin := { t1.twin with
      lastEndOfRound := n, shadowLast := t1.twin.shadow, shadow := []
      claimRetry := if t1.twin.claiming then t1.twin.claimRetry else none
      inputs := t1.twin.inputs.filter (fun (i : Input) => decide (n < i.round + 2)) } }
    if !t2.twin.snapshotApplied then t2
    else
      let same := own == digest
      let t3 := ((t2.p F.TWIN_CMP_ROUND n).p F.TWIN_CMP_AGREE (if same then 1 else 0)).count .TWIN_COUNT 0
      let t4 := (t3.wr .TWIN_DIGEST 0 0 own).wr .TWIN_DIGEST 0 1 digest
      if same then (t4.agreeVerified n).reachStandby true n
      else if t4.twin.mismatch.isSome then t4.mismatchOf n
      else (t4.mismatchOf n).postTwin 0 0x13 n

/-- SELFTEST_RUN (R363, R365): the known-answer self-test of the control-plane engines has ended. -/
def selftestRun (s : State) (pass : Bool) : State :=
  let s1 := if pass then s else (s.raise F.TWIN_EVENT_SELFTEST_FAIL 0 1).firmwareFallback
  match s.twin.mismatch with
  | some n =>
    { s1 with twin := { s1.twin with ownTest := some pass } }.postTwin 0 0x14 ((if pass then 1 else 0) + n % 2 ^ 40 * 256)
  | none => if !pass && s.shadowing then s1.yieldControl else s1

/-- SELFTEST (R365): the partner's result. -/
def selftest (s : State) (pass : Bool) (round : Nat) : State :=
  match s.twin.mismatch with
  | some n => if n % 2 ^ 40 = round then { s with twin := { s.twin with partnerTest := some pass } } else s
  | none => s

/-- R365: the module that keeps control starts the discarded install again in the next round. A plan keeps its activation
round where that can still be met. -/
def startAgain (s : State) (i : Install) : State :=
  if s.bell.install.isSome then s
  else if i.kind = 3 then i.targets.foldl (fun (t : State) n => t.wantSingle n) s
  else
    let b := max 2 (changedBound s.tables i.tables)
    let when_ (q e : Nat) : Nat :=
      if i.kind = 1 && !i.planned then q + e + 2
      else if i.kind = 0 then max (s.g F.PLAN_ACT_ROUND_ROUND) (q + e + b) else q + e + b
    s.startInstall i.kind i.tables i.targets i.cupolas i.planned i.action (s.round + 1) when_

/-- The outcome of a mismatch is settled on this module. -/
def endMismatch (s : State) : State :=
  { s with twin := { s.twin with mismatch := none, ownTest := none, partnerTest := none, again := none } }

/-- Table 14.5: both pass. -/
def unattributed (s : State) (n : Nat) : State :=
  ((s.raise F.TWIN_EVENT_UNATTRIBUTED 0 n).count .TWIN_COUNT 2).eventRecord F.TWIN_EVENT_UNATTRIBUTED 6 0
    (leBytes 8 n ++ leBytes 8 (s.rd .TWIN_DIGEST 0 0).toNat ++ leBytes 8 (s.rd .TWIN_DIGEST 0 1).toNat)

/-- Table 14.5: both fail. -/
def bothFailed (s : State) : State := (s.alarm 7 0).service 0

/-- MISMATCH_OUTCOME (R365, Table 14.5), at the boundary of round n + 3; a missing result is a failure. -/
def mismatchOutcome (s : State) : State :=
  match s.twin.mismatch with
  | none => s
  | some n =>
    if s.round < n + 3 then s
    else
      let own := s.twin.ownTest.getD false
      let other := s.twin.partnerTest.getD false
      let s1 := s.endMismatch
      let keepOn (t : State) : State := match s.twin.again with | some i => t.loseStandby.startAgain i | none => t.loseStandby
      if s.isActive then
        if own && other then keepOn (s1.unattributed n)
        else if own then keepOn s1
        else if other then s1.sendRelease.yieldControl
        else keepOn s1.bothFailed
      else if s.shadowing then
        if own && other then (s1.unattributed n).enterSyncing
        else if own then
          (if s.pair = Pair.standby then { s1 with twin := { s1.twin with again := s.twin.again } }.startClaim else s1.enterSyncing)
        else if other then s1.yieldControl
        else s1.bothFailed.yieldControl
      else s1

/-- ACTIVE_SILENCE (R367): END_OF_ROUND(n) is missing: the standby claims in round n + 2. -/
def activeSilence (s : State) (n : Nat) : State :=
  if s.pair = Pair.standby && decide (s.twin.lastEndOfRound < n) && !s.twin.claiming then
    { s with twin := { s.twin with claimRetry := some (n + 2) } }.claimRetry
  else s

/-- POWER_LOSS (R367, R376): a standby claims at its next management slot; an active module goes on alone. -/
def powerLoss (s : State) : State :=
  if s.pair = Pair.standby then s.startClaim else s.failDrill.loseStandby

/-- FEED (Table 14.7). -/
def feedWord (s : State) (a b : Nat) : State := { s with twin := { s.twin with partnerFeed := (a, b) } }

-- Host commands on captures and resynchronisation

/-- RESYNC (Table 14.2). -/
def resync (s : State) : State := if s.shadowing then s.enterSyncing.ok else s.err Status.state 0

/-- CLEAR_CAPTURE (R366). -/
def clearCapture (s : State) : State :=
  (({ s with twin := { s.twin with captures := [], captureOrder := [], windowBytes := [] } }).rstAll .TWIN_CAP_INFO).ok

/-- A window of the selected capture is loaded: 8,192 bytes. -/
def loadCapture (s : State) (w : Nat) : State :=
  let c := s.g F.TWIN_CAP_SEL_CAPTURE
  let bytes := match s.twin.captures.find? (fun (x : Capture) => x.slot == c) with | some x => x.bytes | none => []
  { s with twin := { s.twin with windowBytes := (bytes.drop (8192 * w)).take 8192 } }.p F.TWIN_CAP_SEL_WINDOW (w % 2 ^ 14)

/-- TWIN_CAP_WORD_ADVANCE (R366): reading the last word loads the next window. -/
def capWordAdvance (s : State) : State := s.loadCapture (s.g F.TWIN_CAP_SEL_WINDOW + 1)

/-- Word i of the loaded window; the words of a capture beyond the bytes that this model holds are open. -/
def capWord (s : State) (i : Nat) : Word :=
  if 8 * i + 8 ≤ s.twin.windowBytes.length then BitVec.ofNat 64 (field s.twin.windowBytes (8 * i) 8)
  else
    match s.twin.captures.find? (fun (x : Capture) => x.slot == s.g F.TWIN_CAP_SEL_CAPTURE) with
    | some x => BitVec.ofNat 64 (Config.freeValue x.rest / 2 ^ (64 * (1024 * s.g F.TWIN_CAP_SEL_WINDOW + i + 1)))
    | none => 0

end State

-- The meanings

/-- HELLO (R373). -/
def execHello (level letter pairState claimEpoch : Nat) (s : State) : Host.Outcome State Fault Refusal :=
  finish (s.hello level letter pairState claimEpoch)
/-- SYNC_REQ (R363). -/
def execSyncReq (s : State) : Host.Outcome State Fault Refusal := finish s.syncReq
/-- SYNC_DONE (R363). -/
def execSyncDone (round : Nat) (s : State) : Host.Outcome State Fault Refusal := finish (s.syncDone round)
/-- MISMATCH (R365). -/
def execMismatch (round : Nat) (s : State) : Host.Outcome State Fault Refusal := finish (s.mismatch round)
/-- SELFTEST_RUN (R365). -/
def execSelftestRun (pass : Bool) (s : State) : Host.Outcome State Fault Refusal := finish (s.selftestRun pass)
/-- SELFTEST (R365). -/
def execSelftest (pass : Bool) (round : Nat) (s : State) : Host.Outcome State Fault Refusal := finish (s.selftest pass round)
/-- MISMATCH_OUTCOME (R365). -/
def execMismatchOutcome (s : State) : Host.Outcome State Fault Refusal := finish s.mismatchOutcome
/-- MIRROR_NAK (R362). -/
def execMirrorNak (seq : Nat) (s : State) : Host.Outcome State Fault Refusal := finish (s.mirrorNak seq)
/-- POWER_LOSS (R367). -/
def execPowerLoss (s : State) : Host.Outcome State Fault Refusal := finish s.powerLoss
/-- FEED (R375). -/
def execFeed (a b : Nat) (s : State) : Host.Outcome State Fault Refusal := finish (s.feedWord a b)
/-- TWIN_ENROL (R332). -/
def execTwinEnrol (slot : Nat) (s : State) : Host.Outcome State Fault Refusal := finish (s.twinEnrol slot)
/-- END_OF_ROUND (R364). -/
def execEndOfRound (f : MirrorF) (digest : Word) (s : State) : Host.Outcome State Fault Refusal := finish (s.endOfRound f digest)
/-- SNAPSHOT (R363). -/
def execSnapshot (f : MirrorF) (imagesVerified agrees : Bool) (s : State) : Host.Outcome State Fault Refusal :=
  finish (s.snapshot f imagesVerified agrees)
/-- CHECKPOINT (R258). -/
def execCheckpoint (f : MirrorF) (channel : Nat) (value bytes : Word) (s : State) : Host.Outcome State Fault Refusal :=
  finish (s.checkpoint f channel value bytes)
/-- MIRROR_RECORD (R332). -/
def execMirrorRecord (f : MirrorF) (s : State) : Host.Outcome State Fault Refusal := finish (s.mirrorRecord f)
/-- ACTIVE_SILENCE (R367). -/
def execActiveSilence (round : Nat) (s : State) : Host.Outcome State Fault Refusal := finish (s.activeSilence round)
/-- CLAIM (R359). -/
def execClaim (node port : Nat) (c : ClaimF) (s : State) : Host.Outcome State Fault Refusal := finish (s.claim node port c)
/-- GRANT (R360). -/
def execGrant (node : Nat) (g : ClaimF) (s : State) : Host.Outcome State Fault Refusal := finish (s.grant node g)
/-- RELEASE (R359). -/
def execRelease (node port : Nat) (r : ClaimF) (s : State) : Host.Outcome State Fault Refusal := finish (s.release node port r)
/-- CLAIM_RETRY (R360). -/
def execClaimRetry (s : State) : Host.Outcome State Fault Refusal := finish s.claimRetry
/-- STARTING_TIMEOUT (R356). -/
def execStartingTimeout (s : State) : Host.Outcome State Fault Refusal := finish s.startingTimeout
/-- RESYNC (R363). -/
def execResync (s : State) : Host.Outcome State Fault Refusal := finish s.resync
/-- CLEAR_CAPTURE (R366). -/
def execClearCapture (s : State) : Host.Outcome State Fault Refusal := finish s.clearCapture
/-- PARTNER_LOST (R373). -/
def execPartnerLost (s : State) : Host.Outcome State Fault Refusal := finish s.partnerLost
/-- TWIN_CAP_WORD_ADVANCE (R366). -/
def execTwinCapWordAdvance (s : State) : Host.Outcome State Fault Refusal := finish s.capWordAdvance

end Sys2Proof.Machine
end

