-- ==== Sys2Proof/Machine/Takeover.lean ====
section
/-! DEFINITION. Takeover, planned switches with the parity hand-over, drills, and the feeds (R183, R206, R258, R287, R355,
R367 to R375). -/
namespace Sys2Proof.Machine

/-- What names a lane of a hand-over: a group's own local lane by its group; a lane kept for a peer spire by spire and
group. -/
def laneKey (spire : Option Nat) (group : Nat) : Nat :=
  match spire with
  | some q => 65536 * (q + 1) + group
  | none => group

/-- R362: the twin ports carry parity at up to 780 bytes per ns (R370). -/
def handoverRate : Nat := 780

namespace State

-- Takeover (R368)

/-- Local lanes of a group that are current. -/
def localCurrent (g : Group) : List Nat := g.current.filter (fun j => (g.peer j).isNone)

/-- R183: a group on a new active module that received no local lanes is EXPOSED, and is to be regenerated; one with lost members is
then RECOVERING where the lent lanes that are left allow, and else HELD (R182, Table 6.1). -/
def loseLocalLanes (s : State) (gid : Nat) : State :=
  match s.group gid with
  | none => s
  | some g =>
    if !g.bound || g.lanes.all (fun j => (g.peer j).isSome) then s
    else
      let held : List HeldItem := []
      let s1 := (s.updGroup gid (fun g => { g with held := held })).loseLanes gid (localCurrent g)
      let st := s.gstate gid
      let s2 := if st = GState.protectedS || st = GState.recovering then s1.expose gid else s1
      let s2 := if (s.lostOf g).isEmpty || st = GState.disabling || st = GState.disabled || st = GState.held then s2
        else s2.judgeLoss gid
      if st = GState.disabling || st = GState.disabled then s2
      else { s2.wantRegen gid with twin := { s2.twin with regenDue := addOnce gid s2.twin.regenDue } }

/-- R183: jobs with a group in INGEST go back to their recovery point; local lanes are lost, and their groups are
regenerated. -/
def takeoverGuard (s : State) : State :=
  let ids := s.grd.groups.map (fun g => g.gid)
  let cut := s.grd.groups.filter (fun g => g.bound && s.gphase g.gid == GPhase.ingest)
  let jobs := cut.foldl (fun (l : List (Nat × Nat)) g => if l.any (fun e => e.1 == g.job) then l else l ++ [(g.job, s.recovery g.gid)]) []
  let s1 := ids.foldl (fun (t : State) gid => t.loseLocalLanes gid) s
  let s2 := jobs.foldl (fun (t : State) e => t.requestRollback e.1 e.2 false) s1
  let s3 := ids.foldl (fun (t : State) gid => t.selfRegenerate gid) s2
  match s3.plan.cur with
  | some p =>
    let s4 := { s3 with grd := { s3.grd with lentIn := [] } }
    p.lends.foldl (fun (t : State) l => t.send .laneLoss l.spire 0 [l.group, l.lane]) s4
  | none => s3

/-- R370, R371: after a planned switch the lanes that the old active module handed over are this module's. -/
def takeLanes (s : State) : State :=
  let mine (g : Group) : Group :=
    let got := (s.twin.received.filter (fun e => e.1 == g.gid)).map Prod.snd
    { g with parity := g.parity.filter (fun b => !got.any (fun x => x.lane == b.lane && x.region == b.region)) ++ got }
  let lent : List LentIn := (s.twin.received.filter (fun e => decide (65536 ≤ e.1))).map (fun e =>
    (⟨e.1 / 65536 - 1, e.1 % 65536, e.2.lane, e.2.region, e.2.block⟩ : LentIn))
  let s1 := { s with grd := { s.grd with groups := s.grd.groups.map mine, lentIn := lent } }
  { s1 with twin := { s1.twin with received := [] } }

/-- R116, R365, R368, Tables 2.20 and 5.6: a committed install completes; any other is cancelled, and what it was for is
taken up again: an armed plan is cancelled with reason 2, and a batch starts again from the mirrored fault set. -/
def takeoverInstall (s : State) : State :=
  let i := match s.bell.install with | some i => some i | none => s.twin.again
  let s0 := { s with twin := { s.twin with again := none } }
  if s.committed then
    match s0.bell.install with
    | some i => s0.sendActivate i (s0.g F.BELL_ACT_ROUND_ROUND) false i.held (s0.fenceList i) 1
    | none => s0
  else
    let s1 := if s0.bell.install.any (fun x => x.kind != 0) then s0.cancelInstall else s0
    let armed := s1.g F.PLAN_STATUS_STAGED_STATE == 5
    let s2 := if armed then s1.cancelActivation 2 else s1
    let s3 := match i with
      | none => s2
      | some i =>
        if i.kind = 3 then i.targets.foldl (fun (t : State) n => t.wantSingle n) s2
        else if i.kind = 2 then { s2 with bell := { s2.bell with completionDue := true } }
        else if i.kind = 0 && !armed then
          (if s2.bell.install.isSome then s2.cancelInstall else s2).startAgain i
        else s2
    let busy := s3.g F.REP_STATUS_ENGINE
    if s3.rep.batch.isEmpty && s3.rep.chosen.isNone then s3
    else
      let r := { s3.rep with
        queued := s3.rep.batch ++ s3.rep.queued, batch := [], chosen := none, waiting := none, resolvingReset := false }
      { s3 with rep := r }.p F.REP_STATUS_ENGINE (if busy = Eng.idle then Eng.idle else Eng.selecting)

/-- R368: a carve or retire that is not over starts again from its first step. -/
def takeoverCupolas (s : State) : State :=
  let q := s.round
  let anew (x : Carve) : Carve :=
    { x with start := x.start.map (fun _ => q), round := s.clearOfInstall (q + 4), nodes := [], unconfirmed := [],
             failed := false }
  let c := s.cup.carves.map anew
  let again (x : Retire) : Retire := { x with
    accepted := q, round := s.clearOfInstall (q + 2 + x.bound), stopped := false, drained := false }
  let r := s.cup.retires.map (fun (x : Retire) => if x.cleared then x else again x)
  { s with cup := { s.cup with carves := c, retires := r } }

/-- Table 7.9: tasks on a queue pair of the old active module, and fabric sub-items without a mirrored receipt, end
FAILED_UNCONFIRMED with TAKEOVER set. -/
def takeoverTasks (s : State) : State :=
  let onQp (t : Task) : Bool := t.live && (t.kind == Kind.exp || t.kind == Kind.imp)
  let s1 := { s with eth := { s.eth with ops := [], waiting := [], retries := [] } }
  let s2 := (s1.tasksWhere onQp).foldl (fun (t : State) (x : Task) => t.endWithSubs x.idx Fate.unconfirmed (2 + x.qp % 64 * 256)) s1
  (s2.tasksWhere (fun t => t.live && !t.inFlight.isEmpty)).foldl (fun (t : State) (x : Task) =>
    t.endSubs x.idx (x.inFlight.map (fun (u : SubItem) => u.seq)) Fate.unconfirmed 2) s2

/-- R258: every free channel that was ATTACHED or SUSPENDING is SUSPENDED at its mirrored checkpoint; provisional data is
not mirrored (Table 14.4). -/
def takeoverChannels (s : State) : State :=
  let l := ((List.range 32).map (· + 96)).filter (fun c => s.chkState c == Chan.attached || s.chkState c == Chan.suspending)
  let s1 := { s with chk := { s.chk with provisional := [] } }
  l.foldl (fun (t : State) c => (t.suspendAtCheckpoint c).raise F.CHK_EVENT_TAKEOVER_SUSPEND c 1) s1

/-- The words that were posted and not taken, and those that waited for a mailbox, are posted again under the new epoch:
host words at their indices, agents' words when the mailbox clears (R287). -/
def takeoverWords (s : State) : State :=
  let again := (s.mbx.posted.filter (fun x => x.party == Party.host || x.party == Party.agent)).map (fun (x : Posted) =>
    (⟨x.party, x.node, x.idx, x.word, x.item⟩ : Waiting))
  let queued := s.mbx.waiting.filter (fun x => x.party == Party.host || x.party == Party.agent)
  let rest := s.mbx.waiting.filter (fun x => !(x.party == Party.host || x.party == Party.agent))
  let s1 := { s with mbx := { s.mbx with posted := s.mbx.posted.filter (fun x => x.party != Party.host), waiting := rest } }
  let s2 := ((s1.p F.MBX_HOUT_FULL_FULL 0).rstAll .MBX_HOUT).varlorReset 4
  let stamp (x : Waiting) : Word := mkWord s2.epoch (wordType x.word) (wordPayload x.word)
  (again ++ queued).foldl (fun (t : State) x => t.postWord x.party x.node x.idx (stamp x) x.item) s2

/-- R355: a removal resumes at its mirrored step: the erasure of step 5 is repeated, forced rekeys that are not confirmed start
again, and this module's own scrub starts from the beginning. -/
def takeoverRemoval (s : State) : State :=
  let n := s.g F.KEY_STATUS_REMOVE_STEP
  if n < 5 then s
  else
    let s1 := s.eraseKeys
    let s2 := if n = 7 then s1.startScrub else s1
    s2.key.forced.foldl (fun (t : State) (x : Forced) => t.forceDirection x.spire x.node x.port) s2

/-- TAKEOVER_ACT (R368, R371): the new active module acts from its first round boundary. After a planned switch the handed
lanes stay current, and only R283 to R287 and R346 apply. -/
def takeoverAct (s : State) : State :=
  match s.twin.actsAt with
  | none => s
  | some r =>
    if s.round < r || !s.isActive then s
    else
      let planned := s.twin.switchRound.isSome
      let late := s.twin.shadowLast ++ s.twin.shadow
      let s1 := { s with
        twin := { s.twin with actsAt := none, switchRound := none, shadow := [], shadowLast := [], kept := [] }
        sent := if planned then s.sent else s.sent ++ late
        rep := { s.rep with heard := [], heardBefore := [], reread := some s.round }
        eth := { s.eth with sessions := [], handshakes := [] }
        key := { s.key with admittedHost := [], cak := none }
        sen := { s.sen with now := [], last := [] } }
      let s2 := ((s1.p F.TWIN_STATUS_SWITCH_PENDING 0).p F.ETH_STATUS_ADMITTED 0).p F.ETH_STATUS_SECURED 0
      let s3 := s2.takeoverWords.takeSpireAddress
      let s4 := if planned then s3.takeLanes
        else
          let a := s3.takeoverInstall.takeoverCupolas.takeoverChannels
          a.takeoverTasks.takeoverGuard.takeoverRemoval
      let s5 := { s4 with twin := { s4.twin with received := [] } }
      let st := s5.discState
      let s6 := if st = DState.settling || st = DState.walking || st = DState.matching then s5.startWalk else s5
      s6.lanternRole

-- Planned switches (R369 to R371)

/-- Every block of a lane that a hand-over copies: (key, lane, region, bytes). -/
def handoverBlocks (s : State) : List (Nat × Nat × Nat × Bytes) :=
  (s.grd.groups.flatMap (fun g => (g.parity.filter (fun b => g.bound && (localCurrent g).contains b.lane)).map (fun b =>
    (laneKey none g.gid, b.lane, b.region, b.block))))
  ++ s.grd.lentIn.map (fun x => (laneKey (some x.spire) x.group, x.lane, x.region, x.block))

/-- A block has been copied as it now is. -/
def copiedNow (s : State) (b : Nat × Nat × Nat × Bytes) : Bool :=
  s.twin.copied.contains (b.1, b.2.1, b.2.2.1, crc64 b.2.2.2)

/-- A block was copied, and has been written since: it is dirty (R370). -/
def isDirty (s : State) (b : Nat × Nat × Nat × Bytes) : Bool :=
  !s.copiedNow b && s.twin.copied.any (fun c => c.1 == b.1 && c.2.1 == b.2.1 && c.2.2.1 == b.2.2.1)

/-- R370: rounds in which lanes are copied: no guarded group is in INGEST, ROLLING_BACK, RECONSTRUCTING or REGENERATING. -/
def quietLanes (s : State) : Bool :=
  s.grd.groups.all (fun g => !g.bound || s.gphase g.gid == GPhase.quiet || s.gphase g.gid == GPhase.folded)

/-- The PARITY frames of one block. -/
def sendBlock : Nat → List Nat → Bytes → State → State
  | 0, _, _, s => s
  | n + 1, data, bs, s =>
    let s1 := s.mirrorSend Mirror.parity false data (bs.take mirrorPayload)
    if bs.length ≤ mirrorPayload then s1 else sendBlock n data (bs.drop mirrorPayload) s1

/-- Blocks that one round's share of the twin ports copies. -/
def copyBlocks : List (Nat × Nat × Nat × Bytes) → Nat → State → State
  | [], _, s => s
  | b :: l, room, s =>
    if room < b.2.2.2.length then s
    else
      let s1 := sendBlock (b.2.2.2.length / mirrorPayload + 1) [b.1, b.2.1, b.2.2.1] b.2.2.2 s
      let old := s1.twin.copied.filter (fun c => !(c.1 == b.1 && c.2.1 == b.2.1 && c.2.2.1 == b.2.2.1))
      copyBlocks l (room - b.2.2.2.length)
        { s1 with twin := { s1.twin with copied := old ++ [(b.1, b.2.1, b.2.2.1, crc64 b.2.2.2)] } }

/-- The hand-over in one round (R370). -/
def pumpHandover (s : State) : State :=
  if !(s.b F.TWIN_STATUS_HANDOVER || s.twin.handoverDone) || !s.isActive then s
  else
    let blocks := s.handoverBlocks
    let s1 := if s.quietLanes then copyBlocks (blocks.filter (fun b => !s.copiedNow b)) (handoverRate * s.roundNs) s else s
    let done := ((blocks.filter s1.copiedNow).map (fun b => b.2.2.2.length)).sum
    (s1.p F.TWIN_HANDOVER_COPIED_MIB (done / 2 ^ 20)).p F.TWIN_HANDOVER_DIRTY (sat 20 (blocks.filter s1.isDirty).length)

/-- R371: what a switch round asks for. -/
def switchReady (s : State) : Bool :=
  s.grd.groups.all (fun g => !g.bound || s.gphase g.gid == GPhase.quiet)
    && (s.tasksWhere (fun t => t.live && (t.kind == Kind.exp || t.kind == Kind.imp))).isEmpty
    && s.bell.install.isNone && s.rep.batch.isEmpty && s.rep.chosen.isNone && s.cup.carves.isEmpty

/-- R371: after the hand-over the active module names the next round boundary as switch round, as soon as it may be one. -/
def nameSwitch (s : State) : State :=
  if s.isActive && s.twin.handoverDone && s.twin.switchRound.isNone && s.switchReady && s.handoverBlocks.all s.copiedNow then
    let r := s.round + 1
    ({ s with twin := { s.twin with switchRound := some r } }.p F.TWIN_STATUS_SWITCH_PENDING 1).postTwin 0 0x16 r
  else s

/-- R370: the hand-over toward the partner begins. -/
def startHandover (s : State) : State :=
  let s1 := { s with twin := { s.twin with copied := [], handoverDone := false, switchRound := none, switchWanted := true,
                                           switchSince := s.round } }
  ((s1.p F.TWIN_STATUS_HANDOVER 1).p F.TWIN_HANDOVER_COPIED_MIB 0).p F.TWIN_HANDOVER_DIRTY 0

/-- A switch is in hand on the active module. -/
def switching (s : State) : Bool := s.twin.switchWanted && s.isActive

/-- R372: a hard drill: the active module stops closing rounds without RELEASE. -/
def hardStop (s : State) : State := { s with twin := { s.twin with stopped := true, hardStopped := true } }

/-- SWITCH (R369) on the active module. -/
def switchCommand (s : State) : State :=
  if s.pair ≠ Pair.active || s.twin.stopped then s.err Status.state 0
  else if s.switching then s.err Status.busy 0
  else s.startHandover.ok

/-- DRILL (R372). -/
def drill (s : State) (hard : Bool) : State :=
  if s.pair ≠ Pair.active || s.twin.stopped then s.err Status.state 0
  else if s.switching then s.err Status.busy 0
  else
    let s1 := (s.p F.TWIN_STATUS_DRILL 1).count .TWIN_COUNT 5
    (if hard then s1.hardStop else s1.startHandover).ok

/-- SWITCH_REQ (R369, R372): the partner asks for a switch or a drill. -/
def switchReq (s : State) (drill hard : Bool) : State :=
  if s.pair ≠ Pair.active || s.twin.stopped then s.postTwin 0 0x17 1
  else if s.switching then s
  else if drill && hard then s.hardStop
  else s.startHandover

/-- HANDOVER_DONE (R370). -/
def handoverDone (s : State) : State :=
  if s.switching && s.b F.TWIN_STATUS_HANDOVER then
    ({ s with twin := { s.twin with handoverDone := true } }.p F.TWIN_STATUS_HANDOVER 0).nameSwitch
  else s

/-- SWITCH_ACK (R371) at the partner. -/
def switchAck (s : State) (r : Nat) : State :=
  if s.pair = Pair.standby then { s with twin := { s.twin with switchRound := some r } }.p F.TWIN_STATUS_SWITCH_PENDING 1
  else s

/-- SWITCH_REFUSE (R371) at the partner. -/
def switchRefuse (s : State) : State := s.dropSwitch.failDrill.raise F.TWIN_EVENT_SWITCH_REFUSED 0 1

/-- The active module refuses the switch that it has in hand. -/
def refuseSwitch (s : State) (reason : Nat) : State := s.dropSwitch.postTwin 0 0x17 reason

/-- SWITCH_ROUND (R371): at the boundary of round r the active module releases the spire and the partner claims it. -/
def switchRound (s : State) : State :=
  match s.twin.switchRound with
  | none => s
  | some r =>
    if s.round < r then s
    else if s.isActive && s.twin.actsAt.isNone then
      let back := if s.b F.TWIN_STATUS_DRILL then some (r + 1 + s.g F.TWIN_CFG_DRILL_ROUNDS) else s.twin.drillReturn
      let s1 := s.sendRelease.enterSyncing
      { s1 with twin := { s1.twin with drillReturn := back } }.count .TWIN_COUNT 4
    else if s.pair = Pair.standby then s.startClaim
    else s

/-- SWITCH_ROUND_TIMEOUT (R371): no round allowed the switch within 65,536 rounds. -/
def switchRoundTimeout (s : State) : State :=
  if s.switching && s.twin.switchRound.isNone && decide (s.twin.switchSince + 65536 ≤ s.round) then
    ((s.refuseSwitch 2).raise F.TWIN_EVENT_SWITCH_REFUSED 0 1).failDrill
  else s

/-- CANCEL (R372): before the switch round. -/
def twinCancel (s : State) : State :=
  let early := match s.twin.switchRound with | some r => decide (s.round < r) | none => true
  if s.switching && early then ((s.refuseSwitch 3).p F.TWIN_STATUS_DRILL 0).ok else s.err Status.state 0

/-- AUTO_RETURN (R369). -/
def autoReturn (s : State) : State :=
  if s.isPrimary && s.b F.TWIN_CFG_AUTO_RETURN && s.pair = Pair.standby
      && decide (s.twin.standbySince + s.g F.TWIN_CFG_RETURN_DELAY ≤ s.round)
      && s.bell.install.isNone && s.rep.batch.isEmpty && !s.twin.switchWanted then
    { s with twin := { s.twin with switchWanted := true } }.postTwin 0 0x15 0
  else s

/-- DRILL_RETURN (R372): after DRILL_ROUNDS the old active module asks for its return. -/
def drillReturn (s : State) : State :=
  match s.twin.drillReturn with
  | some r =>
    if r ≤ s.round && s.pair = Pair.standby then
      { s with twin := { s.twin with drillReturn := none, switchWanted := true } }.postTwin 0 0x15 1
    else s
  | none => s

/-- The regions that the partner is to receive from the active module: every current local lane of a bound group. -/
def expectedRegions (s : State) : List (Nat × Nat × Nat) :=
  s.grd.groups.flatMap (fun g => if g.bound then
    (localCurrent g).flatMap (fun j => (List.range g.count).map (fun r => (g.gid, j, r))) else [])

/-- The length of a region's block of a lane. -/
def blockLength (s : State) (group region : Nat) : Nat :=
  match s.group group with
  | some g => g.span region
  | none => 0

/-- PARITY (R370): a part of a lane's region is stored under this module's own memory key; the hand-over is over when every
region has come. -/
def parity (s : State) (f : MirrorF) (group lane region : Nat) : State :=
  match s.mirrorAccept f with
  | (t, false) => t
  | (t, true) =>
    let same (e : Nat × ParityBlock) : Bool := e.1 == group && e.2.lane == lane && e.2.region == region
    let old := match t.twin.received.find? same with | some e => e.2.block | none => []
    let base := if old.length < t.blockLength (group % 65536) region then old else []
    let e : Nat × ParityBlock := (group, ⟨lane, region, base ++ f.payload⟩)
    let got := t.twin.received.filter (fun x => !same x) ++ [e]
    let whole (x : Nat × Nat × Nat) : Bool := got.any (fun (y : Nat × ParityBlock) => y.1 == x.1 && y.2.lane == x.2.1
      && y.2.region == x.2.2 && decide (t.blockLength x.1 x.2.2 ≤ y.2.block.length))
    let t1 := { t with twin := { t.twin with received := got } }
    if !t.twin.handoverDone && t1.expectedRegions.all whole then
      { t1 with twin := { t1.twin with handoverDone := true } }.postTwin 0 0x19 (min got.length (2 ^ 48 - 1))
    else t1

-- Feeds (R374, R375)

/-- The state of a feed at a voltage (Table 14.8); a state that it leaves takes 0.5 V to come back to. -/
def feedState (old mv : Nat) : Nat :=
  if mv < (if old = 2 then 40500 else 40000) then 2
  else if (if old = 3 then 78500 else 79000) < mv then 3
  else if mv < (if old = 0 then 66000 else 66500) || (if old = 0 then 76000 else 75500) < mv then 1
  else 0

/-- FEED_STATE_CHANGE (R374, R375). -/
def feedStateChange (s : State) (feed mv : Nat) : State :=
  if 2 ≤ feed then s
  else
    let old := s.gi F.TWIN_FEED_STATE feed
    let st := feedState old mv
    let s1 := (s.pi F.TWIN_FEED_MV feed (sat 17 mv)).pi F.TWIN_FEED_STATE feed st
    let s2 := if 2 ≤ st then s1.pi F.TWIN_FEED_MA feed 0 else s1
    if st = old then s2
    else
      let s3 := (s2.raise F.TWIN_EVENT_FEED_CHANGE feed st).eventRecord F.TWIN_EVENT_FEED_CHANGE 4 feed
        (leBytes 8 (s2.rd .TWIN_FEED 0 feed).toNat)
      s3.postTwin 0 0x1B (s3.gi F.TWIN_FEED_STATE 0 + 4 * s3.gi F.TWIN_FEED_STATE 1)

/-- A feed conducts: OK or OUT_OF_RANGE (Table 14.8). -/
def feedConducts (s : State) : Bool := (List.range 2).any (fun f => decide (s.gi F.TWIN_FEED_STATE f < 2))

end State

-- The meanings

/-- TAKEOVER_ACT (R368). -/
def execTakeoverAct (s : State) : Host.Outcome State Fault Refusal := finish (s.after s.takeoverAct)
/-- SWITCH (R369). -/
def execSwitch (s : State) : Host.Outcome State Fault Refusal := finish s.switchCommand
/-- DRILL (R372). -/
def execDrill (hard : Bool) (s : State) : Host.Outcome State Fault Refusal := finish (s.drill hard)
/-- SWITCH_REQ (R369). -/
def execSwitchReq (drill hard : Bool) (s : State) : Host.Outcome State Fault Refusal := finish (s.switchReq drill hard)
/-- SWITCH_ACK (R371). -/
def execSwitchAck (round : Nat) (s : State) : Host.Outcome State Fault Refusal := finish (s.switchAck round)
/-- SWITCH_REFUSE (R371). -/
def execSwitchRefuse (_reason : Nat) (s : State) : Host.Outcome State Fault Refusal := finish s.switchRefuse
/-- HANDOVER_DONE (R370). -/
def execHandoverDone (_regions : Nat) (s : State) : Host.Outcome State Fault Refusal := finish s.handoverDone
/-- PARITY (R370). -/
def execParity (f : MirrorF) (group lane region : Nat) (s : State) : Host.Outcome State Fault Refusal :=
  finish (s.parity f group lane region)
/-- TWIN_CANCEL (R372). -/
def execTwinCancel (s : State) : Host.Outcome State Fault Refusal := finish s.twinCancel
/-- AUTO_RETURN (R369). -/
def execAutoReturn (s : State) : Host.Outcome State Fault Refusal := finish s.autoReturn
/-- SWITCH_ROUND (R371). -/
def execSwitchRound (s : State) : Host.Outcome State Fault Refusal := finish s.switchRound
/-- SWITCH_ROUND_TIMEOUT (R371). -/
def execSwitchRoundTimeout (s : State) : Host.Outcome State Fault Refusal := finish s.switchRoundTimeout
/-- DRILL_RETURN (R372). -/
def execDrillReturn (s : State) : Host.Outcome State Fault Refusal := finish s.drillReturn

end Sys2Proof.Machine
end

