-- ==== Sys2Proof/Machine/Startup.lean ====
section
/-! DEFINITION. Supplies, the power cycle and bring-up (R308, R317, R341, R376, R409 to R419, R431, R440 to R443, R449,
R458). -/
namespace Sys2Proof.Machine

/-- Registers whose words outlast a cold start: what module flash, the fuses, the pins and the belfry's clock give, the
rails and feeds, and PWR_CFG, which selects the memory test of the start. -/
def coldKeeps : List Reg :=
  [.LANT_FLOOR, .BELF_STAMP, .BELF_CYCLE, .BELF_USED, .KEY_SLOT_INFO, .KEY_SLOT_SEQ, .KEY_SLOT_DIGEST, .PWR_SITE, .PWR_CFG,
   .IDENT_ID, .IDENT_PART, .IDENT_SITE, .IDENT_LIC, .IDENT_FW, .IDENT_INTERNAL, .TWIN_FEED, .PWR_RAIL]

/-- Fields of other registers that outlast a cold start. -/
def coldFields : List Fld :=
  [F.MBX_EPOCH_EPOCH, F.MBX_EPOCH_KEY_EPOCH, F.KEY_MEM_GENERATION, F.KEY_TENANT_EPOCH, F.PWR_LIC_STATUS_COUNT,
   F.TWIN_STATUS_LETTER, F.KEY_STATUS_DEBUG_LOCKED, F.KEY_STATUS_DEBUG_TAINT, F.GRAPH_RING_CFG_EPOCH]

/-- Set points of the rails in mV (Table 17.1). -/
def railMv : List Nat := [3300, 900, 1800, 750, 720, 1050, 500, 1200, 3300]

/-- The code by which stage 4 names a GF lane among its failed units; bank groups are 0 to 103. -/
def gfUnit : Nat := 128

namespace State

-- Flash and the belfry over a power cycle

/-- R411, R317: open cells close, a freeze ends, and every waiting record goes to flash. -/
def flushBelfry (s : State) : State :=
  let s1 := s.closeCells
  let s2 := if s1.g F.BELF_STATUS_STATE = 1 then s1.endFreeze false else s1
  let n := s2.belf.queue.length + s2.belf.staged.length
  ((List.range n).foldl (fun (t : State) _ => t.recordFlashWrite true) s2).writeOverflowSlots

/-- The overflow aggregate that an overflow slot holds (R313). -/
def slotAggregate (l : List (Nat × Record)) (i : Nat) : Aggregate :=
  match l.find? (fun e => e.1 == i) with
  | some (_, r) => ⟨r.count, field r.body 0 8, r.source, r.first, r.last, false⟩
  | none => Aggregate.empty

/-- BELF_OVERFLOW shows the aggregates. -/
def showOverflow (s : State) : State :=
  (List.range 8).foldl (fun (t : State) i =>
    let a := s.belf.aggregates.getD i Aggregate.empty
    (t.pi F.BELF_OVERFLOW_RECORDS i a.records).pi F.BELF_OVERFLOW_LAST_SOURCE i a.lastSource) s

/-- The capacities that the repair map leaves (R40, R421, PLAN_CAPACITY). -/
def showCapacity (s : State) : State :=
  (s.p F.PLAN_CAPACITY_SRAM_MIB (80 * s.g F.IDENT_INTERNAL_BANKS)).p F.PLAN_CAPACITY_DRAM_GIB
    (64 * s.g F.IDENT_INTERNAL_PACKAGES)

/-- Everything at its reset value but what module flash, the always-on domain and the agents keep (Table 17.4, R206, R291,
R308, R319, R341). -/
def cold (s : State) : State :=
  let z := State.reset
  let kept := s.regs.filter (fun e => coldKeeps.any (fun (r : Reg) => r.ctorIdx == e.1.r) || agentRegs.contains e.1.r)
  let addr := s.listed .ETH_ADDR
  let pw : Pwr := { s.pwr with
    pace := z.pwr.pace, windows := 0, fallback := [], feedHold := false, feedEconomy := false, feedCalm := none,
    regionLoss := [], exportLost := 0, segment := [], licence := [], goodRounds := 0, partnerFeatures := none,
    resetFull := false, resetForce := false, waitFrom := 0, channelFails := [], retraining := [], retrains := [],
    lastAddr := if addr.isEmpty then s.pwr.lastAddr else addr, toStarting := false }
  let aggs := (List.range 8).map (slotAggregate s.belf.flash)
  let bf : Belf := { z.belf with
    queue := [], flash := s.belf.flash, aggregates := aggs, opFlash := s.belf.opFlash, badSlots := s.belf.badSlots,
    sentinel := s.belf.sentinel, prevClean := s.belf.prevClean, prevOp := s.belf.prevOp }
  let t : State := { z with
    regs := kept, agents := s.agents, belf := bf, pwr := pw, pins := s.pins, answer := s.answer, sent := s.sent,
    free := s.free, pending := s.pending }
  let t1 := coldFields.foldl (fun (u : State) f => u.p f (s.g f)) t
  let t2 := (List.range 8).foldl (fun (u : State) i => u.pi F.KEY_SLOT_INFO_AGREE i 0) t1
  let t3 := if s.g F.BELF_STATUS_STATE = 3 then
      (t2.p F.BELF_STATUS_STATE 3).p F.BELF_STATUS_FLASH_READABLE (s.g F.BELF_STATUS_FLASH_READABLE)
    else t2
  let t4 := if s.plan.cur.isSome then
      (t3.p F.GRAPH_RING_CFG_EPOCH ((s.g F.GRAPH_RING_CFG_EPOCH + 1) % 2 ^ 32)).raise F.GRAPH_EVENT_RING_LOST 0 1
    else t3
  t4.showOverflow.showCapacity

/-- A new memory generation (R341). -/
def newMemory (s : State) : State := s.p F.KEY_MEM_GENERATION ((s.g F.KEY_MEM_GENERATION + 1) % 2 ^ 32)

/-- The keystone resets: its mailbox epoch (R328). -/
def newKeystone (s : State) : State := s.p F.MBX_EPOCH_KEY_EPOCH ((s.g F.MBX_EPOCH_KEY_EPOCH + 1) % 256)

/-- Rails 1 to 8 go down (R409). -/
def railsOff (s : State) : State := ((List.range 8).map (· + 1)).foldl (fun (t : State) r => t.rst .PWR_RAIL 0 r) s

/-- The module goes down (R376, R411): POWER_LOSS to the partner, RELEASE when active; an end is clean when the belfry has
been flushed. -/
def powerOff (s : State) (clean : Bool) : State :=
  if !s.pwr.started then s
  else
    let s1 := if clean then s.flushBelfry else s
    let s2 := s1.postTwin 0 0x1A 0
    let s3 := if s2.isActive then s2.sendRelease else s2
    let t := s3.cold.railsOff
    { t with
      belf := { t.belf with prevClean := clean }
      pwr := { t.pwr with started := false, counted := false } }

/-- POWER_FAIL (R376): neither feed conducts. -/
def powerFail (s : State) : State := s.powerOff false

/-- R439: a draw that still reaches 16 A at economy makes the input fall away, and the module goes down. -/
def feedLimit (s : State) (ma : Nat) : State :=
  let one := decide (s.gi F.TWIN_FEED_STATE 0 < 2) != decide (s.gi F.TWIN_FEED_STATE 1 < 2)
  if s.pwr.feedEconomy && one && decide (16000 ≤ ma) && decide (s.g F.PWR_STATUS_CORE_MV ≤ 600) then s.powerFail
  else s.feedCurrent ma

/-- ENABLE_DEASSERT (R411). -/
def enableDeassert (s : State) : State :=
  let t := s.powerOff true
  { t with pwr := { t.pwr with enable := false, tripped := false } }

/-- JUNCTION_TRIP (R449): 112 °C. -/
def junctionTrip (s : State) (deciC : Nat) : State :=
  if deciC < 1120 then s
  else
    let s1 := (s.p F.PWR_STATUS_TJ_MAX (max (s.g F.PWR_STATUS_TJ_MAX) (sat 12 deciC))).alarm 7 0
    let t := s1.powerOff true
    { t with pwr := { t.pwr with tripped := true } }

/-- RAIL_FAULT (R410): a rail has left ±5 % of its set point. -/
def railFault (s : State) (rail mv : Nat) : State :=
  if 9 ≤ rail then s else (s.pi F.PWR_RAIL_MV rail (sat 16 mv)).pi F.PWR_RAIL_STATE rail 3

/-- The POWER record of a cycle (Table 12.2): whether the previous one ended cleanly, and its last operating time. -/
def powerRecord (s : State) (clean : Bool) (last : Nat) : Record :=
  let (fv, ft) := s.stampFlags
  ⟨0x0006, 5, fv, Source.code 12 5, 0, 0, s.g F.BELF_CYCLE_POWER_CYCLES, s.opTime, ft, s.opTime, s.opTime, 1,
    fit 64 (leBytes 1 (if clean then 1 else 0) ++ leBytes 8 last)⟩

/-- STANDBY_RAIL_UP (R283, R308, R317, R356, R440): a new power cycle; the straps and the letter are sampled. -/
def standbyRailUp (s : State) (slot letter : Nat) : State :=
  let clean := s.belf.prevClean && !s.pwr.started
  let last := s.belf.opFlash
  let s0 := s.cold
  let s1 := ((s0.rstAll .PWR_RAIL).rst .PWR_CFG 0 0).p F.KEY_STATUS_DEBUG_LOCKED 0
  let s2 := (s1.p F.KEY_STATUS_DEBUG_TAINT 0).p F.BELF_CYCLE_POWER_CYCLES (sat 32 (s.g F.BELF_CYCLE_POWER_CYCLES + 1))
  let s3 := ((s2.p F.BELF_STAMP_OP_TIME (last + 1024)).p F.MBX_EPOCH_EPOCH ((s.epoch + 1) % 256)).newKeystone
  let s4 := ((s3.p F.IDENT_PART_LETTER (letter % 2)).p F.IDENT_PART_SLOT_ID (slot % 64)).p F.TWIN_STATUS_LETTER (letter % 2)
  let s5 := { s4 with
    belf := { s4.belf with prevClean := false, prevOp := last, opFlash := last + 1024, queue := [s4.powerRecord clean last] }
    mbx := { s4.mbx with lastKind := 1, lastPrev := s.epoch }
    pwr := { s4.pwr with standbyUp := true, i3cAddress := 0, i3cIndex := 0, slotId := slot % 64, letter := letter % 2,
                         started := false, fresh := true, counted := false, unclean := !clean } }
  if clean then s5 else s5.raise F.BELF_EVENT_UNCLEAN_START 0 1

/-- STRAP_CHANGE (R440): no effect but a record. -/
def strapChange (s : State) : State := s.record 0x0008 3 (Source.code 0 0) 0 (leBytes 8 (s.rd .IDENT_PART 0 0).toNat)

/-- A rail comes into regulation: its voltage is measured within ±3 % of its set point, and its current. -/
def railUp (s : State) (r : Nat) : State :=
  let mv := railMv.getD r 0
  let band := mv * 3 / 100
  let (n, s1) := s.draw
  let (k, s2) := s1.draw
  ((s2.pi F.PWR_RAIL_MV r (mv - band + Config.freeValue n % (2 * band + 1))).pi F.PWR_RAIL_MA r
    (Config.freeValue k % 2 ^ 32)).pi F.PWR_RAIL_STATE r 2

/-- Bring-up starts (R413): a cold start (R283, R313, R341). The first one of a power cycle shares its epoch with the
cycle. -/
def coldStart (s : State) : State :=
  let s1 := if s.pwr.fresh then s.p F.MBX_EPOCH_EPOCH ((s.epoch + 255) % 256) else s
  let s2 := s1.varlorReset 1
  let s3 := if s.pwr.counted then s2 else s2.newMemory
  let s4 := { s3 with
    belf := { s3.belf with flash := s3.belf.flash.filter (fun e => decide (8 ≤ e.1)),
                           aggregates := List.replicate 8 Aggregate.empty, prevClean := false }
    pwr := { s3.pwr with started := true, fresh := false, counted := true } }
  let s5 := (s4.showOverflow.p F.PWR_STATUS_STAGE 0).p F.PWR_STATUS_STAGE_FAIL 0
  (s5.railUp 0).pi F.PWR_RAIL_STATE 1 1

/-- ENABLE_ASSERT (R412, R413, R441, R449). -/
def enableAssert (s : State) : State :=
  let ok := (List.range 2).any (fun f => s.gi F.TWIN_FEED_STATE f == 0)
  let s1 := { s with pwr := { s.pwr with enable := true } }
  if s.pwr.started || s.pwr.tripped || !ok || !s.pwr.standbyUp then s1 else s1.coldStart

/-- R412, R441: ENABLE is acted upon only while a feed is OK; an assertion that still stands is acted upon when one becomes so. -/
def heldEnable (s : State) : State := if s.pwr.enable then s.enableAssert else s

-- The stages of bring-up (Table 17.2)

/-- A stage has ended: the next one is shown. -/
def nextStage (s : State) (n : Nat) : State := (s.p F.PWR_STATUS_STAGE n).p F.PWR_STATUS_STAGE_FAIL 0

/-- A stage has failed, and bring-up stays in it; a new image that fails a stage is given up (R433). -/
def failStage (s : State) (n : Nat) : State :=
  ((s.p F.PWR_STATUS_STAGE_FAIL 1).raise F.PWR_EVENT_STAGE_FAIL n 1).firmwareFallback

/-- R431: the preferred slot when it verifies, otherwise the other one; `none` in RECOVERY. -/
def slotFor (s : State) (bad : List Nat) : Option Nat :=
  let good (i : Nat) : Bool := !bad.contains i && (match s.pwr.images[i]? with | some x => x.valid | none => false)
  let p := s.pwr.preferred % 2
  if good p then some p else if good (1 - p) then some (1 - p) else none

/-- The image of a slot runs: IDENT_FW and the mirror level show it (R430, R431, R433). -/
def runSlot (s : State) (slot : Nat) (bad : List Nat) : State :=
  let s1 := if slot = s.pwr.preferred % 2 then s
    else
      let t := { s with pwr := { s.pwr with preferred := slot, applying := false, goodRounds := 0 } }
      (t.p F.PWR_FW_STATUS_STATE 0).raise F.PWR_EVENT_FW_FALLBACK slot 1
  let im := s1.pwr.images.getD slot ⟨false, 0, 0, 1, none⟩
  let other := s1.pwr.images.getD (1 - slot) ⟨false, 0, 0, 1, none⟩
  let s2 := ((s1.p F.IDENT_FW_SLOT slot).p F.IDENT_FW_COMMITTED (if s1.pwr.applying then 0 else 1)).p F.IDENT_FW_OTHER_VALID
    (if other.valid && !bad.contains (1 - slot) then 1 else 0)
  let s3 := ((s2.p F.IDENT_FW_MIRROR_LEVEL im.level).p F.IDENT_FW_SECURITY im.security).p F.IDENT_FW_VERSION im.version
  let s4 := s3.p F.TWIN_STATUS_MIRROR_LEVEL im.level
  if s4.pwr.applying then s4.p F.PWR_FW_STATUS_STATE 4 else s4

/-- Stage 2 (R431). RECOVERY answers with the address of the last configuration. -/
def stageFirmware (s : State) (r : StageResult) : State :=
  let bad := if r.ok then r.failed else if r.failed.isEmpty then [s.pwr.preferred % 2] else r.failed
  match s.slotFor bad with
  | some slot => (s.runSlot slot bad).nextStage 3
  | none => s.pwr.lastAddr.foldl (fun (t : State) e => t.wr .ETH_ADDR 0 e.1 e.2) ((s.p F.PWR_STATUS_STAGE_FAIL 1).p F.PWR_STATUS_STAGE 14)

/-- The licence in force: the one with the highest sequence (R434). -/
def licence (s : State) : Option Licence :=
  s.pwr.licences.foldl (fun best l =>
    match best with
    | none => some l
    | some b => if b.sequence < l.sequence then some l else some b) none

/-- IDENT_LIC shows the licence in force; without one it reads CODE 0 and enables nothing (Table 17.2, R435). -/
def showLicence (s : State) (l : Option Licence) : State :=
  match l with
  | some x =>
    (((((s.p F.IDENT_LIC_CODE x.code).p F.IDENT_LIC_FEATURES x.features).p F.IDENT_LIC_AGENTS x.agents).p F.IDENT_LIC_PORTS
      x.ports).p F.IDENT_LIC_SEQUENCE (x.sequence % 2 ^ 32)).showPairFeatures
  | none => s.wr .IDENT_LIC 0 0 0

/-- A port that the licence does not enable (R3). -/
def unlicensed (s : State) (port : Nat) : Bool := decide (s.g F.IDENT_LIC_PORTS ≤ port)

/-- Stage 4 (R419, R421): a physical unit that fails BIST joins the repair map; one beyond the spares is lost. -/
def mapOut (s : State) (u : Nat) : State :=
  if u < gfUnit then
    if s.pwr.banksRetired.contains u then s
    else
      let n := s.g F.IDENT_INTERNAL_BANK_SPARES
      let s1 := { s with pwr := { s.pwr with banksRetired := s.pwr.banksRetired ++ [u] } }
      if 0 < n then s1.p F.IDENT_INTERNAL_BANK_SPARES (n - 1) else (s1.raise F.PWR_EVENT_SRAM_RETIRED u 1).loseBank u none
  else if s.pwr.lanesRetired.contains (u - gfUnit) then s
  else
    let j := u - gfUnit
    let n := s.g F.IDENT_INTERNAL_GF_SPARES
    if 0 < n then
      let s1 := { s with pwr := { s.pwr with lanesRetired := s.pwr.lanesRetired ++ [j] } }
      s1.p F.IDENT_INTERNAL_GF_SPARES (n - 1)
    else s.retireLane j

/-- R419: after stage 4 the logical units that are left take the good physical units in ascending order. -/
def mapDies (s : State) : State :=
  { s with pwr := { s.pwr with
    bankMap := mapUnits (s.g F.IDENT_INTERNAL_BANKS) 104 s.pwr.banksRetired
    laneMap := mapUnits (s.g F.IDENT_INTERNAL_GF_LANES) 72 s.pwr.lanesRetired } }

/-- R417: the memory test of this start is the full one. -/
def fullTest (s : State) : Bool :=
  let mode := s.g F.PWR_CFG_MEMTEST
  let noPower := !s.belf.flash.any (fun e => e.2.rtype == 6 && decide (e.2.cycle < s.g F.BELF_CYCLE_POWER_CYCLES))
  let late := decide (s.g F.PWR_CFG_FULL_PERIOD * 86400 * 16 < s.opTime - s.pwr.lastFullOp)
  mode == 2 || (mode != 1 && (noPower || s.pwr.unclean || s.pwr.memoryFault || late || s.pwr.fullTest))

/-- Stage 6 (R319, R417, R418): the memory test; the optics are then powered, all licensed ports at once (R3). -/
def stageMemory (s : State) (r : StageResult) : State :=
  let full := s.fullTest
  let passed := r.ok && r.failed.isEmpty
  let s1 := r.failed.foldl (fun (t : State) k => t.packageFailure k) s
  let s2 := { s1 with pwr := { s1.pwr with
    memoryFault := !passed, lastFullOp := if full then s.opTime else s.pwr.lastFullOp, fullTest := false, unclean := false } }
  let s3 := s2.p F.PWR_STATUS_LAST_FULL (if full then 1 else 0)
  let s4 := if passed then
      let t := { s3 with belf := { s3.belf with sentinel := State.reset.belf.sentinel } }
      if t.g F.BELF_STATUS_STATE = 3 then (t.p F.BELF_STATUS_STATE 0).p F.BELF_STATUS_FLASH_READABLE 0 else t
    else s3
  ((List.range 48).foldl (fun (t : State) p => t.pi F.PORT_STATUS_STATE p (if t.unlicensed p then 6 else 1)) s4).nextStage 7

/-- Stage 7: licensed ports have trained; one that did not is FAILED (R428). -/
def stageOptics (s : State) (r : StageResult) : State :=
  ((List.range 48).foldl (fun (t : State) p =>
    if t.unlicensed p then t
    else if r.failed.contains p then ((t.pi F.PORT_STATUS_STATE p 5).pi F.PORT_STATUS_LANES p 0).raise F.PORT_EVENT_FAILED p 1
    else t.portTrained (510 + t.g F.TWIN_STATUS_LETTER) p) s).nextStage 8

/-- Stage 8: the lantern runs, and the pair rules begin (R416). -/
def stageLantern (s : State) (r : StageResult) : State :=
  if r.ok then
    let s1 := { s with
      twin := { s.twin with startedRound := s.round, helloRound := s.round, stopped := false }
      pwr := { s.pwr with resetFull := false } }
    (s1.p F.PWR_STATUS_RESET 0).nextStage 9
  else (s.raise F.LANT_EVENT_TIME_CONFLICT 0 1).failStage 8

/-- Stage 9 (R4, R63, R69, R415): the retained plan is verified, and becomes current when it passes; without one, or when it is
refused, the module waits. `r.ok`: the copy in flash could be read. -/
def stagePlan (s : State) (r : StageResult) : State :=
  if !s.isActive then s
  else if s.plan.cur.isSome then s.maybeSettle.nextStage 10
  else if s.pwr.retained.isNone then s
  else
    let t := { s with plan := { s.plan with bytes := s.pwr.retainedImage, len := s.pwr.retainedLen } }
    match t.verifyImage with
    | some e => t.refuseImage e
    | none =>
      if r.ok then ((t.becomeCurrent t.knownImage.plan).maybeSettle).nextStage 10
      else t.p F.PLAN_STATUS_STAGED_STATE Slot.refused

/-- BRINGUP_STAGE_COMPLETE (R413 to R416, Table 17.2). -/
def bringupStage (s : State) (r : StageResult) : State :=
  if !s.pwr.started then s
  else
    let n := s.g F.PWR_STATUS_STAGE
    let t := if n < 12 then s.pi F.PWR_STAGE_MS_MS n (sat 32 r.ms) else s
    if n = 0 then
      (if r.ok then ((List.range 9).foldl (fun (u : State) k => u.railUp k) t).nextStage 1
       else r.failed.foldl (fun (u : State) k => if k < 9 then u.pi F.PWR_RAIL_STATE k 3 else u) (t.failStage 0))
    else if n = 1 then (if r.ok then (t.p F.KEY_STATUS_ENTROPY_OK 1).nextStage 2 else t.failStage 1)
    else if n = 2 then t.stageFirmware r
    else if n = 3 then (t.showLicence (if r.ok then t.licence else none)).nextStage 4
    else if n = 4 then (r.failed.foldl (fun (u : State) k => u.mapOut k) t).mapDies.nextStage 5
    else if n = 5 then (r.failed.foldl (fun (u : State) k => u.packageFailure k) t).nextStage 6
    else if n = 6 then t.stageMemory r
    else if n = 7 then t.stageOptics r
    else if n = 8 then t.stageLantern r
    else if n = 9 then t.stagePlan r
    else if n = 10 then
      (if !t.isActive then t else if r.ok && t.discState = DState.bound then t.nextStage 11 else t.failStage 10)
    else if n = 11 then (if t.isActive then t.nextStage 12 else t)
    else s

end State

/-- POWER_FAIL (R376). -/
def execPowerFail (s : State) : Host.Outcome State Fault Refusal := finish s.powerFail
/-- FEED_STATE_CHANGE (R375, R412). -/
def execFeedStateChange (feed mv : Nat) (s : State) : Host.Outcome State Fault Refusal :=
  finish (s.feedStateChange feed mv).heldEnable
/-- FEED_CURRENT_LIMIT (R439). -/
def execFeedCurrentLimit (ma : Nat) (s : State) : Host.Outcome State Fault Refusal := finish (s.feedLimit ma)
/-- STANDBY_RAIL_UP (R308). -/
def execStandbyRailUp (slotId letter : Nat) (s : State) : Host.Outcome State Fault Refusal :=
  finish (s.standbyRailUp slotId letter)
/-- STRAP_CHANGE (R440). -/
def execStrapChange (s : State) : Host.Outcome State Fault Refusal := finish s.strapChange
/-- ENABLE_ASSERT (R441). -/
def execEnableAssert (s : State) : Host.Outcome State Fault Refusal := finish s.enableAssert
/-- ENABLE_DEASSERT (R411). -/
def execEnableDeassert (s : State) : Host.Outcome State Fault Refusal := finish s.enableDeassert
/-- BRINGUP_STAGE_COMPLETE (R413). -/
def execBringupStageComplete (r : StageResult) (s : State) : Host.Outcome State Fault Refusal := finish (s.bringupStage r)
/-- JUNCTION_TRIP (R449). -/
def execJunctionTrip (deciC : Nat) (s : State) : Host.Outcome State Fault Refusal := finish (s.junctionTrip deciC)
/-- RAIL_FAULT (R410). -/
def execRailFault (rail mv : Nat) (s : State) : Host.Outcome State Fault Refusal := finish (s.railFault rail mv)

end Sys2Proof.Machine
end

