-- ==== Sys2Proof/Machine/Reset.lean ====
section
/-! DEFINITION. Service reset and full reset (R206, R209, R422 to R426, Tables 17.4 and 17.5), and the disabling of
functions (R209). -/
namespace Sys2Proof.Machine

namespace RState
abbrev running : Nat := 0
abbrev waiting : Nat := 1
abbrev draining : Nat := 2
abbrev resetting : Nat := 3
end RState

namespace State

/-- The reset state (Table 17.5). -/
def resetState (s : State) : Nat := s.g F.PWR_STATUS_RESET

/-- Nothing of a reset request is left. -/
def dropReset (s : State) : State :=
  let s1 := { s with
    pwr := { s.pwr with resetFull := false, resetForce := false, fullTest := false, waitFrom := 0 }
    graph := { s.graph with disables := s.graph.disables.filter (fun d => d.function != 7) } }
  s1.p F.PWR_STATUS_RESET RState.running

/-- FULL_RESET's own part (R317, R328, R341, R426): the belfry is flushed, everything is cold but the rails, and stage 1
follows. -/
def beginFull (s : State) : State :=
  let test := s.pwr.fullTest
  let t := ((s.flushBelfry.cold.newMemory).newKeystone).varlorReset 2
  let t1 := { t with pwr := { t.pwr with resetFull := true, fullTest := test, started := true } }
  (t1.p F.PWR_STATUS_RESET RState.resetting).nextStage 1

/-- The reset itself begins (R422, R425, R426): the steward cores and the engines stop; FOLD, GRAPH and SENTINEL are
invalidated, and JOURNAL keeps the ledger. -/
def beginReset (s : State) : State :=
  if s.pwr.resetFull then s.beginFull
  else
    let back := s.pair != Pair.solo
    let led := s.graph.ledger
    let s1 := s.eraseSram
    let s2 := { s1 with
      graph := { s1.graph with ledger := led, disables := s1.graph.disables.filter (fun d => d.function != 7), packages := [],
                               outbox := [], stage := [] }
      eth := { s1.eth with sessions := [], handshakes := [], ops := [], waiting := [], retries := [] }
      belf := { s1.belf with subs := [] }
      twin := { s1.twin with stopped := true, snapshotFrames := 0, snapshotApplied := false, inputs := [] }
      pwr := { s1.pwr with toStarting := back } }
    s2.p F.PWR_STATUS_RESET RState.resetting

/-- The drain before a requested reset: function 7 is disabled with the largest drain bound in use (R209). -/
def beginDrain (s : State) : State :=
  let b := (s.graph.tasks.filter (fun t => t.live)).foldl (fun (m : Nat) t => max m (t.drain s.tables)) 0
  let d : Disable := ⟨7, 0, s.round, b, false, false⟩
  ({ s with graph := { s.graph with disables := s.graph.disables ++ [d] } }).p F.PWR_STATUS_RESET RState.draining

/-- A requested reset by role (R423, R426). -/
def requestReset (s : State) (full force test : Bool) : State :=
  if s.resetState ≠ RState.running then s.err Status.state 0
  else
    let s1 := { s with pwr := { s.pwr with resetFull := full, resetForce := force, fullTest := test, waitFrom := s.round } }
    if s.pair = Pair.active then
      (if force then s1.sendRelease.beginReset
       else
        let s2 := s1.p F.PWR_STATUS_RESET RState.waiting
        if s2.switching then s2 else s2.startHandover).ok
    else if s.pair = Pair.solo then (if force then s1.beginDrain else s1.p F.PWR_STATUS_RESET RState.waiting).ok
    else s1.beginReset.ok

/-- A reset that waits for its module to have handed over begins once it has entered SYNCING (R423). -/
def resetAfterSwitch (s : State) : State :=
  if s.resetState = RState.waiting && s.pair = Pair.syncing then s.beginReset else s

/-- CANCEL_RESET (Table 17.5). -/
def cancelReset (s : State) : State :=
  if s.resetState = RState.waiting || s.resetState = RState.draining then s.dropReset.ok else s.err Status.state 0

/-- QUIET_ROUND_FOUND (R423). -/
def quietRound (s : State) : State :=
  if s.resetState = RState.waiting && s.pair = Pair.solo && s.quietLanes then s.beginDrain else s

/-- RESET_WAIT_EXPIRY (Table 17.5). -/
def resetWaitExpiry (s : State) : State :=
  if s.resetState = RState.waiting && !s.pwr.resetForce && decide (s.pwr.waitFrom + s.g F.PWR_CFG_RESET_WAIT ≤ s.round) then
    s.dropReset.raise F.PWR_EVENT_RESET_REFUSED 0 1
  else s

/-- STEWARD_WATCHDOG (R424, R433): no drain; a new image that has not been committed is given up. -/
def stewardWatchdog (s : State) : State :=
  if 3 ≤ s.resetState then s else s.dropReset.firmwareFallback.beginReset

/-- R206: the record of a ledger entry that has none: FAILED_UNCONFIRMED, RESET in the detail, RESTART in the flags. The
ledger does not hold the item's kind. -/
def unconfirmedRecord (s : State) (item : Nat) : State :=
  let (n, s1) := s.draw
  let idx := item % 65536
  let c : Completion := ⟨item, Fate.unconfirmed, 1, s.lant.now, 0, 0xFFFFFFFF, Config.freeValue n % 256, s.spire, 4, 0⟩
  let s2 := s1.pushRecord c
  { s2 with graph := { s2.graph with
    ledger := setKey s2.graph.ledger item true
    gens := setKey s2.graph.gens idx ((s2.generation idx + 1) % 2 ^ 16) } }

/-- R206: the ring comes back from its copy and every item without a record gets one; without a JOURNAL the ring restarts
empty. -/
def restoreRing (s : State) : State :=
  if s.b F.GRAPH_RING_CFG_JOURNALLED then
    let s1 := { s with graph := { s.graph with ring := s.graph.journal } }
    let open_ := s1.graph.ledger.filter (fun e => !e.2)
    let s2 := (open_.foldl (fun (t : State) e => t.unconfirmedRecord e.1) s1).p F.GRAPH_RING_RESERVED_RESERVED 0
    if open_.isEmpty then s2 else s2.raise F.GRAPH_EVENT_RESTART 0 open_.length
  else s.restartRing.p F.GRAPH_RING_RESERVED_RESERVED 0

/-- R422: check channels that were ATTACHED resume SUSPENDED at their checkpoint. -/
def restoreChannels (s : State) : State :=
  let l := ((List.range 32).map (· + 96)).filter (fun c => s.chkState c == Chan.attached || s.chkState c == Chan.suspending)
  l.foldl (fun (t : State) c => t.suspendAtCheckpoint c) { s with chk := { s.chk with provisional := [], claimed := [], bounds := [] } }

/-- R422: a group in another phase than QUIET or INGEST has lost what its lanes were to become: it is EXPOSED. -/
def exposeGroup (s : State) (gid : Nat) : State :=
  match s.group gid with
  | none => s
  | some g =>
    let ph := s.gphase gid
    let st := s.gstate gid
    if !g.bound || ph = GPhase.quiet || ph = GPhase.ingest then s
    else
      let s1 := (((s.updGroup gid Group.clearStep).updGroup gid Group.endShardWork).setPhase gid GPhase.quiet).loseLanes gid
        (localCurrent g)
      if st = GState.disabling || st = GState.disabled || st = GState.held then s1 else s1.expose gid

/-- R422: the guard groups at restore. -/
def restoreGroups (s : State) : State :=
  let cut := s.grd.groups.filter (fun g => g.bound && s.gphase g.gid == GPhase.ingest)
  let jobs := cut.foldl (fun (l : List (Nat × Nat)) g =>
    if l.any (fun e => e.1 == g.job) then l else l ++ [(g.job, s.recovery g.gid)]) []
  let s1 := s.grd.groups.foldl (fun (t : State) g => t.exposeGroup g.gid) s
  jobs.foldl (fun (t : State) e => t.requestRollback e.1 e.2 false) s1

/-- SERVICE_RESTORE (R206, R422, R424, R425): the engines have restarted; the slot that is preferred runs. -/
def serviceRestore (s : State) : State :=
  if s.resetState ≠ RState.resetting || s.pwr.resetFull then s
  else
    let s1 := match s.slotFor [] with
      | some slot => s.runSlot slot []
      | none => s
    let s2 := ((s1.varlorReset 3).restoreRing.restoreChannels).restoreGroups
    let s3 := { s2 with
      rep := { s2.rep with heard := [], heardBefore := [], reread := some s2.round }
      twin := { s2.twin with stopped := false, hardStopped := false }
      pwr := { s2.pwr with toStarting := false, resetForce := false, waitFrom := 0, goodRounds := 0 } }
    let s4 := if s.pwr.toStarting then
        let t := { s3 with twin := { s3.twin with startedRound := s.round, claiming := false, claimRetry := none, grants := [] } }
        (t.dropSwitch.setPair Pair.starting).p F.TWIN_STATUS_PARTNER_SEEN 0
      else s3
    (s4.p F.PWR_STATUS_RESET RState.running).raise F.PWR_EVENT_SERVICE_RESET 0 1

-- The disabling of functions (R209, Table 7.12)

/-- FUNCTION_ADMISSION_STOP (R209): from the boundary of q + 1. A guard group's admission ends by its own state (R187). -/
def functionStop (s : State) (function index : Nat) : State :=
  if function = 5 then s.retireAdmissionStop index
  else
    match s.disableOf function index with
    | some d => s.serviceStop d
    | none => s

/-- FUNCTION_DRAIN_END (R209): at the end of round q + 1 + b. -/
def functionDrain (s : State) (function index : Nat) : State :=
  if function = 5 then s.retireDrainEnd index
  else
    match s.disableOf function index with
    | some d => s.serviceDrain d
    | none => s

/-- Function 1 is DISABLED (R427): the port is held dark, and the link of a spire or peer port has failed. -/
def portDisabled (s : State) (port : Nat) : State :=
  let s1 := (s.pi F.PORT_STATUS_STATE port 2).portLost (510 + s.g F.TWIN_STATUS_LETTER) port
  ((s1.pi F.PORT_STATUS_STATE port 4).pi F.PORT_STATUS_LANES port 0).raise F.PORT_EVENT_DISABLED port 1

/-- FUNCTION_DISABLED (R187, R209, R427): at the boundary of q + 2 + b. Every record is written before a reset begins. -/
def functionDisabled (s : State) (function index : Nat) : State :=
  if function = 2 then s.disableSettle index
  else if function = 5 then s.retireRound index
  else
    match s.disableOf function index with
    | none => s
    | some d =>
      let s1 := s.serviceDisabled d
      if (s1.disableOf function index).isSome then s1
      else if function = 1 then s1.portDisabled index
      else if function = 7 && s1.resetState = RState.draining then s1.beginReset
      else s1

end State

/-- SERVICE_RESET (R423). -/
def execServiceReset (force : Bool) (s : State) : Host.Outcome State Fault Refusal := finish (s.requestReset false force false)
/-- FULL_RESET (R426). -/
def execFullReset (force fullTest : Bool) (s : State) : Host.Outcome State Fault Refusal :=
  finish (s.requestReset true force fullTest)
/-- CANCEL_RESET (Table 17.5). -/
def execCancelReset (s : State) : Host.Outcome State Fault Refusal := finish s.cancelReset
/-- QUIET_ROUND_FOUND (R423). -/
def execQuietRoundFound (s : State) : Host.Outcome State Fault Refusal := finish s.quietRound
/-- RESET_WAIT_EXPIRY (Table 17.5). -/
def execResetWaitExpiry (s : State) : Host.Outcome State Fault Refusal := finish s.resetWaitExpiry
/-- STEWARD_WATCHDOG (R424). -/
def execStewardWatchdog (s : State) : Host.Outcome State Fault Refusal := finish s.stewardWatchdog
/-- SERVICE_RESTORE (R422). -/
def execServiceRestore (s : State) : Host.Outcome State Fault Refusal := finish s.serviceRestore
/-- FUNCTION_ADMISSION_STOP (R209). -/
def execFunctionAdmissionStop (function index : Nat) (s : State) : Host.Outcome State Fault Refusal :=
  finish (s.after (s.functionStop function index))
/-- FUNCTION_DRAIN_END (R209). -/
def execFunctionDrainEnd (function index : Nat) (s : State) : Host.Outcome State Fault Refusal :=
  finish (s.after (s.functionDrain function index))
/-- FUNCTION_DISABLED (R209). -/
def execFunctionDisabled (function index : Nat) (s : State) : Host.Outcome State Fault Refusal :=
  finish (s.after (s.functionDisabled function index))

end Sys2Proof.Machine
end

