-- ==== Sys2Proof/Machine/Update.lean ====
section
/-! DEFINITION. Firmware and licences (R430 to R435). -/
namespace Sys2Proof.Machine

/-- Sizes of Tables 17.6 and 17.7: the firmware header, a signature, the largest image, the licence body. -/
def fwHeader : Nat := 256
def signatureLen : Nat := 29792
def fwMax : Nat := 64 * 2 ^ 20
def licBody : Nat := 128

-- Firmware states (PWR_FW_STATUS.STATE)
namespace Fw
abbrev none : Nat := 0
abbrev staging : Nat := 1
abbrev verified : Nat := 2
abbrev refused : Nat := 3
abbrev applied : Nat := 4
end Fw

/-- `n` staged bytes from an offset; a byte that was not written reads as zero. -/
def stagedRun : Nat → Nat → ByteMap → Bytes
  | 0, _, _ => []
  | n + 1, off, m =>
    match m.dropWhile (fun (e : Host.Cell) => decide (e.1 < off)) with
    | [] => zeros (n + 1)
    | (k, b) :: rest => if k = off then b :: stagedRun n (off + 1) rest else 0 :: stagedRun n (off + 1) ((k, b) :: rest)

namespace State

/-- The slot that does not run. -/
def otherSlot (s : State) : Nat := 1 - s.g F.IDENT_FW_SLOT

/-- PWR_STAGE_SEL_WRITE (R432, PWR_STAGE_SEL): writing a TARGET clears that target's staged content; firmware words go
directly into the slot that does not run. -/
def stageSel (s : State) (v : Word) : State :=
  let t := getBits v 0 2
  let s1 := (s.p F.PWR_STAGE_SEL_TARGET t).p F.PWR_STAGE_SEL_OFFSET (getBits v 8 24)
  let s2 := { s1 with pwr := { s1.pwr with segment := [] } }
  (if t = 1 then
    let im : List FwImage := s2.pwr.images.set s2.otherSlot ⟨false, 0, 0, 0, none⟩
    let t1 := { s2 with pwr := { s2.pwr with firmware := [], images := im } }
    let t2 := t1.p F.IDENT_FW_OTHER_VALID 0
    if t2.pwr.applying then t2 else (t2.p F.PWR_FW_STATUS_STATE Fw.none).p F.PWR_FW_STATUS_LENGTH_KIB 0
  else if t = 2 then { s2 with pwr := { s2.pwr with licence := [] } }
  else s2).ok

/-- The segment goes to its place in the selected target, and OFFSET advances (PWR_STAGE_DATA). -/
def storeSegment (s : State) : State :=
  let t := s.g F.PWR_STAGE_SEL_TARGET
  let off := s.g F.PWR_STAGE_SEL_OFFSET
  let bs : Bytes := (List.range 1024).flatMap (fun i =>
    leBytes 8 (match s.pwr.segment.find? (fun e => e.1 == i) with | some e => e.2.toNat | none => 0))
  let s1 := ({ s with pwr := { s.pwr with segment := [] } }).p F.PWR_STAGE_SEL_OFFSET (off + 1)
  if t = 1 then
    let s2 := { s1 with pwr := { s1.pwr with firmware := s1.pwr.firmware.write (off * 8192) bs } }
    let s3 := s2.p F.PWR_FW_STATUS_LENGTH_KIB (max (s.g F.PWR_FW_STATUS_LENGTH_KIB) (8 * (off + 1)))
    if s3.pwr.applying then s3 else s3.p F.PWR_FW_STATUS_STATE Fw.staging
  else if t = 2 then { s1 with pwr := { s1.pwr with licence := s1.pwr.licence.write (off * 8192) bs } }
  else s1

/-- PWR_STAGE_DATA_WRITE (R432): word i of the segment. -/
def stageData (s : State) (i : Nat) (v : Word) : State :=
  if 1024 ≤ i then s.err Status.address i
  else
    let s1 := { s with pwr := { s.pwr with segment := setKey s.pwr.segment i v } }
    (if i = 1023 then s1.storeSegment else s1).ok

/-- The firmware checks (Table 17.6): the code of the first that fails, 0 for none, and the image. -/
def firmwareError (s : State) : Nat × Bytes :=
  let head := stagedRun fwHeader 0 s.pwr.firmware
  let len := field head 17 8
  let staged := 1024 * s.g F.PWR_FW_STATUS_LENGTH_KIB
  if fwMax < len || len < fwHeader + signatureLen || ceilDiv len 8192 * 8192 ≠ staged then (1, [])
  else
    let im := stagedRun len 0 s.pwr.firmware
    let key := (im.drop 25).take 64
    let magic : Bytes := [0x44, 0x53, 0x56, 0x46, 0x49, 0x52, 0x4D, 0x00]
    let partner := s.b F.TWIN_STATUS_PARTNER_SEEN
    let level := field im 16 1
    (if im.take 8 != magic || ((im.drop 89).take 167).any (fun b => b != 0) then 2
     else if shake256 32 key != fit 32 Config.vendorRootDigest then 3
     else if !Config.signatureOk key (im.take (len - signatureLen)) (im.drop (len - signatureLen)) then 4
     else if field im 12 4 < s.pwr.minSecurity then 5
     else if level ≠ s.g F.TWIN_STATUS_MIRROR_LEVEL || (partner && level ≠ s.g F.TWIN_STATUS_PARTNER_LEVEL) then 6
     else 0, im)

/-- FW_VERIFY (R432). -/
def fwVerify (s : State) : State :=
  if s.g F.PWR_FW_STATUS_STATE = Fw.applied then s.err Status.state 0
  else
    let e := s.firmwareError
    let s1 := s.p F.PWR_FW_STATUS_ERR e.1
    if e.1 = 0 then
      let im : FwImage := ⟨true, field e.2 8 4, field e.2 12 4, field e.2 16 1, some (shake256 32 e.2)⟩
      let s2 := { s1 with pwr := { s1.pwr with images := s1.pwr.images.set s1.otherSlot im } }
      (((s2.p F.IDENT_FW_OTHER_VALID 1).p F.PWR_FW_STATUS_STATE Fw.verified).raise F.PWR_EVENT_FW_VERIFIED s.otherSlot 1).ok
    else ((s1.p F.PWR_FW_STATUS_STATE Fw.refused).raise F.PWR_EVENT_FW_REFUSED s.otherSlot 1).ok

/-- FW_APPLY (R433): the staged slot becomes the preferred one, and a requested service reset starts it. -/
def fwApply (s : State) : State :=
  if s.g F.PWR_FW_STATUS_STATE ≠ Fw.verified || s.pair = Pair.active || s.resetState ≠ RState.running then s.err Status.state 0
  else
    let s1 := { s with pwr := { s.pwr with preferred := s.otherSlot, applying := true, goodRounds := 0 } }
    (s1.p F.PWR_FW_STATUS_STATE Fw.applied).requestReset false false false

/-- FW_ABANDON (R432): an applied image awaits its commit and is not abandoned. -/
def fwAbandon (s : State) : State :=
  if s.g F.PWR_FW_STATUS_STATE = Fw.applied then s.err Status.state 0
  else
    (((s.p F.PWR_FW_STATUS_STATE Fw.none).p F.PWR_FW_STATUS_ERR 0).p F.PWR_FW_STATUS_LENGTH_KIB 0).ok

/-- FW_COMMIT (R433): 1,024 good rounds of the new image. -/
def fwCommit (s : State) : State :=
  if !s.pwr.applying || s.g F.IDENT_FW_SLOT ≠ s.pwr.preferred || decide (s.pwr.goodRounds < 1024) then s
  else
    let s1 := { s with pwr := { s.pwr with applying := false, minSecurity := max s.pwr.minSecurity (s.g F.IDENT_FW_SECURITY) } }
    ((s1.p F.IDENT_FW_COMMITTED 1).p F.PWR_FW_STATUS_STATE Fw.none).raise F.PWR_EVENT_FW_COMMITTED (s.g F.IDENT_FW_SLOT) 1

/-- Table 0.1: the ports, agents and features (Table 17.7) that an ordering code enables, and no others (R2). -/
def codeRow (code : Nat) : Option (Nat × Nat × Nat) :=
  if code = 1 then some (24, 160, 0x00) else if code = 2 then some (48, 384, 0x07) else if code = 3 then some (48, 384, 0x3F) else none

/-- The licence checks in the order of R434: the number of the first that fails, 0 for none. -/
def licenceError (s : State) (l : Bytes) : Nat :=
  let key := (l.drop 0x28).take 64
  let id := field l 0x18 16
  let seqs := s.pwr.licences.map (fun x => x.sequence)
  let cur := s.licence
  let magic : Bytes := [0x44, 0x53, 0x56, 0x4C, 0x49, 0x43, 0x00, 0x00]
  let less := match cur with
    | some x => decide (field l 0x0B 1 < x.ports) || decide (field l 0x0C 2 < x.agents)
        || Nat.land x.features (field l 0x0E 2) != x.features
    | none => false
  let body := l.take 8 == magic && field l 8 2 == 1 && decide (field l 0x0E 2 < 64) && ((l.drop 0x68).take 24).all (fun b => b == 0)
    && codeRow (field l 0x0A 1) == some (field l 0x0B 1, field l 0x0C 2, field l 0x0E 2)
  if shake256 32 key != fit 32 Config.licenceKeyDigest then 1
  else if !Config.signatureOk key (l.take licBody) (l.drop licBody) then 2
  else if id ≠ (s.rd .IDENT_ID 0 0).toNat + (s.rd .IDENT_ID 0 1).toNat * 2 ^ 64 then 3
  else if seqs.any (fun x => decide (field l 0x10 8 ≤ x)) then 4
  else if less then 5
  else if !body then 6
  else 0

/-- The 16 licences that the keystone keeps: those of highest sequence (R434). -/
def keepLicences (l : List Licence) : List Licence := (l.mergeSort (fun a b => decide (b.sequence ≤ a.sequence))).take 16

/-- LIC_INSTALL (R434, R435). -/
def licInstall (s : State) : State :=
  let l := stagedRun licenceLen 0 s.pwr.licence
  let e := s.licenceError l
  let s1 := s.p F.PWR_LIC_STATUS_ERR e
  if e ≠ 0 then (s1.raise F.PWR_EVENT_LIC_REFUSED e 1).err Status.value e
  else
    let x : Licence := ⟨field l 0x0A 1, field l 0x0B 1, field l 0x0C 2, field l 0x0E 2, field l 0x10 8, some l⟩
    let kept := keepLicences (s1.pwr.licences ++ [x])
    let s2 := ({ s1 with pwr := { s1.pwr with licences := kept } }).p F.PWR_LIC_STATUS_COUNT kept.length
    let s3 := s2.showLicence (some x)
    let s4 := (List.range 48).foldl (fun (t : State) p =>
      if t.gi F.PORT_STATUS_STATE p = 6 && !t.unlicensed p then t.pi F.PORT_STATUS_STATE p 0 else t) s3
    let s5 := if s4.pair = Pair.active || s4.pair = Pair.standby then
        (s4.mirrorSend Mirror.record true [0] l).judgeFeatures
      else s4
    (s5.raise F.PWR_EVENT_LIC_INSTALLED x.code 1).ok

end State

/-- FW_VERIFY (R432). -/
def execFwVerify (s : State) : Host.Outcome State Fault Refusal := finish s.fwVerify
/-- FW_APPLY (R433). -/
def execFwApply (s : State) : Host.Outcome State Fault Refusal := finish s.fwApply
/-- FW_ABANDON (R432). -/
def execFwAbandon (s : State) : Host.Outcome State Fault Refusal := finish s.fwAbandon
/-- FW_COMMIT (R433). -/
def execFwCommit (s : State) : Host.Outcome State Fault Refusal := finish s.fwCommit
/-- LIC_INSTALL (R434). -/
def execLicInstall (s : State) : Host.Outcome State Fault Refusal := finish s.licInstall
/-- PWR_STAGE_DATA_WRITE (R432). -/
def execPwrStageDataWrite (index : Nat) (value : Word) (s : State) : Host.Outcome State Fault Refusal :=
  finish (s.stageData index value)
/-- PWR_STAGE_SEL_WRITE (R432). -/
def execPwrStageSelWrite (value : Word) (s : State) : Host.Outcome State Fault Refusal := finish (s.stageSel value)

end Sys2Proof.Machine
end

