-- ==== Sys2Proof/Machine/Ports.lean ====
section
/-! DEFINITION. Optical ports, memory channels and the host port (R264, R427 to R429, R447). -/
namespace Sys2Proof.Machine

namespace PState
abbrev dark : Nat := 0
abbrev training : Nat := 1
abbrev up : Nat := 2
abbrev disabling : Nat := 3
abbrev disabled : Nat := 4
abbrev failed : Nat := 5
abbrev unlicensed : Nat := 6
end PState

namespace State

/-- The state of an own port. -/
def portState (s : State) (port : Nat) : Nat := s.gi F.PORT_STATUS_STATE port

/-- This module's node number for its own ports: 510 for module A, 511 for B. -/
def ownNode (s : State) : Nat := 510 + s.g F.TWIN_STATUS_LETTER

/-- A port command names a port that exists and that the licence enables (R3, PORT_CTRL). -/
def portCommand (s : State) (port : Nat) (f : State → State) : State :=
  if 48 ≤ port then s.err Status.value port
  else if s.unlicensed port then s.err Status.policy port
  else f s

/-- The port trains (R427). -/
def trainPort (s : State) (port : Nat) : State := (s.pi F.PORT_STATUS_STATE port PState.training).pi F.PORT_STATUS_LANES port 0

/-- RETRAIN is under way on a port: its success is reported (PORT_EVENT.RETRAINED). -/
def retrain (s : State) (port : Nat) : State :=
  { s with pwr := { s.pwr with retraining := addOnce port s.pwr.retraining } }.trainPort port

/-- PORT_RETRAIN (R427): a twin port only while another one is trained, unless forced; without another one the mirror stream
is lost (R362). -/
def portRetrain (s : State) (port : Nat) (force : Bool) : State :=
  s.portCommand port (fun s =>
    let st := s.portState port
    if 44 ≤ port && st ≠ PState.disabling then
      let other := (List.range 4).any (fun i => 44 + i != port && s.portState (44 + i) == PState.up)
      if other || force then
        let s1 := (s.portLost s.ownNode port).retrain port
        (if other then s1
         else if s1.shadowing then s1.mirrorLoss
         else if s1.pair = Pair.active then ((s1.raise F.TWIN_EVENT_MIRROR_LOSS 0 1).count .TWIN_COUNT 7).loseStandby
         else s1).ok
      else s.err Status.state port
    else if st = PState.dark || st = PState.disabled || st = PState.failed then (s.retrain port).ok
    else s.err Status.state port)

/-- PORT_DISABLE (R209, R210, R427): function 1, with the largest drain bound of the flows on the port. -/
def portDisable (s : State) (port : Nat) : State :=
  s.portCommand port (fun s =>
    let st := s.portState port
    if st = PState.disabling || st = PState.disabled then s.ok
    else
      let b := (s.flowsOnPort port).foldl (fun (m : Nat) f => max m (drainBound (s.tables.classOfFlow f))) 0
      let d : Disable := ⟨1, port, s.round, b, false, false⟩
      (({ s with graph := { s.graph with disables := s.graph.disables ++ [d] } }).pi F.PORT_STATUS_STATE port
        PState.disabling).ok)

/-- PORT_ENABLE (R210, R427, R428). -/
def portEnable (s : State) (port : Nat) : State :=
  s.portCommand port (fun s =>
    let st := s.portState port
    if st = PState.disabling then s.err Status.state port
    else if st = PState.disabled || st = PState.failed then ((s.trainPort port).raise F.PORT_EVENT_ENABLED port 1).ok
    else s.ok)

/-- The automatic retrains of a port in the last second (R428). -/
def recentRetrains (s : State) (port : Nat) : List Nat :=
  match s.pwr.retrains.find? (fun e => e.1 == port) with
  | some e => e.2.filter (fun r => decide (s.round * s.roundNs < r * s.roundNs + 10 ^ 9))
  | none => []

/-- PORT_STATUS.RETRAINS follows the clock. -/
def showRetrains (s : State) : State :=
  s.pwr.retrains.foldl (fun (t : State) e => t.pi F.PORT_STATUS_RETRAINS e.1 (sat 4 (t.recentRetrains e.1).length)) s

/-- PORT_AUTO_RETRAIN (R428): one automatic retrain has ended; after the third failure the port is FAILED. -/
def portAutoRetrain (s : State) (port : Nat) (ok : Bool) : State :=
  if 48 ≤ port || s.portState port ≠ PState.training then s
  else
    let l := s.recentRetrains port ++ [s.round]
    let s1 := ({ s with pwr := { s.pwr with retrains := setKey s.pwr.retrains port l } }).pi F.PORT_STATUS_RETRAINS port
      (sat 4 l.length)
    if ok then (s1.portTrained s.ownNode port).raise F.PORT_EVENT_RETRAINED port 1
    else if 3 ≤ l.length then (s1.pi F.PORT_STATUS_STATE port PState.failed).raise F.PORT_EVENT_FAILED port 1
    else s1

/-- A retrain of a memory channel has ended (R429): the third failure in a row takes the package. -/
def channelRetrain (s : State) (channel : Nat) (ok : Bool) : State :=
  if s.pwr.packagesRetired.contains (channel / 4) then s
  else
    let n := if ok then 0 else lookupD s.pwr.channelFails channel 0 + 1
    let s1 := { s with pwr := { s.pwr with channelFails := setKey s.pwr.channelFails channel (n % 3) } }
    if 3 ≤ n then s1.packageFailure (channel / 4) else s1

/-- MEM_RETRAIN (R429). -/
def memRetrain (s : State) (channel : Nat) (ok : Bool) : State :=
  if 256 ≤ channel then s.err Status.value channel else (s.channelRetrain channel ok).ok

/-- MEM_PERIODIC_RETRAIN (R429). -/
def memPeriodicRetrain (s : State) (channel : Nat) (ok : Bool) : State :=
  if 256 ≤ channel then s else s.channelRetrain channel ok

/-- The host port's link changes (R264): a port held in low-power mode stays down (R447). -/
def ethLink (s : State) (up : Bool) : State :=
  if up then
    if s.pwr.osfpHeld then s
    else ((s.p F.ETH_STATUS_LINK 1).p F.ETH_STATUS_FALLBACK (s.g F.ETH_CFG_SPEED)).raise F.ETH_EVENT_LINK_UP 0 1
  else (s.p F.ETH_STATUS_LINK 0).raise F.ETH_EVENT_LINK_DOWN 0 1

/-- ETH_CFG_WRITE (R264, R266): a change of SPEED retrains the port; MACSEC is fixed in confidential mode. -/
def ethCfgWrite (s : State) (v : Word) : State :=
  let mtu := getBits v 16 16
  if mtu < 1500 || 9216 < mtu then s.err Status.value 0
  else
    let speed := getBits v 0 1
    let sec := if s.confidential then 1 else getBits v 1 1
    let s1 := (((s.p F.ETH_CFG_SPEED speed).p F.ETH_CFG_MACSEC sec).p F.ETH_CFG_MTU mtu).p F.ETH_CFG_SCP_PORT (getBits v 32 16)
    (if speed ≠ s.g F.ETH_CFG_SPEED && s.b F.ETH_STATUS_LINK then s1.ethLink false else s1).ok

/-- OSFP_MODULE_EVENT (R447). -/
def osfpModule (s : State) (inserted : Bool) (watts : Nat) : State :=
  let held := inserted && decide (30 < watts)
  let s1 := { s with pwr := { s.pwr with osfpHeld := held } }
  if held then (s1.ethLink false).record 0x0008 3 (Source.code 16 0) 0 (leBytes 2 (sat 16 watts)) else s1.ethLink inserted

end State

/-- PORT_RETRAIN (R427). -/
def execPortRetrain (port : Nat) (force : Bool) (s : State) : Host.Outcome State Fault Refusal := finish (s.portRetrain port force)
/-- PORT_DISABLE (R427). -/
def execPortDisable (port : Nat) (s : State) : Host.Outcome State Fault Refusal := finish (s.portDisable port)
/-- PORT_ENABLE (R427). -/
def execPortEnable (port : Nat) (s : State) : Host.Outcome State Fault Refusal := finish (s.portEnable port)
/-- PORT_AUTO_RETRAIN (R428). -/
def execPortAutoRetrain (port : Nat) (ok : Bool) (s : State) : Host.Outcome State Fault Refusal := finish (s.portAutoRetrain port ok)
/-- MEM_RETRAIN (R429). -/
def execMemRetrain (channel : Nat) (ok : Bool) (s : State) : Host.Outcome State Fault Refusal := finish (s.memRetrain channel ok)
/-- MEM_PERIODIC_RETRAIN (R429). -/
def execMemPeriodicRetrain (channel : Nat) (ok : Bool) (s : State) : Host.Outcome State Fault Refusal :=
  finish (s.memPeriodicRetrain channel ok)
/-- ETH_CFG_WRITE (R264). -/
def execEthCfgWrite (value : Word) (s : State) : Host.Outcome State Fault Refusal := finish (s.ethCfgWrite value)
/-- ETH_LINK_CHANGE (R264). -/
def execEthLinkChange (up : Bool) (s : State) : Host.Outcome State Fault Refusal := finish (s.ethLink up)
/-- OSFP_MODULE_EVENT (R447). -/
def execOsfpModuleEvent (inserted : Bool) (watts : Nat) (s : State) : Host.Outcome State Fault Refusal :=
  finish (s.osfpModule inserted watts)

end Sys2Proof.Machine
end

