-- ==== Sys2Proof/Machine/Access.lean ====
section
/-! DEFINITION. Access to registers (R12 to R16, R45 to R47): which register an address names, what a read returns,
confidential coarsening included (R349, Table 13.7), and what a write does: the writes that are commands run the same
effects as the commands' own rows. -/
namespace Sys2Proof.Machine

-- Addresses

/-- What an address names: a register of this module, an offset in an agent's window, an address of another spire, or
nothing, with the offset that the error carries (Table 10.4). -/
inductive Place where
  | own (r : Reg) (i : Nat)
  | agent (node off : Nat)
  | far (spire off : Nat)
  | hole (detail : Nat)
  deriving DecidableEq, Repr

/-- The register and index at an offset, among Varlor's registers or those of an agent's window. -/
def regAt (inAgent : Bool) (addr : Nat) : Option (Reg × Nat) :=
  Reg.all.findSome? (fun r =>
    let i := (addr - r.base) / 8
    if r.isAgent == inAgent && decide (r.base ≤ addr) && addr % 8 == 0 && decide (r.first ≤ i) && decide (i ≤ r.last) then
      some (r, i)
    else none)

/-- Where agent windows begin and end (R46). -/
abbrev agentBase : Nat := 0x10000000
abbrev agentEnd : Nat := 0x14000000

/-- Table 10.4: the offset of an address within its window. -/
def windowOffset (addr : Nat) : Nat :=
  if addr < 0x1200000 then addr % 0x100000
  else if agentBase ≤ addr && addr < agentEnd then addr % 0x10000
  else addr % 0x1000000

namespace State

/-- The module holds the coordinator role (R47). -/
def isCoordinator (s : State) : Bool :=
  s.isActive && (match s.plan.cur with | some p => p.coordinatorFlag | none => false)

/-- An address with bit 47 clear. -/
def placeLocal (s : State) (addr : Nat) : Place :=
  if agentBase ≤ addr && addr < agentEnd then
    let n := (addr - agentBase) / 0x10000
    if addr % 8 == 0 && s.boundNodes.contains n then .agent n (addr % 0x10000) else .hole (windowOffset addr)
  else
    match regAt false addr with
    | some (r, i) => .own r i
    | none => .hole (windowOffset addr)

/-- What an address names (R45 to R47). -/
def placeOf (s : State) (addr : Nat) : Place :=
  let a := addr % 2 ^ 48
  if a < 2 ^ 47 then s.placeLocal a
  else if s.isCoordinator then
    let spire := a / 2 ^ 40 % 128
    if spire = s.spire then s.placeLocal (a % 2 ^ 40) else .far spire (a % 2 ^ 40)
  else .hole (windowOffset a)

-- Confidential coarsening (Table 13.7, R407)

end State

/-- The registers that hold counters under Table 13.7, each with the field that counts. -/
def counterField (r : Reg) : Option (Nat × Nat) :=
  match r with
  | .BELL_COUNT | .REP_COUNT | .GRD_COUNT | .GRAPH_COUNT | .SEN_COUNT | .CHK_COUNT | .MBX_COUNT | .ETH_COUNT
  | .LANT_COUNT | .KEY_COUNT | .TWIN_COUNT | .AG_COUNT => some (0, 64)
  | .CHK_STATE => some (16, 32)
  | .BELF_ALARM => some (8, 24)
  | .PORT_STATUS => some (32, 32)
  | .AG_PORT => some (32, 16)
  | _ => none

/-- The numbers of those registers. -/
def counterRegs : List Nat := (Reg.all.filter (fun r => (counterField r).isSome)).map (·.ctorIdx)

namespace State

/-- The counters are latched (Table 13.7). -/
def latchCounters (s : State) : State :=
  let l : RegMap := s.regs.filter (fun e => counterRegs.contains e.1.r)
  { s with eth := { s.eth with latched := l, latchedMs := s.lant.now / 1000000 } }

/-- A word whose counting field shows what was latched, rounded down to a multiple of 65,536. -/
def coarsened (s : State) (r : Reg) (node i : Nat) (w : Word) : Word :=
  match counterField r with
  | none => w
  | some (lo, len) =>
    let old := match s.eth.latched.find (keyOf r node i) with | some x => x | none => resetOf r node i
    putBits w lo len (coarse (getBits old lo len))

/-- A reading on a grid: an average over the last whole second is not known to the model (Table 13.7). -/
def onGrid (s : State) (f : Fld) (w : Word) (num den : Nat) : Word × State :=
  let (n, s1) := s.draw
  (putBits w f.lo f.len (Config.freeValue n % ((2 ^ f.len - 1) * den / num + 1) * num / den), s1)

/-- PWR_RAIL, PWR_STATUS and TWIN_FEED as confidential mode shows them: 25 mV, 5 W and 1 °C steps. -/
def coarsePower (s : State) (r : Reg) (i : Nat) (w : Word) : Word × State :=
  match r with
  | .PWR_RAIL =>
    let (w1, s1) := s.onGrid F.PWR_RAIL_MV w 25 1
    s1.onGrid F.PWR_RAIL_MA w1 5000000 (railMv.getD i 1000)
  | .PWR_STATUS =>
    let (w1, s1) := s.onGrid F.PWR_STATUS_CORE_MV w 25 1
    s1.onGrid F.PWR_STATUS_TJ_MAX w1 10 1
  | .TWIN_FEED => s.onGrid F.TWIN_FEED_MA w 5000 72
  | _ => (w, s)

-- Reading

/-- Word `i` of the descriptor that GRAPH_TASK_SEL names: its results written, byte 0x78 its state (Table 7.6). -/
def taskWord (s : State) (i : Nat) : Word :=
  match s.taskOf (s.g F.GRAPH_TASK_SEL_ITEM) with
  | none => 0
  | some t =>
    let d := if t.kind = Kind.scalar && !t.results.isEmpty then
        t.desc.take 0x40 ++ fit 32 (t.results.map (leBytes 8)).flatten ++ t.desc.drop 0x60
      else t.desc
    BitVec.ofNat 64 (field (d.set 0x78 (BitVec.ofNat 8 t.state)) (8 * i) 8)

/-- The instant of a read of LANT_NOW_NS is open within the round: fabric time has not reached the next boundary. -/
def readTime (s : State) : State :=
  let (n, s1) := s.draw
  let next := s.g F.LANT_ROUND_BASE_TIME_T_BASE + (s.round + 1 - s.g F.BELL_ROUND_BASE_N_BASE) * s.roundNs
  let v := Config.freeValue n
  s1.readNow (s.lant.now + v / 65536 % max 1 (next - s.lant.now)) v

/-- One word of this module's registers is read, with what the read does. -/
def readOwn (s : State) (r : Reg) (i : Nat) : Word × State :=
  let w := s.rd r 0 i &&& BitVec.ofNat 64 r.readMask
  match r with
  | .GRAPH_TASK_WORD => (s.taskWord i, s)
  | .SEN_STAT => (s.senWord i, s)
  | .BELF_READ_WORD =>
    (s.windowWord i, if i = 1023 then s.loadWindow ((s.g F.BELF_READ_SEL_WINDOW + 1) % 2 ^ 18) else s)
  | .BELF_SENT => ((s.belf.sentinel.getD i (Voted.of 0)).vote, s.belfSentRead i)
  | .TWIN_CAP_WORD => (s.capWord i, if i = 1023 then s.capWordAdvance else s)
  | .ETH_QP_WORD => (s.rd r (s.g F.ETH_QP_SEL_QP) i, s)
  | .ETH_CFG => (if s.confidential then putBits w F.ETH_CFG_MACSEC.lo 1 1 else w, s)
  | .LANT_NOW_NS => let t := s.readTime; (t.rd .LANT_NOW_NS 0 0, t)
  | _ =>
    if s.confidential then s.coarsePower r i (s.coarsened r 0 i w) else (w, s)

/-- Word `i` of the table page that AG_TBL_SEL names (R396, R397). -/
def tableWord (s : State) (node i : Nat) : Word :=
  let a := s.ag node
  let t := s.ga F.AG_TBL_SEL_TABLE node 0
  let bank := if s.ga F.AG_TBL_SEL_BANK node 0 = 1 then a.shadow else a.active
  let k := 512 * s.ga F.AG_TBL_SEL_PAGE node 0 + i
  let v :=
    if t = 1 then bank.l2p.getD k 0
    else if t = 2 then
      match a.flows[k]? with
      | some (e : FlowEntry) => e.word + (if e.active then 2 ^ 26 else 0) + (if e.shadow then 2 ^ 27 else 0)
      | none => 0
    else
      let m := bank.slots.getD (t - 16) []
      m.getD (2 * k) 0 + m.getD (2 * k + 1) 0 * 2 ^ 32
  BitVec.ofNat 64 v

/-- One word of an agent's registers is read (R46, R391). -/
def readAgent (s : State) (node : Nat) (r : Reg) (i : Nat) : Word × State :=
  let w := s.rd r node i &&& BitVec.ofNat 64 r.readMask
  match r with
  | .AG_TBL_WORD => (s.tableWord node i, if i = 511 then s.agTblWordAdvance node else s)
  | _ => (if s.bn F.AG_CFG_COARSE node || s.confidential then s.coarsened r node i w else w, s)

-- Writing

/-- The bits of a word of ETH_ADDR that have a name (ETH_ADDR). -/
def addrMask (i : Nat) : Nat :=
  match i with
  | 7 => 0xFFFFFFFF
  | 8 => 0x3FFF
  | 9 => 0xFFFF
  | 10 => 0xF3F3F3F
  | _ => 0xFFFFFFFFFFFFFFFF

/-- The legal values of the RW fields, register by register (the tables' own ranges, R300, R327). -/
def legalWrite (s : State) (r : Reg) (i : Nat) (v : Word) : Bool :=
  let b := getBits v
  match r with
  | .PLAN_LOAD_LEN => decide (b 0 29 ≤ 268435456)
  | .DISC_CFG => decide (1 ≤ b 0 16) && decide (b 0 16 ≤ b 16 16)
  | .BELL_CFG => decide (1 ≤ b 0 4) && decide (b 0 4 ≤ 12) && decide (b 4 4 ≤ 7) && decide (b 8 4 ≤ 3)
  | .REP_CFG => decide (1 ≤ b 0 4)
  | .GRD_CFG => decide (4 ≤ b 16 16)
  | .GRAPH_ECN => decide (1 ≤ b 0 4) && decide (b 0 4 ≤ 8) && decide (1 ≤ b 16 16)
  | .GRAPH_ECN_RATE => decide (b 32 32 ≤ s.portRate)
  | .MBX_CFG => decide (4 ≤ b 0 16)
  | .LANT_CFG =>
    decide (1 ≤ b 4 10) && decide (b 4 10 ≤ 500) && decide (b 16 8 ≤ 127)
      && (decide (b 40 4 ≤ 1) || decide (12 ≤ b 40 4)) && decide (b 44 4 ≤ 3)
      && (b 0 1 == 0 || s.lantState == LState.reference)
  | .BELF_CFG =>
    decide (1 ≤ b 0 16) && decide (b 0 16 ≤ 3600) && decide (64 ≤ b 16 16) && decide (1 ≤ b 32 16)
      && decide (alarmFloor (b 16 16) s.roundNs ≤ s.gi F.BELF_ETH_BUDGET_RATE 0)
  | .BELF_SHARE => b 0 13 != 0
  | .BELF_ETH_BUDGET => i != 0 || decide (alarmFloor (s.g F.BELF_CFG_REPEAT) s.roundNs ≤ v.toNat)
  | .TWIN_CFG => decide (64 ≤ b 32 32)
  | .PWR_CFG => b 0 2 != 3 && b 8 8 != 0
  | .CHK_CFG =>
    let tap := b 8 4
    b 0 2 != 3 && decide (tap ≤ 8)
      && (tap == 0 || (b 4 1 == 1 && (b 2 2 == 0 || (b 2 2 == 1 && tap == Tap.exp))))
  | _ => true

/-- The bits of a register that a write sets (R13). -/
def writable (r : Reg) (i : Nat) : Word := BitVec.ofNat 64 (if r = .ETH_ADDR then addrMask i else r.rwMask)

/-- A write under the access types (R13 to R16): RW fields take the value, W1C bits written 1 clear, the rest stays. -/
def writeFields (s : State) (r : Reg) (i : Nat) (v : Word) : State :=
  let old := s.rd r 0 i
  let rw := writable r i
  let w1c := BitVec.ofNat 64 r.w1cMask
  s.wr r 0 i ((v &&& rw) ||| (old &&& ~~~rw &&& ~~~(v &&& w1c)))

/-- A command register: an effect for each code, any other code is answered with VALUE. -/
def command (s : State) (v : Word) (cmds : List (Nat × (State → State))) : State :=
  match cmds.find? (fun e => e.1 == getBits v 0 4) with
  | some e => e.2 s
  | none => s.err Status.value 0

/-- CUP_CTRL (R120, R124, R146): JOB is zero but for CARVE. -/
def cupCommand (s : State) (v : Word) : State :=
  let c := getBits v 16 12
  let job := getBits v 32 32
  let alone (f : State → State) : State → State := fun t => if job = 0 then f t else t.err Status.value 0
  s.command v [(1, fun t => t.carve c job), (2, alone (fun t => t.retire c job)), (3, alone (fun t => t.retryRepair))]

/-- GRAPH_CTRL (R208 to R210). -/
def graphCommand (s : State) (v : Word) : State :=
  s.command v [(1, fun t => t.cancelTask), (2, fun t => t.cancelGraph),
    (3, fun t => t.disableService F.GRAPH_STATUS_EXPORT 4), (4, fun t => t.enableService F.GRAPH_STATUS_EXPORT),
    (5, fun t => t.disableService F.GRAPH_STATUS_IMPORT 6), (6, fun t => t.enableService F.GRAPH_STATUS_IMPORT)]

/-- PWR_CTRL (R423, R426, R429, R432 to R434); how a retrain of a memory channel ends is open. -/
def powerCommand (s : State) (v : Word) : State :=
  let force := getBits v 4 1 == 1
  s.command v [(1, fun t => t.requestReset false force false), (2, fun t => t.requestReset true force (getBits v 5 1 == 1)),
    (3, fun t => t.cancelReset), (4, fun t => t.fwVerify), (5, fun t => t.fwApply), (6, fun t => t.fwAbandon),
    (7, fun t => t.licInstall),
    (8, fun t => let (n, t1) := t.draw; t1.memRetrain (getBits v 16 8) (Config.freeValue n % 2 == 1))]

/-- Writes that are commands, each with its own effect; `none` for a register that only sets its fields. -/
def commandWrite (s : State) (sess : Nat) (r : Reg) (i : Nat) (v : Word) : Option State :=
  let node := getBits v 16 16
  let port := getBits v 8 6
  let chan := getBits v 8 7
  match r with
  | .PLAN_CTRL => some (s.command v [(1, fun t => t.loadBegin), (2, fun t => t.verify), (3, fun t => t.activate),
      (4, fun t => t.abort), (5, fun t => t.discard)])
  | .DISC_CTRL => some (s.command v [(1, fun t => t.rescan)])
  | .BELL_CTRL => some (s.command v [(1, fun t => t.stopFlow true), (2, fun t => t.stopFlow false),
      (3, fun t => t.fenceNode), (4, fun t => t.retryHeld)])
  | .CUP_CTRL => some (s.cupCommand v)
  | .REP_CTRL => some (s.command v [(1, fun t => t.resetCompute node), (2, fun t => t.resetFull node),
      (3, fun t => t.repCancelReset), (4, fun t => t.failNode node)])
  | .GRD_CTRL => some (s.command v [(1, fun t => t.disableGroup (getBits v 16 8)),
      (2, fun t => t.enableGroup (getBits v 16 8)), (3, fun t => t.releaseSeal), (4, fun t => t.rollbackJob)])
  | .GRAPH_CTRL => some (s.graphCommand v)
  | .SEN_CTRL => some (s.command v [(1, fun t => t.clearSuspect)])
  | .CHK_CTRL => some (s.command v [(1, fun t => t.chkAttach chan), (2, fun t => t.chkSuspend chan),
      (3, fun t => t.chkResume chan), (4, fun t => t.chkDetach chan), (5, fun t => t.chkDisable chan),
      (6, fun t => t.chkEnable chan)])
  | .LANT_CTRL => some (s.command v [(1, fun t => t.setTod (getBits v 4 2) sess), (2, fun t => t.stopSlew sess)])
  | .BELF_CTRL => some (s.command v [(1, fun t => t.belfFreeze), (2, fun t => t.belfThaw), (3, fun t => t.belfFlush)])
  | .KEY_CTRL => some (s.command v [(1, fun t => t.enrol), (2, fun t => t.removeTenant), (3, fun t => t.removeForce)])
  | .TWIN_CTRL => some (s.command v [(1, fun t => t.switchCommand), (2, fun t => t.drill (getBits v 4 1 == 1)),
      (3, fun t => t.resync), (4, fun t => t.twinCancel), (5, fun t => t.clearCapture)])
  | .PWR_CTRL => some (s.powerCommand v)
  | .PORT_CTRL => some (s.command v [(1, fun t => t.portRetrain port (getBits v 4 1 == 1)),
      (2, fun t => t.portDisable port), (3, fun t => t.portEnable port)])
  | .MBX_HIN => some (s.hostPost i v)
  | .MBX_HOUT_FULL => some (s.hostTake v.toNat).ok
  | .ETH_CFG => some (s.ethCfgWrite v)
  | .ETH_QP_WORD => some (s.qpWrite i v)
  | .CHK_VALUE => some (s.chkValueWrite false i v)
  | .CHK_BYTES => some (s.chkValueWrite true i v)
  | .GRAPH_RING_TAIL => some (s.ringTailWrite v.toNat)
  | .BELF_READ_SEL => some (s.loadWindow (getBits v 0 18)).ok
  | .BELF_ALARM => some (s.writeAlarm i v)
  | .TWIN_CAP_SEL => some ((s.p F.TWIN_CAP_SEL_CAPTURE (getBits v 0 2)).loadCapture (getBits v 8 14)).ok
  | .PWR_STAGE_SEL => some (s.stageSel v)
  | .PWR_STAGE_DATA => some (s.stageData i v)
  | .REP_EVENT =>
    let s1 := s.writeFields .REP_EVENT 0 v
    some (if getBits v 8 1 = 1 then s1.flapHoldClear else s1).ok
  | _ => none

/-- A write that sets fields (R13 to R15), where its register allows it. -/
def fieldWrite (s : State) (r : Reg) (i : Nat) (v : Word) : State :=
  if r.rwMask = 0 && r.w1cMask = 0 then s.err Status.readOnly 0
  else if (r = .ETH_ADDR && i = 11) || (r = .CHK_CFG && i < 96) then s.err Status.readOnly 0
  else if r = .PWR_SITE && s.plan.cur.isSome then s.err Status.state 0
  else if r = .CHK_CFG && s.chkState i ≠ Chan.idle then s.err Status.state 0
  else if !s.legalWrite r i v then s.err Status.value 0
  else
    let s0 := if r = .LANT_CFG then s.slewOn else s
    let s1 := s0.writeFields r i v
    match r with
    | .PWR_SITE => ((s1.p F.IDENT_SITE_SPIRE (s1.g F.PWR_SITE_SPIRE)).p F.IDENT_SITE_SPIRE_SET 1).ok
    | .LANT_CFG =>
      if s1.b F.LANT_CFG_PPS_IN_EN = s.b F.LANT_CFG_PPS_IN_EN then s1.ok
      else ((s1.setPps none 0 0).p F.LANT_STATUS_PPS_IN (s1.g F.LANT_CFG_PPS_IN_EN)).ok
    | _ => s1.ok

/-- One word of this module's registers is written by a session; the answer says how it went. -/
def writeOwn (s : State) (sess : Nat) (r : Reg) (i : Nat) (v : Word) : State :=
  match s.ok.commandWrite sess r i v with
  | some t => t
  | none => s.ok.fieldWrite r i v

/-- A write to an address of this module or of an agent (R45, R391). -/
def writeAt (s : State) (sess addr : Nat) (v : Word) : State :=
  let a := addr % 2 ^ 48
  match s.placeOf a with
  | .own r i => s.writeOwn sess r i v
  | .agent _ _ => s.err Status.readOnly 0
  | .far _ _ => s.err Status.address (windowOffset a)
  | .hole d =>
    if agentBase ≤ a && a < agentEnd && a % 8 = 0 then s.err Status.readOnly 0 else s.err Status.address d

end State

/-- REGISTER_WRITE (R15): a write by a session to a register of this module. -/
def execRegisterWrite (sess addr : Nat) (value : Word) (s : State) : Host.Outcome State Fault Refusal :=
  finish (s.after (s.writeAt sess addr value))

end Sys2Proof.Machine
end

