-- ==== Sys2Proof/Machine/Scp.lean ====
section
/-! DEFINITION. The Spire Control Protocol (R266 to R274, Tables 10.2 to 10.5): sessions, order, retries, what a module
serves in each of its states, every operation; and the other doors of the host port and the chassis: neighbour
discovery, PFC frames (R264) and the I3C interface (R443). -/
namespace Sys2Proof.Machine

namespace State

-- Answers

/-- The answer carries words: B counts them. -/
def answerWords (s : State) (status detail : Nat) (ws : List Word) : State :=
  { s with answer := { s.answer with status := status, detail := detail, a := 0, b := ws.length, words := ws, bytes := [] } }

/-- The answer carries bytes, with arguments A and B. -/
def answerBytes (s : State) (a b : Nat) (bs : Bytes) : State :=
  { s with answer := { s.answer with status := Status.ok, detail := 0, a := a, b := b, words := [], bytes := bs } }

-- Sessions (R270)

/-- The session of a source. -/
def sessionOf (s : State) (sess : Nat) : Option Session := s.eth.sessions.find? (fun (x : Session) => x.id == sess)

/-- Change a session. -/
def updSession (s : State) (sess : Nat) (f : Session → Session) : State :=
  { s with eth := { s.eth with sessions := updWhere (fun (x : Session) => x.id == sess) f s.eth.sessions } }

/-- The answer leaves as a response (Table 10.2) with the module's mailbox epoch. -/
def sendResponse (s : State) : State :=
  let x := s.answer
  let s1 := s.count .ETH_COUNT 1
  let s2 := if x.status = Status.busy then s1.count .ETH_COUNT 3 else s1
  s2.emit .response x.sess x.tag ([x.status, x.detail, s2.epoch, x.a, x.b] ++ x.words.map (fun w => w.toNat)) x.bytes

/-- The answer belongs to a request. -/
def addressed (s : State) (h : ScpHdr) : State := { s with answer := { s.answer with sess := h.sess, tag := h.tag } }

/-- The response to a request leaves, and its session keeps it among its last 256 (R270). -/
def respond (s : State) (h : ScpHdr) : State :=
  let s1 := s.addressed h
  let c : Cached := ⟨h.tag, s.round, s1.answer⟩
  (s1.updSession h.sess (fun x =>
    let l := x.cache.filter (fun (y : Cached) => y.tag != h.tag) ++ [c]
    { x with cache := l.drop (l.length - 256) })).sendResponse

/-- BUSY, sent at once (R270, R272). -/
def answerBusy (s : State) (h : ScpHdr) : State :=
  ((s.err Status.busy 0).raise F.ETH_EVENT_BUSY 0 1).respond h

-- READ and WRITE (R268, R271)

/-- The module is in RECOVERY (R431). -/
def inRecovery (s : State) : Bool := s.g F.PWR_STATUS_STAGE == 14

/-- R431: the registers that RECOVERY serves: the staging registers, FW_VERIFY and FW_APPLY. -/
def recoveryServes (r : Reg) (write : Bool) (v : Word) : Bool :=
  match r with
  | .PWR_STAGE_SEL | .PWR_STAGE_DATA => true
  | .PWR_FW_STATUS | .PWR_LIC_STATUS => !write
  | .PWR_CTRL => write && (getBits v 0 4 == 4 || getBits v 0 4 == 5)
  | _ => false

/-- A module that answers as a standby does (R273): SYNCING, STANDBY, YIELDED or UNSYNCED. -/
def passive (s : State) : Bool := decide (3 ≤ s.pair)

/-- R273: a standby takes writes to the TWIN, PWR and ETH blocks. -/
def passiveTakes (r : Reg) : Bool := [0xE, 0xF, 0x10].contains (r.base / 0x100000)

/-- A READ of `n` words from an address, after those already read; it stops at the first word that fails. -/
def readRun : Nat → Nat → List Word → State → State
  | 0, _, acc, s => s.answerWords Status.ok 0 acc
  | n + 1, addr, acc, s =>
    match s.placeOf addr with
    | .own r i =>
      if s.inRecovery && !recoveryServes r false 0 then s.answerWords Status.state 0 acc
      else
        let x := s.readOwn r i
        readRun n (addr + 8) (acc ++ [x.1]) x.2
    | .agent node off =>
      match regAt true off with
      | some (r, i) =>
        let x := s.readAgent node r i
        readRun n (addr + 8) (acc ++ [x.1]) x.2
      | none => s.answerWords Status.address off acc
    | .far _ _ => s.answerWords Status.address (windowOffset addr) acc
    | .hole d => s.answerWords Status.address d acc

/-- One word of a WRITE, as the module's state lets it be served (R273, R431). -/
def writeServed (s : State) (sess addr : Nat) (w : Word) : State :=
  match s.placeOf addr with
  | .own r i =>
    if s.inRecovery && !recoveryServes r true w then s.err Status.state 0
    else if s.passive && !passiveTakes r then s.err Status.notActive 0
    else s.writeOwn sess r i w
  | _ => s.writeAt sess addr w

/-- A WRITE of words from an address; B counts the words completed, `k` so far. -/
def writeRun (sess : Nat) : List Word → Nat → Nat → State → State
  | [], _, k, s => { s.ok with answer := { s.ok.answer with b := k } }
  | w :: ws, addr, k, s =>
    let t := s.writeServed sess addr w
    if t.answer.status = Status.ok then writeRun sess ws (addr + 8) (k + 1) t
    else { t with answer := { t.answer with a := 0, b := k, words := [], bytes := [] } }

/-- An access is carried to an agent or to another spire, and its session waits for it (R46, R47, R271). -/
def carry (s : State) (h : ScpHdr) (count : Nat) (write isFar : Bool) (dest : Nat) (ws : List Word) : State :=
  let m : Remote := ⟨h.tag, h.a, count, write, s.round, isFar⟩
  (s.updSession h.sess (fun x => { x with remote := some m })).send .carried (if isFar then 1 else 0) dest
    ([h.a, count, if write then 1 else 0] ++ ws.map (fun w => w.toNat))

/-- READ: answered at once, or carried. The Bool says that the answer is ready. -/
def serveRead (s : State) (h : ScpHdr) : State × Bool :=
  if h.b = 0 || 1024 < h.b then (s.err Status.malformed 0, true)
  else
    match s.placeOf h.a with
    | .far spire _ => (s.carry h h.b false true spire [], false)
    | .agent node off =>
      if s.inRecovery then (s.err Status.state 0, true)
      else if (regAt true off).isSome then (s.carry h h.b false false node [], false)
      else (s.err Status.address off, true)
    | _ => (readRun h.b h.a [] s, true)

/-- WRITE. -/
def serveWrite (s : State) (h : ScpHdr) (ws : List Word) : State × Bool :=
  if ws.isEmpty || 1024 < ws.length || h.b ≠ ws.length then (s.err Status.malformed 0, true)
  else
    match s.placeOf h.a with
    | .far spire _ => (s.carry h h.b true true spire ws, false)
    | _ => (writeRun h.sess ws h.a 0 s, true)

-- The other operations

/-- MBX_POST: one word into a host inbound mailbox. -/
def servePost (s : State) (h : ScpHdr) (ws : List Word) : State :=
  match ws with
  | [w] => if h.a < 32 then s.hostPost h.a w else s.err Status.value 0
  | _ => s.err Status.malformed 0

/-- MBX_FETCH: the words of the mailboxes that the mask names and that are FULL, in ascending index. -/
def serveFetch (s : State) (h : ScpHdr) : State :=
  let taken := Nat.land (h.a % 2 ^ 32) (s.g F.MBX_HOUT_FULL_FULL)
  let ws := (bitsOf 32 taken).map (fun i => s.rd .MBX_HOUT 0 i)
  let s1 := (s.hostTake taken).answerWords Status.ok 0 ws
  { s1 with answer := { s1.answer with b := taken } }

/-- PLAN_SEGMENT (R61). -/
def serveSegment (s : State) (h : ScpHdr) (bs : Bytes) : State :=
  if bs.isEmpty || 8192 < bs.length then s.err Status.malformed 0 else s.planSegmentAt h.a bs

/-- GRAPH_SUBMIT: fragments in the order of their offsets; the last one submits the graph (R192, R268). -/
def serveSubmit (s : State) (h : ScpHdr) (bs : Bytes) : State :=
  match s.sessionOf h.sess with
  | none => s.err Status.state 0
  | some x =>
    let set (a : Option Assembly) : State := s.updSession h.sess (fun y => { y with assembly := a })
    let have_ : Assembly := match x.assembly with | some a => a | none => ⟨h.b, []⟩
    let fresh := x.assembly.isNone
    if (fresh && h.a ≠ 0) || (!fresh && (h.a = 0 || h.a ≠ have_.bytes.length || h.b ≠ have_.total)) then
      (set none).err Status.state 0
    else
      let all := have_.bytes ++ bs
      if h.more then
        if have_.total ≤ all.length then (set none).err Status.malformed 0 else (set (some ⟨have_.total, all⟩)).ok
      else if all.length ≠ have_.total then (set none).err Status.malformed 0
      else (set none).submitGraph all

/-- RING_FETCH: GRAPH_RING_TAIL takes A under its own rules, and records follow from there (R205). -/
def serveRing (s : State) (h : ScpHdr) : State :=
  if h.b = 0 || 256 < h.b then s.err Status.value 0
  else
    let t := s.ringTailWrite (h.a % 2 ^ 32)
    if t.answer.status ≠ Status.ok then t
    else
      let rs := t.graph.ring.take h.b
      t.answerBytes (t.g F.GRAPH_RING_HEAD_HEAD) rs.length ((rs.map Completion.encode).flatten)

/-- GRAPH_IDS: item IDs of a graph from a graph-local index. -/
def serveIds (s : State) (h : ScpHdr) : State :=
  match s.graph.graphs.find? (fun g => g.1 == h.a % 2 ^ 32) with
  | none => s.err Status.value 0
  | some g =>
    if g.2.length < h.b then s.err Status.value 0
    else
      let ids := (g.2.drop h.b).take 2048
      s.answerBytes 0 ids.length ((ids.map (leBytes 4)).flatten)

/-- A subscription ends: its slot is unused. -/
def dropSub (s : State) (slot : Nat) : State :=
  { s with belf := { s.belf with subs := s.belf.subs.filter (fun (u : Subscr) => u.slot != slot) } }.rst .ETH_SUB 0 slot

/-- A slot of ETH_SUB shows a subscription. -/
def showSub (s : State) (slot classes port lease : Nat) : State :=
  ((s.pi F.ETH_SUB_CLASSES slot classes).pi F.ETH_SUB_PORT slot port).pi F.ETH_SUB_LEFT slot lease

/-- TELEM_SUBSCRIBE (R274, Table 10.5): a subscription is the session's for one port. -/
def serveSubscribe (s : State) (h : ScpHdr) (bs : Bytes) : State :=
  if bs.length ≠ 16 then s.err Status.malformed 0
  else
    let classes := field bs 0 1 % 8
    let port := field bs 2 2
    let lease := field bs 4 4
    let mine := s.belf.subs.find? (fun (u : Subscr) => u.sess == h.sess && s.gi F.ETH_SUB_PORT u.slot == port)
    if classes = 0 then (match mine with | some u => s.dropSub u.slot | none => s).ok
    else if lease < 1024 || 1048576 < lease then s.err Status.value 0
    else
      match mine with
      | some u =>
        let u1 : Subscr := { u with q0 := if classes % 2 = 1 then u.q0 else []
                                    q1 := if classes / 2 % 2 = 1 then u.q1 else []
                                    q2 := if classes / 4 % 2 = 1 then u.q2 else [] }
        ((s.setSub u1).showSub u.slot classes port lease).ok
      | none =>
        match (List.range 8).find? (fun i => !s.belf.subs.any (fun (u : Subscr) => u.slot == i)) with
        | none => s.err Status.busy 0
        | some i =>
          let u : Subscr := ⟨i, h.sess, [0, 0, 0], [0, 0, 0], [], [], []⟩
          ({ s with belf := { s.belf with subs := s.belf.subs ++ [u] } }.showSub i classes port lease).ok

-- Serving a request

/-- The request is served by a module that may serve it. -/
def serveOp (s : State) (q : Req) : State × Bool :=
  let h := q.h
  match q.op with
  | .read => s.serveRead h
  | .write => s.serveWrite h q.words
  | .post => (s.servePost h q.words, true)
  | .fetch => (s.serveFetch h, true)
  | .segment => (s.serveSegment h q.bytes, true)
  | .submit => (s.serveSubmit h q.bytes, true)
  | .ring => (s.serveRing h, true)
  | .subscribe => (s.serveSubscribe h q.bytes, true)
  | .attest => (s.attest h.sess h.a q.bytes, true)
  | .ids => (s.serveIds h, true)
  | .hello => (s.admissionHello h.sess q.bytes, true)
  | .report => (s.admissionFetch h.sess h.a, true)
  | .finish => (s.admissionFinish h.sess h.a h.more q.bytes, true)

/-- ATTEST and ADMISSION, which come before MKA has secured the port (R266). -/
def beforeSecured (op : ScpOp) : Bool :=
  match op with
  | .attest | .hello | .report | .finish => true
  | _ => false

/-- Served by a standby (R273); a WRITE is judged word by word. -/
def passiveServes (op : ScpOp) : Bool :=
  match op with
  | .read | .write | .subscribe | .attest => true
  | _ => false

/-- Served in RECOVERY (R431); READ and WRITE are judged word by word. -/
def recoveryOp (op : ScpOp) : Bool :=
  match op with
  | .read | .write | .attest => true
  | _ => false

/-- MACsec is required of the port (R266). -/
def macsec (s : State) : Bool := s.confidential || s.b F.ETH_CFG_MACSEC

/-- A request is executed in its session's order: RESETTING in a reset (R273), a retry from the cache or STALE_RETRY (R270), an error
before admission, on a standby or in RECOVERY, or its own operation; the answer then leaves, unless it waits for an access. -/
def execute (s : State) (q : Req) : State :=
  let h := q.h
  let s0 := (s.addressed h).ok
  if RState.resetting ≤ s.resetState && (q.op ≠ .attest || s.pwr.resetFull) then
    let (n, s1) := s0.draw
    (s1.err Status.resetting (Config.freeValue n % 2 ^ 32)).respond h
  else if h.retry then
    match (s.sessionOf h.sess).bind (fun x => x.cache.find? (fun (c : Cached) => c.tag == h.tag && decide (s.round < c.round + 1024))) with
    | some c => { s0 with answer := c.answer }.sendResponse
    | none => (s0.err Status.staleRetry 0).respond h
  else if s.macsec && !s.b F.ETH_STATUS_SECURED && !beforeSecured q.op then (s0.err Status.policy 0).respond h
  else if s.passive && !passiveServes q.op then (s0.err Status.notActive 0).respond h
  else if s.inRecovery && !recoveryOp q.op then (s0.err Status.state 0).respond h
  else
    match s0.serveOp q with
    | (t, true) => t.respond h
    | (t, false) => t

/-- What waits in a session is executed, until one of its requests waits for an access. -/
def drain (sess : Nat) : List Req → State → State
  | [], s => s.updSession sess (fun x => { x with queue := [] })
  | q :: rest, s =>
    match (s.sessionOf sess).bind (fun x => x.remote) with
    | some _ => s.updSession sess (fun x => { x with queue := q :: rest })
    | none => drain sess rest (s.execute q)

/-- The most that a datagram's payload may hold (R267). -/
def maxPayload (s : State) : Nat := min 8192 (s.g F.ETH_CFG_MTU - 80)

/-- A request arrives (R266, R267, R270, R272): a payload that is too long and, on a secured port, an unprotected frame
are discarded without a response; a 33rd source and a 65th outstanding request are answered BUSY. -/
def request (s : State) (q : Req) : State :=
  let h := q.h
  let s0 := s.count .ETH_COUNT 0
  if s0.maxPayload < 8 * q.words.length + q.bytes.length then (s0.count .ETH_COUNT 2).raise F.ETH_EVENT_DISCARD 0 1
  else if s.macsec && s.b F.ETH_STATUS_SECURED && !h.protectedFrame then
    (s0.count .ETH_COUNT 4).raise F.ETH_EVENT_UNPROTECTED 0 1
  else if (s0.sessionOf h.sess).isNone && decide (32 ≤ s0.eth.sessions.length) then s0.answerBusy h
  else
    let s1 := match s0.sessionOf h.sess with
      | some _ => s0.updSession h.sess (fun x => { x with last := s.round })
      | none =>
        let x : Session := ⟨h.sess, s.round, [], none, [], none⟩
        { s0 with eth := { s0.eth with sessions := s0.eth.sessions ++ [x] } }
    match s1.sessionOf h.sess with
    | none => s1
    | some x =>
      if x.remote.isNone then s1.execute q
      else if 64 ≤ x.queue.length + 1 then s1.answerBusy h
      else s1.updSession h.sess (fun y => { y with queue := y.queue ++ [q] })

/-- The access that a session waits for has ended: its answer leaves, and the requests behind it follow. -/
def completeRemote (s : State) (sess : Nat) (m : Remote) (answer : State → State) : State :=
  let h : ScpHdr := ⟨sess, m.tag, false, false, m.addr, m.count, true⟩
  let s1 := s.updSession sess (fun x => { x with remote := none })
  let s2 := (answer (s1.addressed h).ok).respond h
  match s2.sessionOf sess with
  | some x => drain sess x.queue s2
  | none => s2

/-- REMOTE_ACCESS_REPLY (R271): the words of an agent are those of its registers; those of another spire come with the
reply, as many as were completed. -/
def remoteReply (s : State) (sess tag status : Nat) (ws : List Word) : State :=
  match (s.sessionOf sess).bind (fun x => x.remote) with
  | none => s
  | some m =>
    if m.tag ≠ tag then s
    else s.completeRemote sess m (fun t =>
      if !m.far then readRun m.count (m.addr % 2 ^ 48) [] t
      else if m.write then
        let u := t.err status 0
        { u with answer := { u.answer with b := if status = Status.ok then m.count else ws.length } }
      else t.answerWords status 0 ws)

/-- REMOTE_ACCESS_TIMEOUT (R271): 8 rounds for an agent, 16 for another spire. -/
def remoteTimeout (s : State) (sess tag : Nat) : State :=
  match (s.sessionOf sess).bind (fun x => x.remote) with
  | none => s
  | some m =>
    if m.tag ≠ tag || decide (s.round < m.sent + (if m.far then 16 else 8)) then s
    else s.completeRemote sess m (fun t => t.err Status.timeout (if m.write then 1 else 0))

/-- SESSION_EXPIRY (R270): 16,384 rounds after the session's last request. -/
def sessionExpiry (s : State) (sess : Nat) : State :=
  let keep (x : Session) : Bool := !(x.id == sess && decide (x.last + 16384 ≤ s.round))
  { s with eth := { s.eth with sessions := s.eth.sessions.filter keep } }

/-- RETRY_CACHE_EXPIRY (R270): a response leaves the cache after 1,024 rounds. -/
def retryCacheExpiry (s : State) (sess tag : Nat) : State :=
  let keep (c : Cached) : Bool := !(c.tag == tag && decide (c.round + 1024 ≤ s.round))
  s.updSession sess (fun x => { x with cache := x.cache.filter keep })

/-- SUBSCRIPTION_LEASE_EXPIRY (R274): the lease has run out. -/
def leaseExpiry (s : State) (slot : Nat) : State :=
  if s.belf.subs.any (fun (u : Subscr) => u.slot == slot) && s.gi F.ETH_SUB_LEFT slot == 0 then
    (s.dropSub slot).raise F.ETH_EVENT_SUB_EXPIRED slot 1
  else s

/-- SCP_DATAGRAM_DISCARD (R267): counted, without a response. -/
def datagramDiscard (s : State) (reason : Nat) : State :=
  ((s.count .ETH_COUNT 0).count .ETH_COUNT 2).raise F.ETH_EVENT_DISCARD reason 1

-- The port and the chassis

/-- NEIGHBOUR_DISCOVERY_REQUEST (R264, R265): a module answers for its own address, and for the spire address while it
answers on it. -/
def neighbourRequest (s : State) (spireAddress : Bool) : State :=
  if spireAddress && !s.b F.ETH_STATUS_SPIRE_ADDR then s else s.send .advertisement (if spireAddress then 0 else 1) 1 []

/-- PFC_FRAME (R264): a pause on the RoCEv2 priority, honoured when PFC is enabled; a pause of 0 ends it. -/
def pfc (s : State) (pause : Nat) : State :=
  if getBits (s.rd .ETH_ADDR 0 10) 27 1 = 1 then
    let s1 := { s with eth := { s.eth with paused := pause != 0 } }
    if pause = 0 then s1.pumpQps else s1
  else s

/-- The register of an I3C word index (Table 18.6). -/
def i3cReg (i : Nat) : Option (Reg × Nat) :=
  if i = 0 then some (.IDENT_PART, 0)
  else if i = 1 then some (.PWR_STATUS, 0)
  else if i ≤ 10 then some (.PWR_RAIL, i - 2)
  else if i ≤ 12 then some (.TWIN_FEED, i - 11)
  else if i = 13 then some (.BELF_SENT, 0)
  else if i = 14 then some (.TWIN_STATUS, 0)
  else none

/-- The word of an I3C index (R443): zero above 14, and for what bring-up sets until it has started. -/
def i3cWord (s : State) (i : Nat) : Word × State :=
  match i3cReg i with
  | none => (0, s)
  | some (r, k) =>
    if (r = .PWR_STATUS || r = .TWIN_STATUS) && !s.pwr.started then (0, s)
    else s.readOwn r k

/-- I3C_PRIVATE_READ (R443): while the standby rail is up. -/
def i3cRead (s : State) : State :=
  if s.pwr.standbyUp then
    let x := s.i3cWord s.pwr.i3cIndex
    { x.2 with answer := ⟨0, 0, Status.ok, 0, s.pwr.i3cIndex, 1, [x.1], []⟩ }
  else s

/-- I3C_ENTDAA (R443): the instance field of the provisioned ID is SLOT_ID. -/
def i3cEntdaa (s : State) (address : Nat) : State :=
  if s.pwr.standbyUp then
    { s with pwr := { s.pwr with i3cAddress := address % 128 } }.send .pin (s.pwr.slotId % 64) address []
  else s

/-- I3C_PRIVATE_WRITE (R443): a 2-byte index. -/
def i3cWrite (s : State) (index : Nat) : State :=
  if s.pwr.standbyUp then { s with pwr := { s.pwr with i3cIndex := index % 65536 } } else s

end State

-- The meanings

/-- SCP_READ (R268). -/
def execScpRead (h : ScpHdr) (s : State) : Host.Outcome State Fault Refusal := finish (s.request ⟨.read, h, [], []⟩)
/-- SCP_WRITE (R268). -/
def execScpWrite (h : ScpHdr) (words : List Word) (s : State) : Host.Outcome State Fault Refusal :=
  finish (s.after (s.request ⟨.write, h, words, []⟩))
/-- MBX_POST (R276). -/
def execMbxPost (h : ScpHdr) (payload : List Word) (s : State) : Host.Outcome State Fault Refusal :=
  finish (s.request ⟨.post, h, payload, []⟩)
/-- MBX_FETCH (R268). -/
def execMbxFetch (h : ScpHdr) (s : State) : Host.Outcome State Fault Refusal :=
  finish (s.after (s.request ⟨.fetch, h, [], []⟩))
/-- PLAN_SEGMENT (R61). -/
def execPlanSegment (h : ScpHdr) (payload : Bytes) (s : State) : Host.Outcome State Fault Refusal :=
  finish (s.request ⟨.segment, h, [], payload⟩)
/-- GRAPH_SUBMIT (R190 to R194, R268). -/
def execGraphSubmit (h : ScpHdr) (payload : Bytes) (s : State) : Host.Outcome State Fault Refusal :=
  finish (s.after (s.request ⟨.submit, h, [], payload⟩))
/-- RING_FETCH (R205, R268). -/
def execRingFetch (h : ScpHdr) (s : State) : Host.Outcome State Fault Refusal := finish (s.request ⟨.ring, h, [], []⟩)
/-- TELEM_SUBSCRIBE (R274). -/
def execTelemSubscribe (h : ScpHdr) (payload : Bytes) (s : State) : Host.Outcome State Fault Refusal :=
  finish (s.request ⟨.subscribe, h, [], payload⟩)
/-- ATTEST (R343, R344). -/
def execAttest (h : ScpHdr) (nonce : Bytes) (s : State) : Host.Outcome State Fault Refusal :=
  finish (s.request ⟨.attest, h, [], nonce⟩)
/-- GRAPH_IDS (R268). -/
def execGraphIds (h : ScpHdr) (s : State) : Host.Outcome State Fault Refusal := finish (s.request ⟨.ids, h, [], []⟩)
/-- SCP_DATAGRAM_DISCARD (R267). -/
def execScpDatagramDiscard (reason : Nat) (s : State) : Host.Outcome State Fault Refusal := finish (s.datagramDiscard reason)
/-- SESSION_EXPIRY (R270). -/
def execSessionExpiry (sess : Nat) (s : State) : Host.Outcome State Fault Refusal := finish (s.sessionExpiry sess)
/-- RETRY_CACHE_EXPIRY (R270). -/
def execRetryCacheExpiry (sess tag : Nat) (s : State) : Host.Outcome State Fault Refusal := finish (s.retryCacheExpiry sess tag)
/-- SUBSCRIPTION_LEASE_EXPIRY (R274). -/
def execSubscriptionLeaseExpiry (slot : Nat) (s : State) : Host.Outcome State Fault Refusal := finish (s.leaseExpiry slot)
/-- ADMISSION_HELLO (R345). -/
def execAdmissionHello (h : ScpHdr) (payload : Bytes) (s : State) : Host.Outcome State Fault Refusal :=
  finish (s.request ⟨.hello, h, [], payload⟩)
/-- ADMISSION_FETCH (R345). -/
def execAdmissionFetch (h : ScpHdr) (s : State) : Host.Outcome State Fault Refusal := finish (s.request ⟨.report, h, [], []⟩)
/-- ADMISSION_FINISH (R345). -/
def execAdmissionFinish (h : ScpHdr) (fragment : Bytes) (s : State) : Host.Outcome State Fault Refusal :=
  finish (s.request ⟨.finish, h, [], fragment⟩)
/-- REMOTE_ACCESS_REPLY (R271). -/
def execRemoteAccessReply (sess tag status : Nat) (words : List Word) (s : State) : Host.Outcome State Fault Refusal :=
  finish (s.after (s.remoteReply sess tag status words))
/-- REMOTE_ACCESS_TIMEOUT (R271). -/
def execRemoteAccessTimeout (sess tag : Nat) (s : State) : Host.Outcome State Fault Refusal :=
  finish (s.after (s.remoteTimeout sess tag))
/-- NEIGHBOUR_DISCOVERY_REQUEST (R264). -/
def execNeighbourDiscoveryRequest (spireAddress : Bool) (s : State) : Host.Outcome State Fault Refusal :=
  finish (s.neighbourRequest spireAddress)
/-- PFC_FRAME (R264). -/
def execPfcFrame (pause : Nat) (s : State) : Host.Outcome State Fault Refusal := finish (s.pfc pause)
/-- I3C_ENTDAA (R443). -/
def execI3cEntdaa (address : Nat) (s : State) : Host.Outcome State Fault Refusal := finish (s.i3cEntdaa address)
/-- I3C_PRIVATE_WRITE (R443). -/
def execI3cPrivateWrite (index : Nat) (s : State) : Host.Outcome State Fault Refusal := finish (s.i3cWrite index)
/-- I3C_PRIVATE_READ (R443). -/
def execI3cPrivateRead (s : State) : Host.Outcome State Fault Refusal := finish s.i3cRead

end Sys2Proof.Machine
end

