-- ==== Sys2Proof/Machine/Round.lean ====
section
/-! DEFINITION. The round boundary of the block itself (R358, R364): what the module closes at the end of a round, what
it sends to its partner, and what begins with the next one; and the round's poll of the agents' mailboxes (R278). -/
namespace Sys2Proof.Machine

namespace State

-- Agents' mailboxes (R278)

/-- The epoch that a REKEY_DUE word names by its low 28 bits: the next one at or after the record's. -/
def fullEpoch (s : State) (node port low : Nat) : Nat :=
  let at_ := match s.hopOf node port with | some h => h.epoch | none => 0
  let e := at_ / 2 ^ 28 * 2 ^ 28 + low % 2 ^ 28
  if e < at_ then e + 2 ^ 28 else e

/-- A word from an agent's outbound mailbox has been taken (R277, R280, R284, R285, R169, Table 13.2). -/
def agentWord (s : State) (node i : Nat) (w : Word) : State :=
  let s1 := s.count .MBX_COUNT 0
  let ty := wordType w
  let v := wordPayload w
  if wordEpoch w ≠ s.ga F.AG_EPOCH_ELEMENT node 0 then s1.staleWord
  else if i = 0 && ty = 0x01 then
    let s2 := (s1.count .MBX_COUNT 6).raise F.MBX_EVENT_AGENT_RESET (s.logical node) (v % 256)
    if v % 256 = 2 && s.rep.grantedReset ≠ some node then s2.raise F.REP_EVENT_UNWARNED_RESET (s.logical node) 1 else s2
  else if i = 0 && ty = 0x38 then s1.rekeyDue node (v % 16) (v / 16 % 2) (s.fullEpoch node (v % 16) (v / 256))
  else if i = 0 && 0x80 ≤ ty then s1.relayToHost node w
  else if i = 1 && ty = GWord.sealAck then s1.wordAnswer node GWord.sealing v
  else if i = 1 && ty = GWord.rollbackDone then s1.wordAnswer node GWord.rollback v
  else s1.unknownWord

/-- The word in an agent's outbound mailbox 0 is a RESET_NOTICE of its present epoch. -/
def resetWaits (s : State) (node : Nat) : Bool :=
  let w := s.rd .AG_MBX_OUT node 0
  hasBit (s.ga F.AG_MBX_FULL_OUT_FULL node 0) 0 && wordType w == 0x01 && wordEpoch w == s.ga F.AG_EPOCH_ELEMENT node 0

/-- A word that Varlor posts again to an agent whose reset may have emptied its mailbox (R284): it has had no answer, and no rule asks
for it to be posted in each round, as R169 does for the guardian words with an answer. -/
def postedAgain (w : Word) : Bool :=
  let t := wordType w
  decide (0x80 ≤ t) || t == GWord.resume || t == GWord.release

/-- One bound agent is polled: Varlor learns which of its words were taken, and takes the agent's words, whatever words of its own
still wait to be taken (R281). After a RESET_NOTICE it posts its words again (R284). -/
def pollAgent (s : State) (node : Nat) : State :=
  let again := if s.resetWaits node then s.mbx.posted.filter (fun (x : Posted) =>
      x.party == Party.agent && x.node == node && !s.outFull Party.agent node x.idx && postedAgain x.word) else []
  let s1 := [0, 1].foldl (fun (t : State) i =>
    let posted := t.mbx.posted.any (fun (x : Posted) => x.party == Party.agent && x.node == node && x.idx == i)
    if posted && !t.outFull Party.agent node i then t.wordTaken Party.agent node i else t) s
  let s2 := [0, 1].foldl (fun (t : State) i =>
    if hasBit (t.ga F.AG_MBX_FULL_OUT_FULL node 0) i then
      let w := t.rd .AG_MBX_OUT node i
      (t.takeOut node i).agentWord node i w
    else t) s1
  again.foldl (fun (t : State) (x : Posted) => t.postWord Party.agent node x.idx x.word none) s2

/-- AGENT_MAILBOX_POLL (R278). -/
def pollAgents (s : State) : State := s.boundNodes.foldl (fun (t : State) n => t.pollAgent n) s

-- Closing a round

/-- The partner follows this module's inputs: it is SYNCING or STANDBY, and this module holds control (R363). -/
def mirrors (s : State) : Bool :=
  let p := s.g F.TWIN_STATUS_PARTNER_STATE
  s.isActive && s.b F.TWIN_STATUS_PARTNER_SEEN && (p == Pair.syncing || p == Pair.standby)

/-- CHECKPOINT frames for the checkpoint pairs that have changed (R258). -/
def mirrorCheckpoints (s : State) : State :=
  ((List.range 32).map (fun c => c + 96)).foldl (fun (t : State) c =>
    let pair := (c, t.rd .CHK_CKPT_VALUE 0 c, t.rd .CHK_CKPT_BYTES 0 c)
    let old := t.chk.mirrored.find? (fun (e : Nat × Word × Word) => e.1 == c)
    if old = some pair || (old.isNone && pair.2.1 = 0 && pair.2.2 = 0) then t
    else
      let l := t.chk.mirrored.filter (fun (e : Nat × Word × Word) => e.1 != c) ++ [pair]
      ({ t with chk := { t.chk with mirrored := l } }).mirrorSend Mirror.checkpoint false [c]
        (leBytes 8 c ++ leBytes 8 pair.2.1.toNat ++ leBytes 8 pair.2.2.toNat)) s

/-- R62 on the active module: the comparison of the round after the verification has come and gone without a MISMATCH. -/
def agreeActive (s : State) : State :=
  match s.plan.verified with
  | none => s
  | some v =>
    if s.round ≤ v then s
    else if s.twin.mismatch.isNone then s.agreeVerified v
    else { s with plan := { s.plan with verified := none } }

/-- The round of an active module is closed: its digest is taken, and END_OF_ROUND carries it with the number of the
decisions it covers (R364). A module that shadows another closes its rounds by that one's END_OF_ROUND. -/
def closeOwn (s : State) : State :=
  if s.shadowing then s
  else
    let n := s.round
    let count := s.twin.decisions.length
    let s1 := (if s.mirrors then s.mirrorCheckpoints else s).closeDigest n
    let d := (s1.twin.digests.getLastD (n, 0)).2
    if s.mirrors then (s1.mirrorSend Mirror.endOfRound false [] (leBytes 8 d.toNat ++ leBytes 4 count)).agreeActive
    else s1

/-- HELLO, every round while a twin port is trained (R373). -/
def sendHello (s : State) : State :=
  if s.twinUp then
    s.postTwin 0 0x10 (s.g F.TWIN_STATUS_MIRROR_LEVEL % 16 + s.g F.TWIN_STATUS_LETTER * 16 + s.pair * 32
      + s.claimEpoch % 2 ^ 32 * 256)
  else s

/-- R433: a round without a self-test failure of a new image in STANDBY, ACTIVE or, from READY, ACTIVE_SOLO. -/
def countGood (s : State) : State :=
  let p := s.pair
  let good := p == Pair.standby || p == Pair.active || (p == Pair.solo && s.g F.PWR_STATUS_STAGE == 12)
  if s.pwr.applying && good then { s with pwr := { s.pwr with goodRounds := s.pwr.goodRounds + 1 } } else s

/-- What an agent takes over at a round boundary (R148, R128, R408). -/
def agentBoundary (s : State) (a : Agent) : State :=
  let s1 := match a.allowNext with | some w => s.wr .AG_ALLOW a.node 0 w | none => s
  let s2 := match a.treeNext with | some w => s1.wr .AG_TREE a.node 0 w | none => s1
  let s3 := s2.updAg a.node (fun x => { x with allowNext := none, treeNext := none, noticed := [] })
  match a.fullAt with
  | some r => if r ≤ s.round then s3.linkDomainReset a.node 2 else s3
  | none => s3

/-- The next round begins at its boundary (R90); the lantern's time has come at least so far (R289). -/
def nextRound (s : State) : State :=
  let n := s.round + 1
  (s.timeTo (s.boundaryNs n) 0).p F.BELL_ROUND_ROUND n

/-- The leases of the subscriptions run by one round (R274). -/
def countLeases (s : State) : State :=
  s.belf.subs.foldl (fun (t : State) (u : Subscr) => t.pi F.ETH_SUB_LEFT u.slot (t.gi F.ETH_SUB_LEFT u.slot - 1)) s

/-- Counters are latched again once a boundary of 1 ms has passed (Table 13.7). -/
def latchDue (s : State) : State := if s.eth.latchedMs < s.lant.now / 1000000 then s.latchCounters else s

/-- The end of the round on this module. -/
def endRound (s : State) : State :=
  let s1 := s.closePace.closeFeed
  let s2 := if s1.twin.claiming && decide (s1.twin.claimRound ≤ s1.round) then s1.failClaim else s1
  if s2.twin.stopped || s2.twin.hardStopped then s2
  else s2.pumpHandover.nameSwitch.closeOwn.sendHello.countGood

/-- R70, R358: a module whose control plane has closed the round before sends its beacons of the new one; one whose control plane has
stopped is silent, though its ports stay trained. -/
def roundBeacons (s : State) : State :=
  if s.twin.stopped || s.twin.hardStopped then s else s.ownTrained.foldl (fun (t : State) n => t.sendOwnBeacon n) s

/-- The start of the next round on this module and at the agents. -/
def beginRound (s : State) : State :=
  let s1 := s.nextRound.roundBeacons
  let s2 := s1.agents.foldl agentBoundary s1
  let s3 := { s2 with
    rep := { s2.rep with heardBefore := s2.rep.heard, heard := [] }
    eth := { s2.eth with paused := false } }
  let s4 := s3.pumpQps.refillTokens.countLeases.countHoldover.slewOn
  s4.readLate.resumeWork.takeRecords.runRegens.resetAfterSwitch.showRetrains.showEarliest.latchDue

/-- ROUND_CLOSE (R364). -/
def roundClose (s : State) : State := s.endRound.beginRound

end State

-- The meanings

/-- AGENT_MAILBOX_POLL (R278). -/
def execAgentMailboxPoll (s : State) : Host.Outcome State Fault Refusal := finish (s.after s.pollAgents)
/-- ROUND_CLOSE (R364). -/
def execRoundClose (s : State) : Host.Outcome State Fault Refusal := finish (s.after s.roundClose)

end Sys2Proof.Machine
end

