-- ==== Sys2Proof/Machine/Shadow.lean ====
section
/-! DEFINITION. MIRROR_INPUT (R362 to R364): the standby consumes the inputs of the active module, in their order, and
recomputes its decisions. An INPUT payload is read as the frames and requests in their own layouts, one after another;
one that no layout fits ends the reading, and its bytes stay among the inputs that a capture keeps (R366). -/
namespace Sys2Proof.Machine

/-- A frame of 64 bytes with its CRC-32C in its last four. -/
def frameOk (bs : Bytes) : Bool := bs.length == 64 && crc32c (bs.take 60) == field bs 60 4

/-- A heartbeat (Table 5.3). -/
def heartbeatOf (bs : Bytes) : Heartbeat :=
  { node := field bs 4 4, computeUp := field bs 2 1 % 2 == 1, computeReset := field bs 2 1 / 2 % 2 == 1
    installState := field bs 3 1, round := field bs 8 6, epoch := field bs 16 4, portsUp := field bs 20 2
    installId := field bs 22 2, crcOk := frameOk bs }

/-- A fault notice (Table 5.4). -/
def noticeOf (bs : Bytes) : Notice :=
  { cause := field bs 2 1, port := field bs 3 1, node := field bs 4 4, round := field bs 8 6, flow := field bs 16 2
    cupola := field bs 18 2, count := field bs 20 4, farId := field bs 24 16 }

/-- A receipt (Table 4.8). -/
def receiptOf (bs : Bytes) : Receipt :=
  { installId := field bs 2 2, node := field bs 4 4, state := field bs 8 1, refusal := field bs 9 1, table := field bs 10 1
    epoch := field bs 12 4, bitmap := field bs 16 16, crcOk := frameOk bs }

/-- The beacon part of a probe reply (Table 3.1). -/
def beaconOf (bs : Bytes) : Beacon :=
  { level := field bs 2 1, kind := field bs 3 1, port := field bs 4 1, portCount := field bs 5 1, flags := field bs 6 2
    elementId := field bs 8 16, epoch := field bs 24 4, boundNode := field bs 28 4, usable := field bs 32 4
    designed := field bs 36 4, letter := field bs 40 1, mirrorLevel := field bs 41 1, reserved := field bs 42 18
    crcOk := frameOk (bs.take 64) }

/-- Port record `k` of a probe reply (Table 3.2). -/
def portRecOf (bs : Bytes) (k : Nat) : PortRec :=
  let o := 64 + 32 * k
  { link := field bs o 1, level := field bs (o + 1) 1, farPort := field bs (o + 2) 1, farKind := field bs (o + 3) 1
    farEpoch := field bs (o + 4) 4, farId := field bs (o + 8) 16, beaconErrors := field bs (o + 24) 4 }

/-- The length of the frame or request at the front of a payload, `none` where no layout fits. -/
def inputLength (bs : Bytes) : Option Nat :=
  let ty := field bs 0 2
  let n :=
    if ty = 0x0011 || ty = 0x0020 || ty = 0x0021 then 64
    else if ty = 0x0003 then 64 + 32 * field bs 5 1
    else if ty = 0x0001 then 32 + field bs 0x1C 4
    else 0
  if n = 0 || bs.length < n then none else some n

/-- The registers whose writes are inputs of the control plane that the pair shares (Table 14.4): blocks PLAN to MBX,
LANT and KEY, but for what belongs to one module. -/
def mirroredWrite (r : Reg) (v : Word) : Bool :=
  let block := r.base / 0x100000
  (decide (1 ≤ block) && decide (block ≤ 0xA) || block == 0xB || block == 0xD)
    && r != .MBX_HIN && r != .KEY_ENROL_STAGE && (r != .KEY_CTRL || getBits v 0 4 != 1) && r != .LANT_CFG && r != .MBX_CFG

namespace State

/-- The words of a mirrored WRITE. -/
def shadowWrite : List Word → Nat → State → State
  | [], _, s => s
  | w :: ws, addr, s =>
    match s.placeOf addr with
    | .own r i => shadowWrite ws (addr + 8) (if mirroredWrite r w then s.writeOwn 0 r i w else s)
    | _ => s

/-- A mirrored fragment of a graph (R268). -/
def shadowGraph (s : State) (off total : Nat) (more : Bool) (bs : Bytes) : State :=
  let have_ : Assembly := match s.twin.assembly with | some a => if off = 0 then ⟨total, []⟩ else a | none => ⟨total, []⟩
  let set (a : Option Assembly) : State := { s with twin := { s.twin with assembly := a } }
  let all := have_.bytes ++ bs
  if off ≠ have_.bytes.length || total ≠ have_.total then set none
  else if more then set (some ⟨total, all⟩)
  else if all.length ≠ total then set none
  else (set none).submitGraph all

/-- A mirrored SCP request that changes state (Tables 10.2 and 10.3). -/
def shadowRequest (s : State) (bs : Bytes) : State :=
  let op := field bs 2 1
  let more := field bs 3 1 / 4 % 2 == 1
  let a := field bs 8 8
  let b := field bs 16 4
  let p := bs.drop 32
  let words := (List.range (p.length / 8)).map (fun i => BitVec.ofNat 64 (field p (8 * i) 8))
  let t :=
    if op = 0x02 then shadowWrite words a s
    else if op = 0x04 then s.hostTake (a % 2 ^ 32)
    else if op = 0x05 then s.planSegmentAt a p
    else if op = 0x06 then s.shadowGraph a b more p
    else if op = 0x07 then s.ringTailWrite (a % 2 ^ 32)
    else s
  { t with answer := s.answer }

/-- One frame or request is consumed. -/
def shadowInput (s : State) (bs : Bytes) : State :=
  let ty := field bs 0 2
  if ty = 0x0021 then
    let hb := heartbeatOf bs
    (s.heartbeatReceive hb).rereadPorts hb
  else if ty = 0x0020 then (if frameOk bs then s.faultNotice (noticeOf bs) else s)
  else if ty = 0x0011 then
    let r := receiptOf bs
    if s.installing then s.receipt r else s.tableReceipt r
  else if ty = 0x0003 then
    let b := beaconOf bs
    match s.disc.probes.find? (fun (x : ProbeOut) => x.id == b.elementId) with
    | some x => s.probeReply x.route b ((List.range b.portCount).map (portRecOf bs))
    | none => s
  else s.shadowRequest bs

/-- The frames and requests of a payload, in the order of consumption; the first number bounds how many. -/
def shadowAll : Nat → Bytes → State → State
  | 0, _, s => s
  | n + 1, bs, s =>
    match inputLength bs with
    | none => s
    | some k => shadowAll n (bs.drop k) (s.shadowInput (bs.take k))

/-- MIRROR_INPUT (R362): an accepted frame joins the inputs of its round; its content is consumed once the snapshot, from
whose round the inputs follow, is applied (R363). -/
def mirrorInput (s : State) (f : MirrorF) : State :=
  match s.mirrorAccept f with
  | (t, false) => t
  | (t, true) =>
    let i : Input := ⟨f.round, f.payload⟩
    let t1 := { t with twin := { t.twin with inputs := t.twin.inputs ++ [i] } }
    if t1.twin.snapshotApplied then shadowAll f.payload.length f.payload t1 else t1

end State

/-- MIRROR_INPUT (R362). -/
def execMirrorInput (f : MirrorF) (s : State) : Host.Outcome State Fault Refusal := finish (s.after (s.mirrorInput f))

end Sys2Proof.Machine
end

