-- ==== Sys2Proof/Machine/Dispatch.lean ====
section
/-! DEFINITION. The dispatch: each command runs its own meaning, a definition of the file of its family. -/
namespace Sys2Proof.Machine

def exec (i : Instr) (s : State) : Host.Outcome State Fault Refusal :=
  match i with
  -- Register access and the Spire Control Protocol
  | .registerWrite sess addr value => Sys2Proof.Machine.execRegisterWrite sess addr value s
  | .scpRead h => Sys2Proof.Machine.execScpRead h s
  | .scpWrite h words => Sys2Proof.Machine.execScpWrite h words s
  | .mbxPost h payload => Sys2Proof.Machine.execMbxPost h payload s
  | .mbxFetch h => Sys2Proof.Machine.execMbxFetch h s
  | .planSegment h payload => Sys2Proof.Machine.execPlanSegment h payload s
  | .graphSubmit h payload => Sys2Proof.Machine.execGraphSubmit h payload s
  | .ringFetch h => Sys2Proof.Machine.execRingFetch h s
  | .telemSubscribe h payload => Sys2Proof.Machine.execTelemSubscribe h payload s
  | .attest h nonce => Sys2Proof.Machine.execAttest h nonce s
  | .graphIds h => Sys2Proof.Machine.execGraphIds h s
  | .scpDatagramDiscard reason => Sys2Proof.Machine.execScpDatagramDiscard reason s
  | .sessionExpiry sess => Sys2Proof.Machine.execSessionExpiry sess s
  | .retryCacheExpiry sess tag => Sys2Proof.Machine.execRetryCacheExpiry sess tag s
  | .subscriptionLeaseExpiry slot => Sys2Proof.Machine.execSubscriptionLeaseExpiry slot s
  | .admissionHello h payload => Sys2Proof.Machine.execAdmissionHello h payload s
  | .admissionFetch h => Sys2Proof.Machine.execAdmissionFetch h s
  | .admissionFinish h fragment => Sys2Proof.Machine.execAdmissionFinish h fragment s
  | .admissionTimeout sess => Sys2Proof.Machine.execAdmissionTimeout sess s
  -- Plan
  | .loadBegin => Sys2Proof.Machine.execLoadBegin s
  | .verify => Sys2Proof.Machine.execVerify s
  | .verifyComplete => Sys2Proof.Machine.execVerifyComplete s
  | .activate => Sys2Proof.Machine.execActivate s
  | .abort => Sys2Proof.Machine.execAbort s
  | .discard => Sys2Proof.Machine.execDiscard s
  -- Power, pace and internal repair
  | .paceWindow counts => Sys2Proof.Machine.execPaceWindow counts s
  | .junctionTemperatureThreshold deciC => Sys2Proof.Machine.execJunctionTemperatureThreshold deciC s
  | .paceDeficit engine => Sys2Proof.Machine.execPaceDeficit engine s
  | .fallbackApply engine => Sys2Proof.Machine.execFallbackApply engine s
  | .bankGroupMigrate physical => Sys2Proof.Machine.execBankGroupMigrate physical s
  | .gfLaneRetire physical => Sys2Proof.Machine.execGfLaneRetire physical s
  | .sramUncorrectable physical region owners => Sys2Proof.Machine.execSramUncorrectable physical region owners s
  | .packageFailure package => Sys2Proof.Machine.execPackageFailure package s
  -- Slots, beacons and discovery
  | .slotStart node port slot => Sys2Proof.Machine.execSlotStart node port slot s
  | .beaconReceive node port b => Sys2Proof.Machine.execBeaconReceive node port b s
  | .identityUnknown node port => Sys2Proof.Machine.execIdentityUnknown node port s
  | .neighbourSilent node port => Sys2Proof.Machine.execNeighbourSilent node port s
  | .probe node ingress route => Sys2Proof.Machine.execProbe node ingress route s
  | .probeReply route b ports => Sys2Proof.Machine.execProbeReply route b ports s
  | .probeTimeout route => Sys2Proof.Machine.execProbeTimeout route s
  | .settleEnd => Sys2Proof.Machine.execSettleEnd s
  | .walkComplete => Sys2Proof.Machine.execWalkComplete s
  | .matchingComplete => Sys2Proof.Machine.execMatchingComplete s
  | .bindingResolveComplete a => Sys2Proof.Machine.execBindingResolveComplete a s
  | .rescan => Sys2Proof.Machine.execRescan s
  | .portTrained node port => Sys2Proof.Machine.execPortTrained node port s
  | .portLossOfLock node port => Sys2Proof.Machine.execPortLossOfLock node port s
  -- Frames and items at an agent
  | .frameArrive node ingress f => Sys2Proof.Machine.execFrameArrive node ingress f s
  | .itemInject node flow cupola tag window payload => Sys2Proof.Machine.execItemInject node flow cupola tag window payload s
  | .itemWindowExpiry node tag => Sys2Proof.Machine.execItemWindowExpiry node tag s
  | .deliveryReceipt node flow tag => Sys2Proof.Machine.execDeliveryReceipt node flow tag s
  | .receiptTimeout node tag => Sys2Proof.Machine.execReceiptTimeout node tag s
  | .drainBoundExpiry node flow => Sys2Proof.Machine.execDrainBoundExpiry node flow s
  | .quiesceFlow => Sys2Proof.Machine.execQuiesceFlow s
  | .resumeFlow => Sys2Proof.Machine.execResumeFlow s
  | .quiesceDrained => Sys2Proof.Machine.execQuiesceDrained s
  | .fenceNode => Sys2Proof.Machine.execFenceNode s
  | .retryHeld => Sys2Proof.Machine.execRetryHeld s
  -- Installs
  | .manifest node m => Sys2Proof.Machine.execManifest node m s
  | .tableSegment node seg => Sys2Proof.Machine.execTableSegment node seg s
  | .receipt r => Sys2Proof.Machine.execReceipt r s
  | .installCollectionEnd => Sys2Proof.Machine.execInstallCollectionEnd s
  | .retransmissionPassEnd => Sys2Proof.Machine.execRetransmissionPassEnd s
  | .commitPoint => Sys2Proof.Machine.execCommitPoint s
  | .installReportDeadline => Sys2Proof.Machine.execInstallReportDeadline s
  | .activateFrame node a => Sys2Proof.Machine.execActivateFrame node a s
  | .activateDiscard node a => Sys2Proof.Machine.execActivateDiscard node a s
  | .bankSwitch node => Sys2Proof.Machine.execBankSwitch node s
  | .installActivation => Sys2Proof.Machine.execInstallActivation s
  | .completionInstallStart => Sys2Proof.Machine.execCompletionInstallStart s
  | .singleAgentInstallStart node => Sys2Proof.Machine.execSingleAgentInstallStart node s
  -- Cupolas
  | .carve cupola job => Sys2Proof.Machine.execCarve cupola job s
  | .carveStart cupola => Sys2Proof.Machine.execCarveStart cupola s
  | .carveWaitExpiry cupola => Sys2Proof.Machine.execCarveWaitExpiry cupola s
  | .carveFilterWrite cupola => Sys2Proof.Machine.execCarveFilterWrite cupola s
  | .carveRewrite cupola => Sys2Proof.Machine.execCarveRewrite cupola s
  | .filterConfirm cupola node refused => Sys2Proof.Machine.execFilterConfirm cupola node refused s
  | .carveConfirmDeadline cupola => Sys2Proof.Machine.execCarveConfirmDeadline cupola s
  | .carveRound cupola => Sys2Proof.Machine.execCarveRound cupola s
  | .filterActivation node => Sys2Proof.Machine.execFilterActivation node s
  | .retire cupola job => Sys2Proof.Machine.execRetire cupola job s
  | .retireAdmissionStop cupola => Sys2Proof.Machine.execRetireAdmissionStop cupola s
  | .retireDrainEnd cupola => Sys2Proof.Machine.execRetireDrainEnd cupola s
  | .retireRound cupola => Sys2Proof.Machine.execRetireRound cupola s
  | .retireVacant cupola => Sys2Proof.Machine.execRetireVacant cupola s
  | .retryRepair => Sys2Proof.Machine.execRetryRepair s
  -- Failures and repair
  | .heartbeatReceive hb => Sys2Proof.Machine.execHeartbeatReceive hb s
  | .faultNotice n => Sys2Proof.Machine.execFaultNotice n s
  | .failureDetection => Sys2Proof.Machine.execFailureDetection s
  | .failureClassification => Sys2Proof.Machine.execFailureClassification s
  | .failureBroadcast node b => Sys2Proof.Machine.execFailureBroadcast node b s
  | .installTreeRebuild => Sys2Proof.Machine.execInstallTreeRebuild s
  | .deferredClassification => Sys2Proof.Machine.execDeferredClassification s
  | .repairSelect => Sys2Proof.Machine.execRepairSelect s
  | .repairInstallStart => Sys2Proof.Machine.execRepairInstallStart s
  | .resolveComplete a us => Sys2Proof.Machine.execResolveComplete a us s
  | .resetCompute logical => Sys2Proof.Machine.execResetCompute logical s
  | .resetFull logical => Sys2Proof.Machine.execResetFull logical s
  | .resetGrant => Sys2Proof.Machine.execResetGrant s
  | .repCancelReset => Sys2Proof.Machine.execRepCancelReset s
  | .failNode logical => Sys2Proof.Machine.execFailNode logical s
  -- The guardian
  | .delta it => Sys2Proof.Machine.execDelta it s
  | .gend it => Sys2Proof.Machine.execGend it s
  | .sample it => Sys2Proof.Machine.execSample it s
  | .shard it => Sys2Proof.Machine.execShard it s
  | .undo it => Sys2Proof.Machine.execUndo it s
  | .regionWritten group region => Sys2Proof.Machine.execRegionWritten group region s
  | .lentAck group lane region => Sys2Proof.Machine.execLentAck group lane region s
  | .lendingInAccumulation spire group lane region acc => Sys2Proof.Machine.execLendingInAccumulation spire group lane region acc s
  | .lentBlockRequest spire group lane region => Sys2Proof.Machine.execLentBlockRequest spire group lane region s
  | .laneLossReport spire group lane => Sys2Proof.Machine.execLaneLossReport spire group lane s
  | .directFoldSwitch => Sys2Proof.Machine.execDirectFoldSwitch s
  | .foldedReport spire job step groups hold => Sys2Proof.Machine.execFoldedReport spire job step groups hold s
  | .sealRecord job step => Sys2Proof.Machine.execSealRecord job step s
  | .sealAck node step => Sys2Proof.Machine.execSealAck node step s
  | .rollbackDone node step => Sys2Proof.Machine.execRollbackDone node step s
  | .guardianWordRepost => Sys2Proof.Machine.execGuardianWordRepost s
  | .ackTimeout group member type => Sys2Proof.Machine.execAckTimeout group member type s
  | .rollbackFoldStart group => Sys2Proof.Machine.execRollbackFoldStart group s
  | .disableGroup group => Sys2Proof.Machine.execDisableGroup group s
  | .disableGroupSettle group => Sys2Proof.Machine.execDisableGroupSettle group s
  | .enableGroup group => Sys2Proof.Machine.execEnableGroup group s
  | .releaseSeal => Sys2Proof.Machine.execReleaseSeal s
  | .rollbackJob => Sys2Proof.Machine.execRollbackJob s
  -- Graphs and services
  | .taskStart index => Sys2Proof.Machine.execTaskStart index s
  | .notifyRetry index => Sys2Proof.Machine.execNotifyRetry index s
  | .windowClose index => Sys2Proof.Machine.execWindowClose index s
  | .taskEnd index => Sys2Proof.Machine.execTaskEnd index s
  | .cancelTask => Sys2Proof.Machine.execCancelTask s
  | .cancelGraph => Sys2Proof.Machine.execCancelGraph s
  | .disableExport => Sys2Proof.Machine.execDisableExport s
  | .enableExport => Sys2Proof.Machine.execEnableExport s
  | .disableImport => Sys2Proof.Machine.execDisableImport s
  | .enableImport => Sys2Proof.Machine.execEnableImport s
  | .functionAdmissionStop function index => Sys2Proof.Machine.execFunctionAdmissionStop function index s
  | .functionDrainEnd function index => Sys2Proof.Machine.execFunctionDrainEnd function index s
  | .functionDisabled function index => Sys2Proof.Machine.execFunctionDisabled function index s
  | .graphRingTailWrite value => Sys2Proof.Machine.execGraphRingTailWrite value s
  | .scalarContribution c => Sys2Proof.Machine.execScalarContribution c s
  | .scalarAccumulator a => Sys2Proof.Machine.execScalarAccumulator a s
  | .scalarResult tag values flags => Sys2Proof.Machine.execScalarResult tag values flags s
  | .forwardedRecord record => Sys2Proof.Machine.execForwardedRecord record s
  | .roceAck qp psn => Sys2Proof.Machine.execRoceAck qp psn s
  | .roceNak qp psn => Sys2Proof.Machine.execRoceNak qp psn s
  | .roceRnrNak qp psn => Sys2Proof.Machine.execRoceRnrNak qp psn s
  | .roceRemoteAccessNak qp psn => Sys2Proof.Machine.execRoceRemoteAccessNak qp psn s
  | .roceAckTimeout qp => Sys2Proof.Machine.execRoceAckTimeout qp s
  | .roceReadResponse qp psn data => Sys2Proof.Machine.execRoceReadResponse qp psn data s
  | .roceRequestDiscard => Sys2Proof.Machine.execRoceRequestDiscard s
  | .congestionNotification qp => Sys2Proof.Machine.execCongestionNotification qp s
  | .ecnRateIncrease qp => Sys2Proof.Machine.execEcnRateIncrease qp s
  | .ethQpWordWrite word value => Sys2Proof.Machine.execEthQpWordWrite word value s
  | .statsWaitEnd group => Sys2Proof.Machine.execStatsWaitEnd group s
  | .clearSuspect => Sys2Proof.Machine.execClearSuspect s
  -- Check channels
  | .attach channel => Sys2Proof.Machine.execAttach channel s
  | .suspend channel => Sys2Proof.Machine.execSuspend channel s
  | .chkResume channel => Sys2Proof.Machine.execChkResume channel s
  | .detach channel => Sys2Proof.Machine.execDetach channel s
  | .chkDisable channel => Sys2Proof.Machine.execChkDisable channel s
  | .chkEnable channel => Sys2Proof.Machine.execChkEnable channel s
  | .chkValueWrite bytesReg channel value => Sys2Proof.Machine.execChkValueWrite bytesReg channel value s
  | .checkUnit channel data carried parity resent noSource => Sys2Proof.Machine.execCheckUnit channel data carried parity resent noSource s
  -- Mailboxes
  | .hostWordTake index => Sys2Proof.Machine.execHostWordTake index s
  | .mbxHinWrite index value => Sys2Proof.Machine.execMbxHinWrite index value s
  | .mbxHoutTake mask => Sys2Proof.Machine.execMbxHoutTake mask s
  | .agentMailboxPoll => Sys2Proof.Machine.execAgentMailboxPoll s
  | .mailboxStall party node index => Sys2Proof.Machine.execMailboxStall party node index s
  -- Twin
  | .hello level letter pairState claimEpoch => Sys2Proof.Machine.execHello level letter pairState claimEpoch s
  | .syncReq => Sys2Proof.Machine.execSyncReq s
  | .syncDone round => Sys2Proof.Machine.execSyncDone round s
  | .mismatch round => Sys2Proof.Machine.execMismatch round s
  | .selftestRun pass => Sys2Proof.Machine.execSelftestRun pass s
  | .selftest pass round => Sys2Proof.Machine.execSelftest pass round s
  | .mismatchOutcome => Sys2Proof.Machine.execMismatchOutcome s
  | .switchReq drill hard => Sys2Proof.Machine.execSwitchReq drill hard s
  | .switchAck round => Sys2Proof.Machine.execSwitchAck round s
  | .switchRefuse reason => Sys2Proof.Machine.execSwitchRefuse reason s
  | .mirrorNak seq => Sys2Proof.Machine.execMirrorNak seq s
  | .handoverDone regions => Sys2Proof.Machine.execHandoverDone regions s
  | .powerLoss => Sys2Proof.Machine.execPowerLoss s
  | .feed a b => Sys2Proof.Machine.execFeed a b s
  | .twinEnrol slot => Sys2Proof.Machine.execTwinEnrol slot s
  | .mirrorInput f => Sys2Proof.Machine.execMirrorInput f s
  | .endOfRound f digest => Sys2Proof.Machine.execEndOfRound f digest s
  | .snapshot f imagesVerified agrees => Sys2Proof.Machine.execSnapshot f imagesVerified agrees s
  | .checkpoint f channel value bytes => Sys2Proof.Machine.execCheckpoint f channel value bytes s
  | .parity f group lane region => Sys2Proof.Machine.execParity f group lane region s
  | .mirrorRecord f => Sys2Proof.Machine.execMirrorRecord f s
  | .activeSilence round => Sys2Proof.Machine.execActiveSilence round s
  | .claim node port c => Sys2Proof.Machine.execClaim node port c s
  | .grant node g => Sys2Proof.Machine.execGrant node g s
  | .release node port r => Sys2Proof.Machine.execRelease node port r s
  | .claimRetry => Sys2Proof.Machine.execClaimRetry s
  | .takeoverAct => Sys2Proof.Machine.execTakeoverAct s
  | .startingTimeout => Sys2Proof.Machine.execStartingTimeout s
  | .switch => Sys2Proof.Machine.execSwitch s
  | .drill hard => Sys2Proof.Machine.execDrill hard s
  | .resync => Sys2Proof.Machine.execResync s
  | .twinCancel => Sys2Proof.Machine.execTwinCancel s
  | .clearCapture => Sys2Proof.Machine.execClearCapture s
  | .autoReturn => Sys2Proof.Machine.execAutoReturn s
  | .switchRound => Sys2Proof.Machine.execSwitchRound s
  | .switchRoundTimeout => Sys2Proof.Machine.execSwitchRoundTimeout s
  | .drillReturn => Sys2Proof.Machine.execDrillReturn s
  | .feedStateChange feed mv => Sys2Proof.Machine.execFeedStateChange feed mv s
  | .powerFail => Sys2Proof.Machine.execPowerFail s
  | .feedCurrentLimit ma => Sys2Proof.Machine.execFeedCurrentLimit ma s
  -- Lantern
  | .timeWordSend node port => Sys2Proof.Machine.execTimeWordSend node port s
  | .timeWord node port w => Sys2Proof.Machine.execTimeWord node port w s
  | .holdoverEntry => Sys2Proof.Machine.execHoldoverEntry s
  | .holdoverLimit => Sys2Proof.Machine.execHoldoverLimit s
  | .referenceStart floors => Sys2Proof.Machine.execReferenceStart floors s
  | .floorWrite => Sys2Proof.Machine.execFloorWrite s
  | .ppsInEdge ns => Sys2Proof.Machine.execPpsInEdge ns s
  | .ppsInLost => Sys2Proof.Machine.execPpsInLost s
  | .setTod mode session => Sys2Proof.Machine.execSetTod mode session s
  | .stopSlew session => Sys2Proof.Machine.execStopSlew session s
  | .slewComplete => Sys2Proof.Machine.execSlewComplete s
  | .lantNowNsRead ns frac => Sys2Proof.Machine.execLantNowNsRead ns frac s
  | .ptpSync => Sys2Proof.Machine.execPtpSync s
  | .ptpAnnounce => Sys2Proof.Machine.execPtpAnnounce s
  | .ptpDelayReq supported => Sys2Proof.Machine.execPtpDelayReq supported s
  -- Belfry
  | .belfryEvent source instance_ value => Sys2Proof.Machine.execBelfryEvent source instance_ value s
  | .cellClose source instance_ => Sys2Proof.Machine.execCellClose source instance_ s
  | .flush => Sys2Proof.Machine.execFlush s
  | .recordFlashWrite ok => Sys2Proof.Machine.execRecordFlashWrite ok s
  | .freeze => Sys2Proof.Machine.execFreeze s
  | .thaw => Sys2Proof.Machine.execThaw s
  | .autoThaw => Sys2Proof.Machine.execAutoThaw s
  | .mergeDone => Sys2Proof.Machine.execMergeDone s
  | .belfrySentinelEngage cause => Sys2Proof.Machine.execBelfrySentinelEngage cause s
  | .belfSentRead index => Sys2Proof.Machine.execBelfSentRead index s
  | .belfAlarmClear source value => Sys2Proof.Machine.execBelfAlarmClear source value s
  | .belfReadSelWrite value => Sys2Proof.Machine.execBelfReadSelWrite value s
  | .belfReadWordAdvance => Sys2Proof.Machine.execBelfReadWordAdvance s
  | .repeatBoundary => Sys2Proof.Machine.execRepeatBoundary s
  | .tracePeriod => Sys2Proof.Machine.execTracePeriod s
  | .telemetrySend sub cls => Sys2Proof.Machine.execTelemetrySend sub cls s
  | .telemetryShed sub cls => Sys2Proof.Machine.execTelemetryShed sub cls s
  | .agentFrameShed node cls => Sys2Proof.Machine.execAgentFrameShed node cls s
  | .agentShedRead => Sys2Proof.Machine.execAgentShedRead s
  | .operatingTimeWrite => Sys2Proof.Machine.execOperatingTimeWrite s
  -- Keystone
  | .enrol => Sys2Proof.Machine.execEnrol s
  | .removeTenant => Sys2Proof.Machine.execRemoveTenant s
  | .removeForce => Sys2Proof.Machine.execRemoveForce s
  | .keyReq operation index => Sys2Proof.Machine.execKeyReq operation index s
  | .keyDone index => Sys2Proof.Machine.execKeyDone index s
  | .keyFail reason index => Sys2Proof.Machine.execKeyFail reason index s
  | .rekeyDue node port direction epoch => Sys2Proof.Machine.execRekeyDue node port direction epoch s
  | .entropyFail => Sys2Proof.Machine.execEntropyFail s
  | .keyRotationLoad job => Sys2Proof.Machine.execKeyRotationLoad job s
  | .keyRotationCheck job => Sys2Proof.Machine.execKeyRotationCheck job s
  | .removalAdmissionStop => Sys2Proof.Machine.execRemovalAdmissionStop s
  | .removalDrainEnd => Sys2Proof.Machine.execRemovalDrainEnd s
  | .removalKeyErase => Sys2Proof.Machine.execRemovalKeyErase s
  | .forcedRekeyConfirm node port => Sys2Proof.Machine.execForcedRekeyConfirm node port s
  | .peerForceRekeyRequest spire node port => Sys2Proof.Machine.execPeerForceRekeyRequest spire node port s
  | .keyRetireTimeout node => Sys2Proof.Machine.execKeyRetireTimeout node s
  | .ringWaitEnd => Sys2Proof.Machine.execRingWaitEnd s
  | .scrubComplete => Sys2Proof.Machine.execScrubComplete s
  | .removalDone => Sys2Proof.Machine.execRemovalDone s
  | .debugAccess => Sys2Proof.Machine.execDebugAccess s
  | .keySlotWrite node word => Sys2Proof.Machine.execKeySlotWrite node word s
  | .keyPromote node slot => Sys2Proof.Machine.execKeyPromote node slot s
  | .hopRekey node port => Sys2Proof.Machine.execHopRekey node port s
  | .forceRekey node port => Sys2Proof.Machine.execForceRekey node port s
  | .lateMemoryExpiry node cupola => Sys2Proof.Machine.execLateMemoryExpiry node cupola s
  -- Agent domains and registers
  | .linkDomainWatchdog node => Sys2Proof.Machine.execLinkDomainWatchdog node s
  | .linkDomainReset node kind => Sys2Proof.Machine.execLinkDomainReset node kind s
  | .computeFatal node => Sys2Proof.Machine.execComputeFatal node s
  | .computeInReset node afterFatal => Sys2Proof.Machine.execComputeInReset node afterFatal s
  | .computeUp node usable designed => Sys2Proof.Machine.execComputeUp node usable designed s
  | .grantComputeReset node => Sys2Proof.Machine.execGrantComputeReset node s
  | .grantFullReset node => Sys2Proof.Machine.execGrantFullReset node s
  | .agQuiesceFlow node flow => Sys2Proof.Machine.execAgQuiesceFlow node flow s
  | .agResumeFlow node flow => Sys2Proof.Machine.execAgResumeFlow node flow s
  | .agFilterWrite node index value => Sys2Proof.Machine.execAgFilterWrite node index value s
  | .agMbxInWrite node index value => Sys2Proof.Machine.execAgMbxInWrite node index value s
  | .agMbxOutTake node mask => Sys2Proof.Machine.execAgMbxOutTake node mask s
  | .agEpochWrite node value => Sys2Proof.Machine.execAgEpochWrite node value s
  | .agTreeWrite node value => Sys2Proof.Machine.execAgTreeWrite node value s
  | .agAllowWrite node value => Sys2Proof.Machine.execAgAllowWrite node value s
  | .agCfgCoarse node value => Sys2Proof.Machine.execAgCfgCoarse node value s
  | .agTblWordAdvance node => Sys2Proof.Machine.execAgTblWordAdvance node s
  | .elementPost node index value => Sys2Proof.Machine.execElementPost node index value s
  | .elementTake node index => Sys2Proof.Machine.execElementTake node index s
  -- Bring-up, resets, update
  | .standbyRailUp slotId letter => Sys2Proof.Machine.execStandbyRailUp slotId letter s
  | .strapChange => Sys2Proof.Machine.execStrapChange s
  | .enableAssert => Sys2Proof.Machine.execEnableAssert s
  | .enableDeassert => Sys2Proof.Machine.execEnableDeassert s
  | .bringupStageComplete r => Sys2Proof.Machine.execBringupStageComplete r s
  | .serviceReset force => Sys2Proof.Machine.execServiceReset force s
  | .fullReset force fullTest => Sys2Proof.Machine.execFullReset force fullTest s
  | .cancelReset => Sys2Proof.Machine.execCancelReset s
  | .quietRoundFound => Sys2Proof.Machine.execQuietRoundFound s
  | .resetWaitExpiry => Sys2Proof.Machine.execResetWaitExpiry s
  | .stewardWatchdog => Sys2Proof.Machine.execStewardWatchdog s
  | .serviceRestore => Sys2Proof.Machine.execServiceRestore s
  | .fwVerify => Sys2Proof.Machine.execFwVerify s
  | .fwApply => Sys2Proof.Machine.execFwApply s
  | .fwAbandon => Sys2Proof.Machine.execFwAbandon s
  | .fwCommit => Sys2Proof.Machine.execFwCommit s
  | .licInstall => Sys2Proof.Machine.execLicInstall s
  | .pwrStageDataWrite index value => Sys2Proof.Machine.execPwrStageDataWrite index value s
  | .pwrStageSelWrite value => Sys2Proof.Machine.execPwrStageSelWrite value s
  | .memRetrain channel ok => Sys2Proof.Machine.execMemRetrain channel ok s
  | .memPeriodicRetrain channel ok => Sys2Proof.Machine.execMemPeriodicRetrain channel ok s
  | .portRetrain port force => Sys2Proof.Machine.execPortRetrain port force s
  | .portDisable port => Sys2Proof.Machine.execPortDisable port s
  | .portEnable port => Sys2Proof.Machine.execPortEnable port s
  | .portAutoRetrain port ok => Sys2Proof.Machine.execPortAutoRetrain port ok s
  | .junctionTrip deciC => Sys2Proof.Machine.execJunctionTrip deciC s
  | .ethCfgWrite value => Sys2Proof.Machine.execEthCfgWrite value s
  | .ethLinkChange up => Sys2Proof.Machine.execEthLinkChange up s
  | .osfpModuleEvent inserted watts => Sys2Proof.Machine.execOsfpModuleEvent inserted watts s
  | .twinCapWordAdvance => Sys2Proof.Machine.execTwinCapWordAdvance s
  | .i3cEntdaa address => Sys2Proof.Machine.execI3cEntdaa address s
  | .i3cPrivateWrite index => Sys2Proof.Machine.execI3cPrivateWrite index s
  | .i3cPrivateRead => Sys2Proof.Machine.execI3cPrivateRead s
  | .remoteAccessReply sess tag status words => Sys2Proof.Machine.execRemoteAccessReply sess tag status words s
  | .remoteAccessTimeout sess tag => Sys2Proof.Machine.execRemoteAccessTimeout sess tag s
  | .flapHoldClear => Sys2Proof.Machine.execFlapHoldClear s
  | .agPortDarkWrite node port dark => Sys2Proof.Machine.execAgPortDarkWrite node port dark s
  | .railFault rail mv => Sys2Proof.Machine.execRailFault rail mv s
  | .partnerLost => Sys2Proof.Machine.execPartnerLost s
  | .partnerResetNotice kind epoch => Sys2Proof.Machine.execPartnerResetNotice kind epoch s
  | .roundClose => Sys2Proof.Machine.execRoundClose s
  | .mkaSecured => Sys2Proof.Machine.execMkaSecured s
  | .neighbourDiscoveryRequest spireAddress => Sys2Proof.Machine.execNeighbourDiscoveryRequest spireAddress s
  | .pfcFrame pause => Sys2Proof.Machine.execPfcFrame pause s
  | .memberLossReport spire job step => Sys2Proof.Machine.execMemberLossReport spire job step s
  | .jobRollbackOrder job step => Sys2Proof.Machine.execJobRollbackOrder job step s
  | .installPeerReport spire prepared stragglers held => Sys2Proof.Machine.execInstallPeerReport spire prepared stragglers held s

end Sys2Proof.Machine
end

