-- ==== Sys2Proof/Safety.lean ====
section
/-! DEFINITION. What a safe step of the block is, in the terms that the statements use: what a command answers, which
register bits it leaves alone and which parts of the state. -/
namespace Sys2Proof.Machine

/-- The command answers a next state, and that state satisfies `q`. -/
def Yields (c : Instr) (s : State) (q : State → Prop) : Prop := ∃ t, exec c s = .next t ∧ q t

/-- A predicate that every step keeps. -/
def StepInvariant (inv : State → Prop) : Prop :=
  ∀ s t : State, inv s → step s = .next t → inv t

/-- Two fields share no bit: they lie in different registers or in disjoint bits of the word. -/
def Fld.apart (f f' : Fld) : Bool :=
  f.reg != f'.reg || (decide (f.lo + f.len ≤ 64) && (decide (f.lo + f.len ≤ f'.lo) || decide (f'.lo + f'.len ≤ f.lo)))

/-- The status fields that follow the state, brought up to date at the end of every command. -/
def statusFields : List Fld := derived.map Prod.fst

/-- The field shares no bit with a status field that follows the state. -/
def Fld.settled (f : Fld) : Bool := statusFields.all (fun e => e.apart f)

/-- A whole register as a field. -/
def whole (r : Reg) : Fld := ⟨r, 0, 64⟩

/-- Every register bit keeps its value, but for the fields `fs` (in every element of an array and every agent), the fields
of `ps` at one node and index each, and the status fields that follow the state. -/
def KeepsBits (fs : List Fld) (ps : List (Fld × Nat × Nat)) (s t : State) : Prop :=
  ∀ (f : Fld) (node idx : Nat), f.settled = true → (∀ e ∈ fs, e.apart f = true) →
    (∀ e ∈ ps, e.1.apart f = true ∨ e.2 ≠ (node, idx)) → t.ga f node idx = s.ga f node idx

/-- The parts of the state beside the registers and the output pins. -/
inductive Part where
  | plan | disc | bell | cup | rep | agents | grd | graph | sen | chk | mbx | eth | belf | lant | key | twin | pwr
  | answer | sent | free | pending
  deriving DecidableEq, Repr

/-- One part is the same in two states. -/
def Part.same (p : Part) (s t : State) : Prop :=
  match p with
  | .plan => t.plan = s.plan
  | .disc => t.disc = s.disc
  | .bell => t.bell = s.bell
  | .cup => t.cup = s.cup
  | .rep => t.rep = s.rep
  | .agents => t.agents = s.agents
  | .grd => t.grd = s.grd
  | .graph => t.graph = s.graph
  | .sen => t.sen = s.sen
  | .chk => t.chk = s.chk
  | .mbx => t.mbx = s.mbx
  | .eth => t.eth = s.eth
  | .belf => t.belf = s.belf
  | .lant => t.lant = s.lant
  | .key => t.key = s.key
  | .twin => t.twin = s.twin
  | .pwr => t.pwr = s.pwr
  | .answer => t.answer = s.answer
  | .sent => t.sent = s.sent
  | .free => t.free = s.free
  | .pending => t.pending = s.pending

/-- Every part of the state but those named is the same. -/
def KeepsParts (ps : List Part) (s t : State) : Prop := ∀ p : Part, p ∉ ps → p.same s t

/-- Nothing changes but the named fields, places and parts (and what follows the state: status fields and pins). -/
def Frame (fs : List Fld) (ps : List (Fld × Nat × Nat)) (parts : List Part) (s t : State) : Prop :=
  KeepsBits fs ps s t ∧ KeepsParts parts s t

/-- No agent but that of one local node is touched: every register of another agent's window and its private state are the
same. -/
def OneAgent (node : Nat) (s t : State) : Prop :=
  ∀ m : Nat, m ≠ node → t.ag m = s.ag m ∧
    ∀ (f : Fld) (i : Nat), f.reg.isAgent = true → t.ga f m i = s.ga f m i

/-- A request is served at once (R266, R267, R270 to R273, R431): its payload fits a datagram, it is no retry, its session
waits for no access, or is new and finds a place, and the port, the pair state, the reset and RECOVERY allow its operation. -/
def State.serves (s : State) (q : Req) : Bool :=
  decide (8 * q.words.length + q.bytes.length ≤ s.maxPayload) && !q.h.retry
    && (!s.macsec || (if s.b F.ETH_STATUS_SECURED then q.h.protectedFrame else State.beforeSecured q.op))
    && (decide (s.resetState < RState.resetting) || (q.op == .attest && !s.pwr.resetFull))
    && (!s.passive || State.passiveServes q.op) && (!s.inRecovery || State.recoveryOp q.op)
    && (match s.sessionOf q.h.sess with
        | some x => x.remote.isNone
        | none => decide (s.eth.sessions.length < 32))

/-- An address lies in this module: no agent and no other spire holds it. -/
def Place.inModule : Place → Bool
  | .own _ _ | .hole _ => true
  | .agent _ _ | .far _ _ => false

/-- An address lies in another spire. -/
def Place.isFar : Place → Bool
  | .far _ _ => true
  | .own _ _ | .hole _ | .agent _ _ => false

/-- The state in which the operation of an accepted request runs (R267, R270): the frame is counted, its session has been heard in
this round or is new, and the answer begins as OK. -/
def State.opened (s : State) (h : ScpHdr) : State :=
  let s0 := s.count .ETH_COUNT 0
  let s1 : State := if (s0.sessionOf h.sess).isSome then s0.updSession h.sess (fun x => { x with last := s.round })
    else { s0 with eth := { s0.eth with sessions := s0.eth.sessions ++ [⟨h.sess, s.round, [], none, [], none⟩] } }
  (s1.addressed h).ok

/-- A response has left for a request, with its status and arguments (Table 10.2). -/
def Responded (s : State) (h : ScpHdr) (status a b : Nat) : Prop :=
  ∃ e ∈ s.sent, e.kind = .response ∧ e.a = h.sess ∧ e.b = h.tag ∧ ∃ ep ws, e.data = [status, 0, ep, a, b] ++ ws

end Sys2Proof.Machine
end

