-- ==== Sys2Proof/WellFormed.lean ====
section
/-! DEFINITION. What a well-formed command is: every operand fits the field of the frame, word or register that carries
it. The block does not refuse an ill-formed command (a command is what its frame says, and a frame cannot hold a value
wider than its field); statements may name this as a premise. -/
namespace Sys2Proof

/-- The kinds of operand that are checked. -/
inductive Check where
  | address
  | analog
  | census
  | channel
  | checkValue
  | count
  | cupola
  | depth
  | element
  | engine
  | entry
  | epoch
  | feed
  | flow
  | fraction
  | group
  | i3c
  | index
  | install
  | instanceNo
  | job
  | kind
  | lane
  | length
  | letter
  | level
  | logical
  | mailbox
  | mask
  | member
  | memory
  | node
  | party
  | pause
  | port
  | psn
  | qp
  | rail
  | reason
  | region
  | reserved
  | round
  | sequence
  | slot
  | slotId
  | source
  | spire
  | state
  | status
  | step
  | stragglers
  | sub
  | tag
  | telemetry
  | time
  | unit
  deriving DecidableEq, Repr

/-- One operand, with the first value that its field cannot hold. -/
structure Bound where
  check : Check
  value : Nat
  limit : Nat
  deriving DecidableEq, Repr

/-- Table 10.2. -/
def ScpHdr.bounds (h : ScpHdr) : List Bound := [⟨.tag, h.tag, 0x100000000⟩, ⟨.address, h.a, 0x10000000000000000⟩, ⟨.count, h.b, 0x100000000⟩]

/-- Table 3.1. -/
def Beacon.bounds (b : Beacon) : List Bound :=
  [⟨.level, b.level, 0x100⟩, ⟨.kind, b.kind, 0x100⟩, ⟨.port, b.port, 0x100⟩, ⟨.count, b.portCount, 0x100⟩,
   ⟨.mask, b.flags, 0x10000⟩, ⟨.element, b.elementId, 0x100000000000000000000000000000000⟩, ⟨.epoch, b.epoch, 0x100000000⟩,
   ⟨.logical, b.boundNode, 0x100000000⟩, ⟨.census, b.usable, 0x100000000⟩, ⟨.census, b.designed, 0x100000000⟩,
   ⟨.letter, b.letter, 0x100⟩, ⟨.level, b.mirrorLevel, 0x100⟩, ⟨.reserved, b.reserved, 0x1000000000000000000000000000000000000⟩]

/-- Table 3.2. -/
def PortRec.bounds (p : PortRec) : List Bound :=
  [⟨.state, p.link, 0x100⟩, ⟨.level, p.level, 0x100⟩, ⟨.port, p.farPort, 0x100⟩, ⟨.kind, p.farKind, 0x100⟩,
   ⟨.epoch, p.farEpoch, 0x100000000⟩, ⟨.element, p.farId, 0x100000000000000000000000000000000⟩, ⟨.count, p.beaconErrors, 0x100000000⟩]

/-- Table 15.3. -/
def DataFrame.bounds (f : DataFrame) : List Bound :=
  [⟨.flow, f.flow, 0x10000⟩, ⟨.cupola, f.cupola, 0x10000⟩, ⟨.logical, f.source, 0x100000000⟩, ⟨.tag, f.tag, 0x100000000⟩,
   ⟨.index, f.index, 0x100000000⟩, ⟨.length, f.payload.length, 65537⟩]

/-- Table 5.4. -/
def Notice.bounds (n : Notice) : List Bound :=
  [⟨.reason, n.cause, 0x100⟩, ⟨.port, n.port, 0x100⟩, ⟨.logical, n.node, 0x100000000⟩, ⟨.round, n.round, 0x1000000000000⟩,
   ⟨.flow, n.flow, 0x10000⟩, ⟨.cupola, n.cupola, 0x10000⟩, ⟨.count, n.count, 0x100000000⟩, ⟨.element, n.farId, 0x100000000000000000000000000000000⟩]

/-- Table 5.3. -/
def Heartbeat.bounds (h : Heartbeat) : List Bound :=
  [⟨.logical, h.node, 0x100000000⟩, ⟨.state, h.installState, 0x100⟩, ⟨.round, h.round, 0x1000000000000⟩, ⟨.epoch, h.epoch, 0x100000000⟩,
   ⟨.mask, h.portsUp, 0x10000⟩, ⟨.install, h.installId, 0x10000⟩]

/-- Table 4.8. -/
def Receipt.bounds (r : Receipt) : List Bound :=
  [⟨.install, r.installId, 0x10000⟩, ⟨.logical, r.node, 0x100000000⟩, ⟨.state, r.state, 0x100⟩, ⟨.reason, r.refusal, 0x100⟩,
   ⟨.kind, r.table, 0x100⟩, ⟨.epoch, r.epoch, 0x100000000⟩, ⟨.mask, r.bitmap, 0x100000000000000000000000000000000⟩]

/-- Table 4.7. -/
def ManifestP.bounds (m : ManifestP) : List Bound :=
  [⟨.install, m.installId, 0x10000⟩, ⟨.kind, m.kind, 0x100⟩, ⟨.state, m.roundCode, 0x100⟩, ⟨.epoch, m.epoch, 0x100000000⟩,
   ⟨.round, m.actRound, 0x1000000000000⟩, ⟨.logical, m.node, 0x100000000⟩, ⟨.count, m.segments, 0x10000⟩,
   ⟨.length, m.tables.length, 256⟩]

/-- Table 4.6. -/
def Segment.bounds (g : Segment) : List Bound :=
  [⟨.install, g.installId, 0x10000⟩, ⟨.logical, g.target, 0x100000000⟩, ⟨.index, g.index, 0x10000⟩,
   ⟨.length, g.route.length, 25⟩, ⟨.epoch, g.epoch, 0x100000000⟩, ⟨.length, g.payload.length, 4097⟩]

/-- Table 4.11. -/
def ActivateP.bounds (a : ActivateP) : List Bound :=
  [⟨.install, a.installId, 0x10000⟩, ⟨.round, a.round, 0x1000000000000⟩, ⟨.length, a.fence.length, 33⟩] ++
  a.held.map (fun c => ⟨.cupola, c, 0x1000⟩) ++ a.fence.map (fun n => ⟨.logical, n, 0x100000000⟩)

/-- R133. -/
def FailBcast.bounds (b : FailBcast) : List Bound :=
  b.nodes.map (fun n => ⟨.logical, n, 0x100000000⟩) ++ b.links.flatMap (fun l => [⟨.logical, l.1, 0x100000000⟩, ⟨.port, l.2, 0x100⟩]) ++
  b.cupolas.map (fun c => ⟨.cupola, c, 0x1000⟩)

/-- Table 6.4. -/
def GItem.bounds (g : GItem) : List Bound :=
  [⟨.kind, g.fmt, 0x100⟩, ⟨.group, g.group, 0x100⟩, ⟨.member, g.member, 0x100⟩, ⟨.index, g.tensor, 0x10000⟩,
   ⟨.step, g.step, 0x1000000000000⟩, ⟨.address, g.offset, 0x10000000000000000⟩, ⟨.count, g.count, 0x100000000⟩, ⟨.checkValue, g.check, 0x10000000000000000⟩,
   ⟨.address, g.tensorOffset, 0x10000000000000000⟩, ⟨.length, g.payload.length, 0x100001⟩,
   ⟨.reserved, g.reserved, 0x400000000000000000000000000000⟩, ⟨.checkValue, g.hdrCheck, 0x100000000⟩]

/-- Table 7.10. -/
def ScalarC.bounds (c : ScalarC) : List Bound :=
  [⟨.cupola, c.cupola, 0x1000⟩, ⟨.state, c.op, 4⟩, ⟨.tag, c.tag, 0x100000000⟩, ⟨.logical, c.node, 0x100000000⟩,
   ⟨.length, c.values.length, 5⟩]

/-- R211. -/
def ScalarAcc.bounds (a : ScalarAcc) : List Bound :=
  [⟨.spire, a.spire, 0x80⟩, ⟨.tag, a.tag, 0x100000000⟩, ⟨.length, a.sums.length, 5⟩]

/-- Table 14.1. -/
def ClaimF.bounds (c : ClaimF) : List Bound :=
  [⟨.epoch, c.epoch, 0x100000000⟩, ⟨.element, c.elementId, 0x100000000000000000000000000000000⟩, ⟨.round, c.round, 0x1000000000000⟩]

/-- Table 14.3. -/
def MirrorF.bounds (f : MirrorF) : List Bound :=
  [⟨.sequence, f.seq, 0x100000000⟩, ⟨.round, f.round, 0x1000000000000⟩, ⟨.level, f.level, 0x100⟩,
   ⟨.length, f.payload.length, 65505⟩]

/-- Table 15.5. -/
def TimeW.bounds (w : TimeW) : List Bound := [⟨.sequence, w.seq, 0x100⟩, ⟨.state, w.state, 0x100⟩, ⟨.depth, w.depth, 0x100⟩]

/-- Table 2.21. -/
def Assignment.bounds (a : Assignment) : List Bound :=
  a.l2p.map (fun e => ⟨.entry, e, 0x10000000000000000⟩) ++
  a.slots.flatMap (fun d => [⟨.logical, d.node, 0x100000000⟩, ⟨.port, d.port, 0x100⟩, ⟨.slot, d.slot, 0x10000⟩, ⟨.entry, d.entry, 0x100000000⟩]) ++
  a.flows.flatMap (fun d => [⟨.logical, d.node, 0x100000000⟩, ⟨.entry, d.entry, 0x10000000000000000⟩]) ++
  a.serves.map (fun c => ⟨.cupola, c, 0x1000⟩)

/-- The egress ports of a route. -/
def portsIn (route : List Nat) : List Bound := route.map (fun p => ⟨.port, p, 32⟩)

/-- A node operand that may be absent. -/
def nodeIn (node : Option Nat) : List Bound :=
  match node with
  | some n => [⟨.node, n, 0x200⟩]
  | none => []

/-- The operands of a command with the limits of their fields. -/
def Instr.bounds (i : Instr) : List Bound :=
  match i with
  | .registerWrite _ addr _ => [⟨.address, addr, 0x1000000000000⟩]
  | .scpRead h => h.bounds
  | .scpWrite h words => [⟨.length, words.length, 1025⟩] ++ h.bounds
  | .mbxPost h payload => [⟨.length, payload.length, 1025⟩] ++ h.bounds
  | .mbxFetch h => h.bounds
  | .planSegment h payload => [⟨.length, payload.length, 0x100001⟩] ++ h.bounds
  | .graphSubmit h payload => [⟨.length, payload.length, 0x100001⟩] ++ h.bounds
  | .ringFetch h => h.bounds
  | .telemSubscribe h payload => [⟨.length, payload.length, 0x100001⟩] ++ h.bounds
  | .attest h nonce => [⟨.length, nonce.length, 0x100001⟩] ++ h.bounds
  | .graphIds h => h.bounds
  | .scpDatagramDiscard reason => [⟨.reason, reason, 3⟩]
  | .sessionExpiry _ => []
  | .retryCacheExpiry _ tag => [⟨.tag, tag, 0x100000000⟩]
  | .subscriptionLeaseExpiry slot => [⟨.sub, slot, 8⟩]
  | .admissionHello h payload => [⟨.length, payload.length, 0x100001⟩] ++ h.bounds
  | .admissionFetch h => h.bounds
  | .admissionFinish h fragment => [⟨.length, fragment.length, 0x100001⟩] ++ h.bounds
  | .admissionTimeout _ => []
  | .loadBegin => []
  | .verify => []
  | .verifyComplete => []
  | .activate => []
  | .abort => []
  | .discard => []
  | .paceWindow counts => [⟨.length, counts.length, 6⟩]
  | .junctionTemperatureThreshold deciC => [⟨.analog, deciC, 0x10000⟩]
  | .paceDeficit engine => [⟨.engine, engine, 6⟩]
  | .fallbackApply engine => [⟨.engine, engine, 6⟩]
  | .bankGroupMigrate physical => [⟨.unit, physical, 0x100⟩]
  | .gfLaneRetire physical => [⟨.unit, physical, 0x100⟩]
  | .sramUncorrectable physical region _ => [⟨.unit, physical, 0x100⟩, ⟨.index, region, 5⟩]
  | .packageFailure package => [⟨.unit, package, 0x100⟩]
  | .slotStart node port slot => [⟨.node, node, 0x200⟩, ⟨.port, port, 0x100⟩, ⟨.slot, slot, 0x1000⟩]
  | .beaconReceive node port b => [⟨.node, node, 0x200⟩, ⟨.port, port, 0x100⟩] ++ b.bounds
  | .identityUnknown node port => [⟨.node, node, 0x200⟩, ⟨.port, port, 0x100⟩]
  | .neighbourSilent node port => [⟨.node, node, 0x200⟩, ⟨.port, port, 0x100⟩]
  | .probe node ingress route => [⟨.node, node, 0x200⟩, ⟨.port, ingress, 0x100⟩, ⟨.length, route.length, 25⟩] ++ portsIn route
  | .probeReply route b ports => [⟨.length, route.length, 25⟩] ++ portsIn route ++ b.bounds ++ ports.flatMap PortRec.bounds
  | .probeTimeout route => [⟨.length, route.length, 25⟩] ++ portsIn route
  | .settleEnd => []
  | .walkComplete => []
  | .matchingComplete => []
  | .bindingResolveComplete a => a.bounds
  | .rescan => []
  | .portTrained node port => [⟨.node, node, 0x200⟩, ⟨.port, port, 0x100⟩]
  | .portLossOfLock node port => [⟨.node, node, 0x200⟩, ⟨.port, port, 0x100⟩]
  | .frameArrive node ingress f => [⟨.node, node, 0x200⟩, ⟨.port, ingress, 0x100⟩] ++ f.bounds
  | .itemInject node flow cupola tag window payload => [⟨.node, node, 0x200⟩, ⟨.flow, flow, 0x10000⟩, ⟨.cupola, cupola, 0x1000⟩, ⟨.tag, tag, 0x100000000⟩, ⟨.round, window, 0x1000000000000⟩, ⟨.length, payload.length, 0x100001⟩]
  | .itemWindowExpiry node tag => [⟨.node, node, 0x200⟩, ⟨.tag, tag, 0x100000000⟩]
  | .deliveryReceipt node flow tag => [⟨.node, node, 0x200⟩, ⟨.flow, flow, 0x10000⟩, ⟨.tag, tag, 0x20000000000000000⟩]
  | .receiptTimeout node tag => [⟨.node, node, 0x200⟩, ⟨.tag, tag, 0x20000000000000000⟩]
  | .drainBoundExpiry node flow => [⟨.node, node, 0x200⟩, ⟨.flow, flow, 0x10000⟩]
  | .quiesceFlow => []
  | .resumeFlow => []
  | .quiesceDrained => []
  | .fenceNode => []
  | .retryHeld => []
  | .manifest node m => [⟨.node, node, 0x200⟩] ++ m.bounds
  | .tableSegment node seg => [⟨.node, node, 0x200⟩] ++ seg.bounds
  | .receipt r => r.bounds
  | .installCollectionEnd => []
  | .retransmissionPassEnd => []
  | .commitPoint => []
  | .installReportDeadline => []
  | .activateFrame node a => [⟨.node, node, 0x200⟩] ++ a.bounds
  | .activateDiscard node a => [⟨.node, node, 0x200⟩] ++ a.bounds
  | .bankSwitch node => [⟨.node, node, 0x200⟩]
  | .installActivation => []
  | .completionInstallStart => []
  | .singleAgentInstallStart node => [⟨.node, node, 0x200⟩]
  | .carve cupola job => [⟨.cupola, cupola, 0x1000⟩, ⟨.job, job, 0x100000000⟩]
  | .carveStart cupola => [⟨.cupola, cupola, 0x1000⟩]
  | .carveWaitExpiry cupola => [⟨.cupola, cupola, 0x1000⟩]
  | .carveFilterWrite cupola => [⟨.cupola, cupola, 0x1000⟩]
  | .carveRewrite cupola => [⟨.cupola, cupola, 0x1000⟩]
  | .filterConfirm cupola node _ => [⟨.cupola, cupola, 0x1000⟩, ⟨.node, node, 0x200⟩]
  | .carveConfirmDeadline cupola => [⟨.cupola, cupola, 0x1000⟩]
  | .carveRound cupola => [⟨.cupola, cupola, 0x1000⟩]
  | .filterActivation node => [⟨.node, node, 0x200⟩]
  | .retire cupola job => [⟨.cupola, cupola, 0x1000⟩, ⟨.job, job, 0x100000000⟩]
  | .retireAdmissionStop cupola => [⟨.cupola, cupola, 0x1000⟩]
  | .retireDrainEnd cupola => [⟨.cupola, cupola, 0x1000⟩]
  | .retireRound cupola => [⟨.cupola, cupola, 0x1000⟩]
  | .retireVacant cupola => [⟨.cupola, cupola, 0x1000⟩]
  | .retryRepair => []
  | .heartbeatReceive hb => hb.bounds
  | .faultNotice n => n.bounds
  | .failureDetection => []
  | .failureClassification => []
  | .failureBroadcast node b => [⟨.node, node, 0x200⟩] ++ b.bounds
  | .installTreeRebuild => []
  | .deferredClassification => []
  | .repairSelect => []
  | .repairInstallStart => []
  | .resolveComplete a _ => (a.map Assignment.bounds).getD []
  | .resetCompute logical => [⟨.logical, logical, 0x100000000⟩]
  | .resetFull logical => [⟨.logical, logical, 0x100000000⟩]
  | .resetGrant => []
  | .repCancelReset => []
  | .failNode logical => [⟨.logical, logical, 0x100000000⟩]
  | .delta it => it.bounds
  | .gend it => it.bounds
  | .sample it => it.bounds
  | .shard it => it.bounds
  | .undo it => it.bounds
  | .regionWritten group region => [⟨.group, group, 0x100⟩, ⟨.region, region, 0x100000000⟩]
  | .lentAck group lane region => [⟨.group, group, 0x100⟩, ⟨.lane, lane, 3⟩, ⟨.region, region, 0x100000000⟩]
  | .lendingInAccumulation spire group lane region acc => [⟨.spire, spire, 0x80⟩, ⟨.group, group, 0x100⟩, ⟨.lane, lane, 3⟩, ⟨.region, region, 0x100000000⟩, ⟨.length, acc.length, 0x100001⟩]
  | .lentBlockRequest spire group lane region => [⟨.spire, spire, 0x80⟩, ⟨.group, group, 0x100⟩, ⟨.lane, lane, 3⟩, ⟨.region, region, 0x100000000⟩]
  | .laneLossReport spire group lane => [⟨.spire, spire, 0x80⟩, ⟨.group, group, 0x100⟩, ⟨.lane, lane, 3⟩]
  | .directFoldSwitch => []
  | .foldedReport spire job step _ _ => [⟨.spire, spire, 0x80⟩, ⟨.job, job, 0x100000000⟩, ⟨.step, step, 0x1000000000000⟩]
  | .sealRecord job step => [⟨.job, job, 0x100000000⟩, ⟨.step, step, 0x1000000000000⟩]
  | .sealAck node step => [⟨.node, node, 0x200⟩, ⟨.step, step, 0x1000000000000⟩]
  | .rollbackDone node step => [⟨.node, node, 0x200⟩, ⟨.step, step, 0x1000000000000⟩]
  | .guardianWordRepost => []
  | .ackTimeout group member type => [⟨.group, group, 0x100⟩, ⟨.member, member, 0x10000⟩, ⟨.kind, type, 0x100⟩]
  | .rollbackFoldStart group => [⟨.group, group, 0x100⟩]
  | .disableGroup group => [⟨.group, group, 0x100⟩]
  | .disableGroupSettle group => [⟨.group, group, 0x100⟩]
  | .enableGroup group => [⟨.group, group, 0x100⟩]
  | .releaseSeal => []
  | .rollbackJob => []
  | .taskStart index => [⟨.index, index, 0x10000⟩]
  | .notifyRetry index => [⟨.index, index, 0x10000⟩]
  | .windowClose index => [⟨.index, index, 0x10000⟩]
  | .taskEnd index => [⟨.index, index, 0x10000⟩]
  | .cancelTask => []
  | .cancelGraph => []
  | .disableExport => []
  | .enableExport => []
  | .disableImport => []
  | .enableImport => []
  | .functionAdmissionStop function index => [⟨.state, function, 2⟩, ⟨.index, index, 0x10000⟩]
  | .functionDrainEnd function index => [⟨.state, function, 2⟩, ⟨.index, index, 0x10000⟩]
  | .functionDisabled function index => [⟨.state, function, 2⟩, ⟨.index, index, 0x10000⟩]
  | .graphRingTailWrite _ => []
  | .scalarContribution c => c.bounds
  | .scalarAccumulator a => a.bounds
  | .scalarResult tag values flags => [⟨.tag, tag, 0x100000000⟩, ⟨.length, values.length, 5⟩, ⟨.mask, flags, 0x10000⟩]
  | .forwardedRecord record => [⟨.length, record.length, 0x100001⟩]
  | .roceAck qp psn => [⟨.qp, qp, 0x40⟩, ⟨.psn, psn, 0x1000000⟩]
  | .roceNak qp psn => [⟨.qp, qp, 0x40⟩, ⟨.psn, psn, 0x1000000⟩]
  | .roceRnrNak qp psn => [⟨.qp, qp, 0x40⟩, ⟨.psn, psn, 0x1000000⟩]
  | .roceRemoteAccessNak qp psn => [⟨.qp, qp, 0x40⟩, ⟨.psn, psn, 0x1000000⟩]
  | .roceAckTimeout qp => [⟨.qp, qp, 0x40⟩]
  | .roceReadResponse qp psn data => [⟨.qp, qp, 64⟩, ⟨.psn, psn, 0x1000000⟩, ⟨.length, data.length, 0x100001⟩]
  | .roceRequestDiscard => []
  | .congestionNotification qp => [⟨.qp, qp, 0x40⟩]
  | .ecnRateIncrease qp => [⟨.qp, qp, 0x40⟩]
  | .ethQpWordWrite word _ => [⟨.index, word, 8⟩]
  | .statsWaitEnd group => [⟨.group, group, 0x100⟩]
  | .clearSuspect => []
  | .attach channel => [⟨.channel, channel, 0x80⟩]
  | .suspend channel => [⟨.channel, channel, 0x80⟩]
  | .chkResume channel => [⟨.channel, channel, 0x80⟩]
  | .detach channel => [⟨.channel, channel, 0x80⟩]
  | .chkDisable channel => [⟨.channel, channel, 0x80⟩]
  | .chkEnable channel => [⟨.channel, channel, 0x80⟩]
  | .chkValueWrite _ channel _ => [⟨.channel, channel, 0x80⟩]
  | .checkUnit channel data carried _ _ _ => [⟨.channel, channel, 0x80⟩, ⟨.length, data.length, 0x100001⟩, ⟨.checkValue, carried, 0x10000000000000000⟩]
  | .hostWordTake index => [⟨.mailbox, index, 32⟩]
  | .mbxHinWrite index _ => [⟨.mailbox, index, 32⟩]
  | .mbxHoutTake _ => []
  | .agentMailboxPoll => []
  | .mailboxStall party node index => [⟨.party, party, 4⟩, ⟨.node, node, 0x200⟩, ⟨.index, index, 0x10000⟩]
  | .hello level letter pairState claimEpoch => [⟨.level, level, 0x10⟩, ⟨.letter, letter, 2⟩, ⟨.state, pairState, 8⟩, ⟨.epoch, claimEpoch, 0x100000000⟩]
  | .syncReq => []
  | .syncDone round => [⟨.round, round, 0x1000000000000⟩]
  | .mismatch round => [⟨.round, round, 0x1000000000000⟩]
  | .selftestRun _ => []
  | .selftest _ round => [⟨.round, round, 0x10000000000⟩]
  | .mismatchOutcome => []
  | .switchReq _ _ => []
  | .switchAck round => [⟨.round, round, 0x1000000000000⟩]
  | .switchRefuse reason => [⟨.reason, reason, 0x10000000000⟩]
  | .mirrorNak seq => [⟨.sequence, seq, 0x100000000⟩]
  | .handoverDone regions => [⟨.region, regions, 0x1000000000000⟩]
  | .powerLoss => []
  | .feed a b => [⟨.analog, a, 0x10000⟩, ⟨.analog, b, 0x10000⟩]
  | .twinEnrol slot => [⟨.index, slot, 8⟩]
  | .mirrorInput f => f.bounds
  | .endOfRound f _ => f.bounds
  | .snapshot f _ _ => f.bounds
  | .checkpoint f channel _ _ => [⟨.channel, channel, 0x80⟩] ++ f.bounds
  | .parity f group lane region => [⟨.group, group, 0x800100⟩, ⟨.lane, lane, 3⟩, ⟨.region, region, 0x100000000⟩] ++ f.bounds
  | .mirrorRecord f => f.bounds
  | .activeSilence round => [⟨.round, round, 0x1000000000000⟩]
  | .claim node port c => [⟨.node, node, 0x200⟩, ⟨.port, port, 0x100⟩] ++ c.bounds
  | .grant node g => [⟨.node, node, 0x200⟩] ++ g.bounds
  | .release node port r => [⟨.node, node, 0x200⟩, ⟨.port, port, 0x100⟩] ++ r.bounds
  | .claimRetry => []
  | .takeoverAct => []
  | .startingTimeout => []
  | .switch => []
  | .drill _ => []
  | .resync => []
  | .twinCancel => []
  | .clearCapture => []
  | .autoReturn => []
  | .switchRound => []
  | .switchRoundTimeout => []
  | .drillReturn => []
  | .feedStateChange input mv => [⟨.feed, input, 2⟩, ⟨.analog, mv, 0x10000⟩]
  | .powerFail => []
  | .feedCurrentLimit ma => [⟨.analog, ma, 0x100000000⟩]
  | .timeWordSend node port => [⟨.port, port, 0x100⟩] ++ nodeIn node
  | .timeWord node port w => [⟨.port, port, 0x100⟩] ++ nodeIn node ++ w.bounds
  | .holdoverEntry => []
  | .holdoverLimit => []
  | .referenceStart _ => []
  | .floorWrite => []
  | .ppsInEdge ns => [⟨.time, ns, 0x10000000000000000⟩]
  | .ppsInLost => []
  | .setTod mode _ => [⟨.state, mode, 2⟩]
  | .stopSlew _ => []
  | .slewComplete => []
  | .lantNowNsRead ns frac => [⟨.time, ns, 0x10000000000000000⟩, ⟨.fraction, frac, 0x10000⟩]
  | .ptpSync => []
  | .ptpAnnounce => []
  | .ptpDelayReq _ => []
  | .belfryEvent source instance_ _ => [⟨.source, source, 0x10000⟩, ⟨.instanceNo, instance_, 0x100000000⟩]
  | .cellClose source instance_ => [⟨.source, source, 0x10000⟩, ⟨.instanceNo, instance_, 0x100000000⟩]
  | .flush => []
  | .recordFlashWrite _ => []
  | .freeze => []
  | .thaw => []
  | .autoThaw => []
  | .mergeDone => []
  | .belfrySentinelEngage cause => [⟨.reason, cause, 0x100⟩]
  | .belfSentRead index => [⟨.index, index, 0x10000⟩]
  | .belfAlarmClear source _ => [⟨.source, source, 0x10000⟩]
  | .belfReadSelWrite _ => []
  | .belfReadWordAdvance => []
  | .repeatBoundary => []
  | .tracePeriod => []
  | .telemetrySend sub cls => [⟨.sub, sub, 8⟩, ⟨.telemetry, cls, 3⟩]
  | .telemetryShed sub cls => [⟨.sub, sub, 8⟩, ⟨.telemetry, cls, 3⟩]
  | .agentFrameShed node cls => [⟨.node, node, 0x200⟩, ⟨.telemetry, cls, 3⟩]
  | .agentShedRead => []
  | .operatingTimeWrite => []
  | .enrol => []
  | .removeTenant => []
  | .removeForce => []
  | .keyReq operation index => [⟨.state, operation, 0x10⟩, ⟨.index, index, 0x10000⟩]
  | .keyDone index => [⟨.index, index, 0x10000⟩]
  | .keyFail reason index => [⟨.reason, reason, 0x100⟩, ⟨.index, index, 0x10000⟩]
  | .rekeyDue node port direction epoch => [⟨.node, node, 0x200⟩, ⟨.port, port, 0x100⟩, ⟨.feed, direction, 2⟩, ⟨.epoch, epoch, 0x100000000⟩]
  | .entropyFail => []
  | .keyRotationLoad job => [⟨.job, job, 0x100000000⟩]
  | .keyRotationCheck job => [⟨.job, job, 0x100000000⟩]
  | .removalAdmissionStop => []
  | .removalDrainEnd => []
  | .removalKeyErase => []
  | .forcedRekeyConfirm node port => [⟨.node, node, 0x200⟩, ⟨.port, port, 0x100⟩]
  | .peerForceRekeyRequest spire node port => [⟨.spire, spire, 0x80⟩, ⟨.node, node, 0x200⟩, ⟨.port, port, 0x100⟩]
  | .keyRetireTimeout node => [⟨.node, node, 0x200⟩]
  | .ringWaitEnd => []
  | .scrubComplete => []
  | .removalDone => []
  | .debugAccess => []
  | .keySlotWrite node _ => [⟨.node, node, 0x200⟩]
  | .keyPromote node slot => [⟨.node, node, 0x200⟩, ⟨.index, slot, 0x100⟩]
  | .hopRekey node port => [⟨.node, node, 0x200⟩, ⟨.port, port, 0x100⟩]
  | .forceRekey node port => [⟨.node, node, 0x200⟩, ⟨.port, port, 0x100⟩]
  | .lateMemoryExpiry node cupola => [⟨.node, node, 0x200⟩, ⟨.cupola, cupola, 0x1000⟩]
  | .linkDomainWatchdog node => [⟨.node, node, 0x200⟩]
  | .linkDomainReset node kind => [⟨.node, node, 0x200⟩, ⟨.kind, kind, 0x100⟩]
  | .computeFatal node => [⟨.node, node, 0x200⟩]
  | .computeInReset node _ => [⟨.node, node, 0x200⟩]
  | .computeUp node usable designed => [⟨.node, node, 0x200⟩, ⟨.census, usable, 0x100000000⟩, ⟨.census, designed, 0x100000000⟩]
  | .grantComputeReset node => [⟨.node, node, 0x200⟩]
  | .grantFullReset node => [⟨.node, node, 0x200⟩]
  | .agQuiesceFlow node flow => [⟨.node, node, 0x200⟩, ⟨.flow, flow, 0x10000⟩]
  | .agResumeFlow node flow => [⟨.node, node, 0x200⟩, ⟨.flow, flow, 0x10000⟩]
  | .agFilterWrite node index _ => [⟨.node, node, 0x200⟩, ⟨.index, index, 0x10000⟩]
  | .agMbxInWrite node index _ => [⟨.node, node, 0x200⟩, ⟨.mailbox, index, 32⟩]
  | .agMbxOutTake node mask => [⟨.node, node, 0x200⟩, ⟨.mask, mask, 0x100000000⟩]
  | .agEpochWrite node _ => [⟨.node, node, 0x200⟩]
  | .agTreeWrite node _ => [⟨.node, node, 0x200⟩]
  | .agAllowWrite node _ => [⟨.node, node, 0x200⟩]
  | .agCfgCoarse node _ => [⟨.node, node, 0x200⟩]
  | .agTblWordAdvance node => [⟨.node, node, 0x200⟩]
  | .elementPost node index _ => [⟨.node, node, 0x200⟩, ⟨.mailbox, index, 32⟩]
  | .elementTake node index => [⟨.node, node, 0x200⟩, ⟨.mailbox, index, 32⟩]
  | .standbyRailUp slotId letter => [⟨.slotId, slotId, 0x10000⟩, ⟨.letter, letter, 2⟩]
  | .strapChange => []
  | .enableAssert => []
  | .enableDeassert => []
  | .bringupStageComplete _ => []
  | .serviceReset _ => []
  | .fullReset _ _ => []
  | .cancelReset => []
  | .quietRoundFound => []
  | .resetWaitExpiry => []
  | .stewardWatchdog => []
  | .serviceRestore => []
  | .fwVerify => []
  | .fwApply => []
  | .fwAbandon => []
  | .fwCommit => []
  | .licInstall => []
  | .pwrStageDataWrite index _ => [⟨.index, index, 0x10000⟩]
  | .pwrStageSelWrite _ => []
  | .memRetrain channel _ => [⟨.memory, channel, 0x200⟩]
  | .memPeriodicRetrain channel _ => [⟨.memory, channel, 0x200⟩]
  | .portRetrain port _ => [⟨.port, port, 48⟩]
  | .portDisable port => [⟨.port, port, 48⟩]
  | .portEnable port => [⟨.port, port, 48⟩]
  | .portAutoRetrain port _ => [⟨.port, port, 48⟩]
  | .junctionTrip deciC => [⟨.analog, deciC, 0x10000⟩]
  | .ethCfgWrite _ => []
  | .ethLinkChange _ => []
  | .osfpModuleEvent _ watts => [⟨.analog, watts, 0x10000⟩]
  | .twinCapWordAdvance => []
  | .i3cEntdaa address => [⟨.i3c, address, 0x80⟩]
  | .i3cPrivateWrite index => [⟨.index, index, 0x100⟩]
  | .i3cPrivateRead => []
  | .remoteAccessReply _ tag status words => [⟨.tag, tag, 0x100000000⟩, ⟨.status, status, 0x100⟩, ⟨.length, words.length, 1025⟩]
  | .remoteAccessTimeout _ tag => [⟨.tag, tag, 0x100000000⟩]
  | .flapHoldClear => []
  | .agPortDarkWrite node port _ => [⟨.node, node, 0x200⟩, ⟨.port, port, 0x100⟩]
  | .railFault rail mv => [⟨.rail, rail, 16⟩, ⟨.analog, mv, 0x10000⟩]
  | .partnerLost => []
  | .partnerResetNotice kind epoch => [⟨.kind, kind, 0x100⟩, ⟨.epoch, epoch, 0x100000000⟩]
  | .roundClose => []
  | .mkaSecured => []
  | .neighbourDiscoveryRequest _ => []
  | .pfcFrame pause => [⟨.pause, pause, 0x10000⟩]
  | .memberLossReport spire job step => [⟨.spire, spire, 0x80⟩, ⟨.job, job, 0x100000000⟩, ⟨.step, step, 0x1000000000000⟩]
  | .jobRollbackOrder job step => [⟨.job, job, 0x100000000⟩, ⟨.step, step, 0x1000000000000⟩]
  | .installPeerReport spire _ stragglers _ => [⟨.spire, spire, 0x80⟩, ⟨.stragglers, stragglers, 0x200⟩]

/-- The operands that do not fit. -/
def Instr.problems (i : Instr) : List Check := (i.bounds.filter (fun b => decide (b.limit ≤ b.value))).map (·.check)

/-- Every operand fits its field. -/
def Instr.wellFormed (i : Instr) : Bool := i.problems.isEmpty

end Sys2Proof
end

