-- ==== Sys2Proof/Certificates/Slice0/Obligations.lean ====
section
/-! DEFINITION. The statements about the block, one Prop each. `Yields c s q` says that command `c` at state `s` answers a
next state that satisfies `q`; `Frame fs ps parts s t` says that nothing but the fields `fs`, the places `ps` and the
parts `parts` (and what follows the state) differs between `s` and `t` (Sys2Proof/Safety.lean). -/

open Sys2Proof Sys2Proof.Machine


/-- A step takes the command at the front of the queue and runs it on the state with the rest of the queue; with an empty
queue the block idles (the model's choice, log entry 10). -/
def Obligations.StepRunsFront : Prop :=
  (∀ (c : Instr) (rest : List Instr) (s : State),
    step { s with pending := c :: rest } = exec c { s with pending := rest }) ∧
  (∀ s : State, s.pending = [] → step s = .next s)

/-- Every command answers a next state, and in it the status fields and the output pins agree with the rest of the state. -/
def Obligations.EveryCommandCompletes : Prop :=
  ∀ (c : Instr) (s : State), Yields c s (fun t => t.coherent = true ∧ t.pins = t.pinsNow)

/-- The status fields that count or summarise other state, and the output pins, agree with that state after every step
(Tables 3.4, 5.1, 6.1, 9.3, 13.6 and 18.3, R321, R332, R410, R442, R444). -/
def Obligations.StatusFollowsState : Prop :=
  StepInvariant (fun s => s.coherent = true ∧ s.pins = s.pinsNow)

/-- The status fields and the pins agree with the state after reset. -/
def Obligations.StatusAtReset : Prop :=
  State.reset.coherent = true ∧ State.reset.pins = State.reset.pinsNow

/-- R458: the state after reset is the first start: every counter at zero, an empty record store, and the values of
Table 17.9; without a retained plan stage 9 of bring-up waits.
Values of fuses, pins and the shipment are the model's (log entry 1); none is named here. -/
def Obligations.FirstStart : Prop :=
  (∀ (r : Reg) (lo len node i : Nat), counterField r = some (lo, len) →
    getBits (State.reset.rd r node i) lo len = 0) ∧
  State.reset.belf.flash = [] ∧ State.reset.g F.BELF_CYCLE_POWER_CYCLES = 1 ∧ State.reset.g F.BELF_STAMP_OP_TIME = 0 ∧
  (∃ r, State.reset.belf.queue = [r] ∧ r.rtype = 6 ∧ r.cycle = 1 ∧ r.op = 0 ∧ field r.body 0 1 = 1 ∧ field r.body 1 8 = 0) ∧
  State.reset.b F.BELF_EVENT_UNCLEAN_START = false ∧ State.reset.fullTest = true ∧
  State.reset.g F.IDENT_FW_SLOT = 0 ∧ State.reset.b F.IDENT_FW_COMMITTED = true ∧
  State.reset.b F.IDENT_FW_OTHER_VALID = false ∧
  (∃ im other, State.reset.pwr.images = [im, other] ∧ im.valid = true ∧ other.valid = false ∧
    State.reset.g F.IDENT_FW_VERSION = im.version ∧ State.reset.g F.IDENT_FW_SECURITY = im.security ∧
    State.reset.pwr.minSecurity = im.security) ∧
  (∃ l, State.reset.pwr.licences = [l] ∧ State.reset.g F.IDENT_LIC_CODE = l.code ∧
    State.reset.g F.IDENT_LIC_FEATURES = l.features ∧ State.reset.g F.IDENT_LIC_AGENTS = l.agents ∧
    State.reset.g F.IDENT_LIC_PORTS = l.ports ∧ State.reset.g F.IDENT_LIC_SEQUENCE = l.sequence ∧
    State.reset.g F.IDENT_LIC_PAIR_FEATURES = l.features) ∧
  State.reset.g F.MBX_EPOCH_EPOCH = 1 ∧ State.reset.g F.KEY_MEM_GENERATION = 1 ∧ State.reset.rd .LANT_FLOOR 0 0 = 0 ∧
  State.reset.g F.IDENT_SITE_SPIRE = 0 ∧ State.reset.b F.IDENT_SITE_SPIRE_SET = false ∧
  State.reset.g F.KEY_TENANT_EPOCH = 0 ∧
  (∀ i < 8, State.reset.gi F.KEY_SLOT_INFO_KIND i = 0 ∧ State.reset.gi F.KEY_SLOT_SEQ_SEQUENCE i = 0) ∧
  State.reset.rd .BELF_USED 0 0 = 0 ∧ (∀ i < 8, State.reset.rd .BELF_OVERFLOW 0 i = 0) ∧
  State.reset.pwr.banksRetired = [] ∧ State.reset.pwr.lanesRetired = [] ∧ State.reset.pwr.packagesRetired = [] ∧
  State.reset.pwr.retained = none ∧
  (∀ (r : StageResult) (s : State), s.pwr.started = true → s.g F.PWR_STATUS_STAGE = 9 → s.plan.cur = none →
    s.pwr.retained = none → Yields (.bringupStageComplete r) s (fun t => t.g F.PWR_STATUS_STAGE = 9))

/-- R45 and R12: a register sits at its base plus 8 times its index, in its block's window; an access to any other address of
the module (agent windows have their own rules, R46) is answered with ADDRESS and has no effect. The last clause of the write says that
the operations of tasks that have ended are forgotten, as at the end of every write. -/
def Obligations.RegisterMap : Prop :=
  (∀ r : Reg, r.isAgent = false → r.base % 8 = 0 ∧ r.first ≤ r.last ∧
    (r.base + 8 * r.last) / 0x100000 = r.base / 0x100000 ∧ r.base / 0x100000 ≤ 0x11) ∧
  (∀ (r : Reg) (i : Nat), r.isAgent = false → r.first ≤ i → i ≤ r.last → regAt false (r.base + 8 * i) = some (r, i)) ∧
  (∀ (sess addr : Nat) (w : Word) (s : State), addr < 2 ^ 47 → (addr < agentBase ∨ agentEnd ≤ addr) →
    (∀ (r : Reg) (i : Nat), r.isAgent = false → r.first ≤ i → i ≤ r.last → addr ≠ r.base + 8 * i) →
    Yields (.registerWrite sess addr w) s (fun t => t.answer.status = Status.address ∧
      Frame [] [] [.answer, .eth] s t ∧ t.eth = { s.eth with ops := t.eth.ops, waiting := t.eth.waiting } ∧
      ((∀ o ∈ s.eth.ops ++ s.eth.waiting, ∃ x ∈ s.graph.tasks, x.idx = o.idx) → t.eth = s.eth))) ∧
  (∀ (h : ScpHdr) (s : State), s.serves ⟨.read, h, [], []⟩ = true → 1 ≤ h.b → h.b ≤ 1024 → h.a < 2 ^ 47 →
    (h.a < agentBase ∨ agentEnd ≤ h.a) →
    (∀ (r : Reg) (i : Nat), r.isAgent = false → r.first ≤ i → i ≤ r.last → h.a ≠ r.base + 8 * i) →
    Yields (.scpRead h) s (fun t => (∃ e ∈ t.sent, e.kind = .response ∧ e.a = h.sess ∧ e.b = h.tag ∧
      ∃ d ep, e.data = [Status.address, d, ep, 0, 0]) ∧ Frame [whole .ETH_COUNT] [] [.eth, .answer, .sent] s t))

/-- R61: LOAD_BEGIN discards the staged content and sets its length; a segment of up to 8,192 bytes is stored at its offset, a
later one over an earlier one; one that reaches beyond the staged length, or that comes in another state than LOADING, is
answered with an error and has no effect. -/
def Obligations.PlanSegments : Prop :=
  (∀ s : State, s.slotState ≠ Slot.verifying → s.slotState ≠ Slot.armed → s.g F.PLAN_LOAD_LEN_LEN ≤ 268435456 →
    Yields .loadBegin s (fun t => t.plan.bytes = [] ∧ t.plan.len = s.g F.PLAN_LOAD_LEN_LEN ∧
      t.slotState = Slot.loading ∧ t.answer.status = Status.ok)) ∧
  (∀ (h : ScpHdr) (bs : Bytes) (s : State), s.serves ⟨.segment, h, [], bs⟩ = true → bs ≠ [] → s.slotState = Slot.loading →
    h.a + bs.length ≤ s.plan.len →
    Yields (.planSegment h bs) s (fun t => Responded t h Status.ok 0 0 ∧
      ∀ j, t.plan.bytes.find j = if h.a ≤ j ∧ j < h.a + bs.length then bs[j - h.a]? else s.plan.bytes.find j)) ∧
  (∀ (h : ScpHdr) (bs : Bytes) (s : State), s.serves ⟨.segment, h, [], bs⟩ = true → bs ≠ [] →
    (s.slotState ≠ Slot.loading ∨ s.plan.len < h.a + bs.length) →
    Yields (.planSegment h bs) s (fun t => (∃ st, st ≠ Status.ok ∧ Responded t h st 0 0) ∧
      Frame [whole .ETH_COUNT] [] [.eth, .answer, .sent] s t))

/-- R270: a request that is a retry is not executed, whatever it asks: the cached response of its tag leaves again, or
STALE_RETRY when the session has none; nothing but the session and the port's counters changes. -/
def Obligations.RetryNotExecuted : Prop :=
  ∀ (c : Instr) (h : ScpHdr) (ws : List Word) (bs : Bytes) (x : Session) (s : State),
    c ∈ [Instr.scpRead h, .scpWrite h ws, .mbxPost h ws, .mbxFetch h, .planSegment h bs, .graphSubmit h bs, .ringFetch h,
      .telemSubscribe h bs, .attest h bs, .graphIds h, .admissionHello h bs, .admissionFetch h, .admissionFinish h bs] →
    h.retry = true → 8 * ws.length + bs.length ≤ s.maxPayload →
    (s.macsec = true → s.b F.ETH_STATUS_SECURED = true → h.protectedFrame = true) →
    s.sessionOf h.sess = some x → x.remote = none →
    Yields c s (fun t => Frame [whole .ETH_COUNT] [] [.eth, .answer, .sent] s t ∧ ∃ e ∈ t.sent, e.kind = .response ∧
      match x.cache.find? (fun k => k.tag == h.tag && decide (s.round < k.round + 1024)) with
      | some k => e.a = k.answer.sess ∧ e.b = k.answer.tag ∧ e.bytes = k.answer.bytes ∧
          ∃ ep, e.data = [k.answer.status, k.answer.detail, ep, k.answer.a, k.answer.b] ++ k.answer.words.map (fun w => w.toNat)
      | none => e.a = h.sess ∧ e.b = h.tag ∧ ∃ ep, e.data = [Status.staleRetry, 0, ep, 0, 0])

/-- Register access (R13, R15, R16, R266 to R269, R391): a READ of one word of this module answers it, a WRITE of one word of a
read-write register stores it, and a write of 1 clears a W1C bit and leaves
the others; a write to a register without writable fields, or into an agent window, is answered with READ_ONLY. A READ and a WRITE of up to
1,024 words run over consecutive registers and are answered at once, or are carried to the agent or spire that holds them; a write to a
register of this module that is no command sets every RW bit to the value and clears the W1C bits written 1.
The last clauses say, for every operand and every state, which operation gives the next state of scpRead, scpWrite. -/
def Obligations.RegisterAccessComplete : Prop :=
  (∀ (h : ScpHdr) (r : Reg) (i : Nat) (s : State), s.serves ⟨.read, h, [], []⟩ = true → h.b = 1 → s.placeOf h.a = .own r i →
    s.confidential = false → s.inRecovery = false → [Reg.GRAPH_TASK_WORD, .SEN_STAT, .BELF_READ_WORD, .BELF_SENT, .TWIN_CAP_WORD, .ETH_QP_WORD,
      .LANT_NOW_NS, .ETH_COUNT, .ETH_STATUS].contains r = false →
    Yields (.scpRead h) s (fun t => ∃ e ∈ t.sent, e.kind = .response ∧ e.a = h.sess ∧ e.b = h.tag ∧
      ∃ ep, e.data = [Status.ok, 0, ep, 0, 1, (s.rd r 0 i &&& BitVec.ofNat 64 r.readMask).toNat])) ∧
  (∀ (h : ScpHdr) (w : Word) (s : State), s.serves ⟨.write, h, [w], []⟩ = true → h.b = 1 →
    s.placeOf h.a = .own .GRAPH_ARG 0 → s.passive = false → s.inRecovery = false →
    Yields (.scpWrite h [w]) s (fun t => t.g F.GRAPH_ARG_ARG = getBits w 0 32 ∧ Responded t h Status.ok 0 1)) ∧
  (∀ (sess addr : Nat) (w : Word) (s : State), s.placeOf (addr % 2 ^ 48) = .own .GRAPH_ARG 0 →
    Yields (.registerWrite sess addr w) s (fun t => t.g F.GRAPH_ARG_ARG = getBits w 0 32 ∧ t.answer.status = Status.ok)) ∧
  (∀ (sess addr : Nat) (w : Word) (s : State), s.placeOf (addr % 2 ^ 48) = .own .GRD_EVENT 0 →
    Yields (.registerWrite sess addr w) s (fun t => t.answer.status = Status.ok ∧
      t.rd .GRD_EVENT 0 0 = s.rd .GRD_EVENT 0 0 &&& ~~~(w &&& BitVec.ofNat 64 Reg.GRD_EVENT.w1cMask))) ∧
  (∀ (sess addr : Nat) (w : Word) (s : State), s.placeOf (addr % 2 ^ 48) = .own .GRAPH_STATUS 0 →
    Yields (.registerWrite sess addr w) s (fun t => t.answer.status = Status.readOnly)) ∧
  (∀ (sess addr : Nat) (w : Word) (s : State), agentBase ≤ addr → addr < agentEnd → addr % 8 = 0 →
    Yields (.registerWrite sess addr w) s (fun t => t.answer.status = Status.readOnly ∧ Frame [] [] [.answer, .eth] s t)) ∧
  (∀ (h : ScpHdr) (s : State), s.serves ⟨.read, h, [], []⟩ = true → 1 ≤ h.b → h.b ≤ 1024 →
    (s.placeOf h.a).inModule = true →
    Yields (.scpRead h) s (fun t => t = ((State.readRun h.b h.a [] (s.opened h)).respond h).settle)) ∧
  (∀ (h : ScpHdr) (spire off : Nat) (s : State), s.serves ⟨.read, h, [], []⟩ = true → 1 ≤ h.b → h.b ≤ 1024 →
    s.placeOf h.a = .far spire off →
    Yields (.scpRead h) s (fun t => (t.sessionOf h.sess).bind (fun x => x.remote) = some ⟨h.tag, h.a, h.b, false, s.round, true⟩ ∧
      t.sent = s.sent ++ [⟨.carried, 1, spire, [h.a, h.b, 0], []⟩])) ∧
  (∀ (h : ScpHdr) (ws : List Word) (s : State), s.serves ⟨.write, h, ws, []⟩ = true → ws ≠ [] → ws.length ≤ 1024 →
    h.b = ws.length → (s.placeOf h.a).isFar = false →
    Yields (.scpWrite h ws) s (fun t =>
      t = (s.after ((State.writeRun h.sess ws h.a 0 (s.opened h)).respond h)).settle)) ∧
  (∀ (h : ScpHdr) (ws : List Word) (spire off : Nat) (s : State), s.serves ⟨.write, h, ws, []⟩ = true → ws ≠ [] →
    ws.length ≤ 1024 → h.b = ws.length → s.placeOf h.a = .far spire off →
    Yields (.scpWrite h ws) s (fun t =>
      (t.sessionOf h.sess).bind (fun x => x.remote) = some ⟨h.tag, h.a, h.b, true, s.round, true⟩)) ∧
  (∀ (sess addr : Nat) (r : Reg) (i : Nat) (w : Word) (s : State), s.placeOf (addr % 2 ^ 48) = .own r i →
    Yields (.registerWrite sess addr w) s (fun t => t = (s.after (s.writeOwn sess r i w)).settle)) ∧
  (∀ (sess addr : Nat) (r : Reg) (i : Nat) (w : Word) (s : State), s.placeOf (addr % 2 ^ 48) = .own r i →
    s.ok.commandWrite sess r i w = none → (r.rwMask ≠ 0 ∨ r.w1cMask ≠ 0) → (r ≠ .ETH_ADDR ∨ i ≠ 11) →
    (r = .CHK_CFG → 96 ≤ i ∧ s.chkState i = Chan.idle) → (r = .PWR_SITE → s.plan.cur = none) → s.legalWrite r i w = true →
    Yields (.registerWrite sess addr w) s (fun t => t.answer.status = Status.ok ∧
      t.rd r 0 i &&& State.writable r i = w &&& State.writable r i ∧
      t.rd r 0 i &&& BitVec.ofNat 64 r.w1cMask = s.rd r 0 i &&& ~~~w &&& BitVec.ofNat 64 r.w1cMask)) ∧
  (∀ (h : ScpHdr) (s : State), Yields (.scpRead h) s (fun t => t = (s.request ⟨.read, h, [], []⟩).settle)) ∧
  (∀ (h : ScpHdr) (words : List Word) (s : State), Yields (.scpWrite h words) s (fun t =>
      t = (s.after (s.request ⟨.write, h, words, []⟩)).settle))

/-- The other operations of the Spire Control Protocol (R61, R192, R205, R268, R274, R276, R344, R345, Table 10.5): each that is served runs, and a
response leaves with its status; then what each does.
That a response of a report carries argument A = 1 while more bytes follow is the model's choice (log entry 16). -/
def Obligations.OperationsComplete : Prop :=
  (∀ (h : ScpHdr) (w : Word) (s : State), s.serves ⟨.post, h, [w], []⟩ = true → h.a < 32 → (∀ e ∈ s.mbx.hin, e.1 ≠ h.a) →
    Yields (.mbxPost h [w]) s (fun t => t.mbx.hin = s.mbx.hin ++ [(h.a, w)] ∧ Responded t h Status.ok 0 0)) ∧
  (∀ (h : ScpHdr) (s : State), s.serves ⟨.fetch, h, [], []⟩ = true → (∀ x ∈ s.mbx.waiting, x.party ≠ Party.host) →
    (∀ x ∈ s.mbx.posted, x.item = none) →
    Yields (.mbxFetch h) s (fun t =>
      Responded t h Status.ok 0 (Nat.land (h.a % 2 ^ 32) (s.g F.MBX_HOUT_FULL_FULL)) ∧
      ∀ i < 32, hasBit h.a i = true → hasBit (t.g F.MBX_HOUT_FULL_FULL) i = false)) ∧
  (∀ (h : ScpHdr) (bs : Bytes) (s : State), s.serves ⟨.segment, h, [], bs⟩ = true → bs ≠ [] → s.slotState = Slot.loading →
    h.a + bs.length ≤ s.plan.len →
    Yields (.planSegment h bs) s (fun t => t.plan.bytes = s.plan.bytes.write h.a bs ∧ Responded t h Status.ok 0 0)) ∧
  (∀ (h : ScpHdr) (bs : Bytes) (s : State), s.serves ⟨.submit, h, [], bs⟩ = true → h.more = true → h.a = 0 →
    bs.length < h.b → s.sessionOf h.sess = none →
    Yields (.graphSubmit h bs) s (fun t => Responded t h Status.ok 0 0 ∧
      (t.sessionOf h.sess).bind (fun x => x.assembly) = some ⟨h.b, bs⟩)) ∧
  (∀ (h : ScpHdr) (s : State), s.serves ⟨.ring, h, [], []⟩ = true → 1 ≤ h.b → h.b ≤ 256 →
    h.a % 2 ^ 32 = s.g F.GRAPH_RING_TAIL_TAIL →
    Yields (.ringFetch h) s (fun t => t.graph.ring = s.graph.ring ∧ ∃ e ∈ t.sent, e.kind = .response ∧ e.a = h.sess ∧
      e.b = h.tag ∧ e.bytes = ((s.graph.ring.take h.b).map Completion.encode).flatten)) ∧
  (∀ (h : ScpHdr) (bs : Bytes) (i : Nat) (s : State), s.serves ⟨.subscribe, h, [], bs⟩ = true → bs.length = 16 →
    field bs 0 1 % 8 ≠ 0 → 1024 ≤ field bs 4 4 → field bs 4 4 ≤ 1048576 → (∀ u ∈ s.belf.subs, u.sess ≠ h.sess) →
    i < 8 → (∀ j < i, ∃ u ∈ s.belf.subs, u.slot = j) → (∀ u ∈ s.belf.subs, u.slot ≠ i) →
    Yields (.telemSubscribe h bs) s (fun t => Responded t h Status.ok 0 0 ∧
      (⟨i, h.sess, [0, 0, 0], [0, 0, 0], [], [], []⟩ : Subscr) ∈ t.belf.subs ∧
      t.gi F.ETH_SUB_CLASSES i = field bs 0 1 % 8 ∧ t.gi F.ETH_SUB_LEFT i = field bs 4 4)) ∧
  (∀ (h : ScpHdr) (nonce : Bytes) (s : State), s.serves ⟨.attest, h, [], nonce⟩ = true → h.a = 0 → nonce.length = 32 →
    s.key.entropyFailed = false → s.key.signing = [] →
    Yields (.attest h nonce) s (fun t => (∃ ep, ∃ e ∈ t.sent, e.kind = .response ∧ e.a = h.sess ∧ e.b = h.tag ∧
      e.data = [Status.ok, 0, ep, 1, reportLen]) ∧ (t.keptReport h.sess).isSome = true)) ∧
  (∀ (h : ScpHdr) (items : List Nat) (s : State), s.serves ⟨.ids, h, [], []⟩ = true →
    s.graph.graphs.find? (fun g => g.1 == h.a % 2 ^ 32) = some (h.a % 2 ^ 32, items) → h.b ≤ items.length →
    Yields (.graphIds h) s (fun t => ∃ e ∈ t.sent, e.kind = .response ∧ e.a = h.sess ∧ e.b = h.tag ∧
      e.bytes = (((items.drop h.b).take 2048).map (leBytes 4)).flatten)) ∧
  (∀ (h : ScpHdr) (bs : Bytes) (s : State), s.serves ⟨.hello, h, [], bs⟩ = true → bs.length = 1664 →
    s.g F.KEY_STATUS_REMOVE_STEP < 2 → s.key.entropyFailed = false →
    Yields (.admissionHello h bs) s (fun t => ∃ x, t.handshakeOf h.sess = some x ∧ x.started = s.round ∧
      x.hostKey = bs.take 64)) ∧
  (∀ (h : ScpHdr) (x : Handshake) (s : State), s.serves ⟨.report, h, [], []⟩ = true → s.handshakeOf h.sess = some x →
    x.serverHello.length = 32 → h.a = 0 → s.key.entropyFailed = false → s.key.signing = [] →
    Yields (.admissionFetch h) s (fun t => (t.keptReport h.sess).isSome = true)) ∧
  (∀ (h : ScpHdr) (bs : Bytes) (x : Handshake) (s : State), s.serves ⟨.finish, h, [], bs⟩ = true →
    s.handshakeOf h.sess = some x → h.more = true → h.a = x.fragments.length → h.a + bs.length ≤ 29792 →
    Yields (.admissionFinish h bs) s (fun t => Responded t h Status.ok 0 0 ∧
      t.handshakeOf h.sess = some { x with fragments := x.fragments ++ bs })) ∧
  (∀ (h : ScpHdr) (ws : List Word) (s : State), s.serves ⟨.post, h, ws, []⟩ = true →
    Yields (.mbxPost h ws) s (fun t => t = (((s.opened h).servePost h ws).respond h).settle)) ∧
  (∀ (h : ScpHdr) (s : State), s.serves ⟨.fetch, h, [], []⟩ = true →
    Yields (.mbxFetch h) s (fun t => t = (s.after (((s.opened h).serveFetch h).respond h)).settle)) ∧
  (∀ (h : ScpHdr) (bs : Bytes) (s : State), s.serves ⟨.segment, h, [], bs⟩ = true →
    Yields (.planSegment h bs) s (fun t => t = (((s.opened h).serveSegment h bs).respond h).settle)) ∧
  (∀ (h : ScpHdr) (bs : Bytes) (s : State), s.serves ⟨.submit, h, [], bs⟩ = true →
    Yields (.graphSubmit h bs) s (fun t => t = (s.after (((s.opened h).serveSubmit h bs).respond h)).settle)) ∧
  (∀ (h : ScpHdr) (s : State), s.serves ⟨.ring, h, [], []⟩ = true →
    Yields (.ringFetch h) s (fun t => t = (((s.opened h).serveRing h).respond h).settle)) ∧
  (∀ (h : ScpHdr) (bs : Bytes) (s : State), s.serves ⟨.subscribe, h, [], bs⟩ = true →
    Yields (.telemSubscribe h bs) s (fun t => t = (((s.opened h).serveSubscribe h bs).respond h).settle)) ∧
  (∀ (h : ScpHdr) (bs : Bytes) (s : State), s.serves ⟨.attest, h, [], bs⟩ = true →
    Yields (.attest h bs) s (fun t => t = (((s.opened h).attest h.sess h.a bs).respond h).settle)) ∧
  (∀ (h : ScpHdr) (s : State), s.serves ⟨.ids, h, [], []⟩ = true →
    Yields (.graphIds h) s (fun t => t = (((s.opened h).serveIds h).respond h).settle)) ∧
  (∀ (h : ScpHdr) (bs : Bytes) (s : State), s.serves ⟨.hello, h, [], bs⟩ = true →
    Yields (.admissionHello h bs) s (fun t => t = (((s.opened h).admissionHello h.sess bs).respond h).settle)) ∧
  (∀ (h : ScpHdr) (s : State), s.serves ⟨.report, h, [], []⟩ = true →
    Yields (.admissionFetch h) s (fun t => t = (((s.opened h).admissionFetch h.sess h.a).respond h).settle)) ∧
  (∀ (h : ScpHdr) (bs : Bytes) (s : State), s.serves ⟨.finish, h, [], bs⟩ = true →
    Yields (.admissionFinish h bs) s (fun t => t = (((s.opened h).admissionFinish h.sess h.a h.more bs).respond h).settle))

/-- Sessions, retries and accesses that are carried elsewhere end as R267, R270, R271 and R274 say; and the other doors of the
port and the chassis: neighbour discovery and the pause of the RoCEv2 priority (R264), and the I3C interface, which works while the
standby rail is up (R443).
The status of the I3C words before bring-up is the model's choice (log entry 88).
The last clauses say, for every operand and every state, which operation gives the next state of each command that they name. -/
def Obligations.SessionCommandsComplete : Prop :=
  (∀ (reason : Nat) (s : State), Yields (.scpDatagramDiscard reason) s (fun t => t.b F.ETH_EVENT_DISCARD = true ∧
      t.rd .ETH_COUNT 0 2 = BitVec.ofNat 64 (sat 64 ((s.rd .ETH_COUNT 0 2).toNat + 1)))) ∧
  (∀ (sess : Nat) (x : Session) (s : State), s.sessionOf sess = some x → (∀ y ∈ s.eth.sessions, y.id = sess → y = x) →
    x.last + 16384 ≤ s.round →
    Yields (.sessionExpiry sess) s (fun t => t.sessionOf sess = none ∧ Frame [] [] [.eth] s t)) ∧
  (∀ (sess tag : Nat) (x : Session) (s : State), s.eth.sessions = [x] → x.id = sess →
    (∀ c ∈ x.cache, c.round + 1024 ≤ s.round) →
    Yields (.retryCacheExpiry sess tag) s (fun t => ∃ y, t.eth.sessions = [y] ∧
      (∀ c ∈ y.cache, c.tag ≠ tag) ∧ Frame [] [] [.eth] s t)) ∧
  (∀ (slot : Nat) (u : Subscr) (s : State), u ∈ s.belf.subs → u.slot = slot → s.gi F.ETH_SUB_LEFT slot = 0 →
    Yields (.subscriptionLeaseExpiry slot) s (fun t => (∀ v ∈ t.belf.subs, v.slot ≠ slot) ∧
      t.b F.ETH_EVENT_SUB_EXPIRED = true ∧ t.gi F.ETH_SUB_CLASSES slot = 0)) ∧
  (∀ (sess tag status : Nat) (ws : List Word) (x : Session) (m : Remote) (s : State), s.eth.sessions = [x] → x.id = sess →
    x.remote = some m → m.tag = tag → m.far = true → m.write = false → x.queue = [] →
    Yields (.remoteAccessReply sess tag status ws) s (fun t => ∃ e ∈ t.sent, e.kind = .response ∧ e.a = sess ∧ e.b = tag ∧
      ∃ ep, e.data = [status, 0, ep, 0, ws.length] ++ ws.map (fun w => w.toNat))) ∧
  (∀ (sess tag : Nat) (x : Session) (m : Remote) (s : State), s.eth.sessions = [x] → x.id = sess →
    x.remote = some m → m.tag = tag → m.far = true → m.sent + 16 ≤ s.round → x.queue = [] →
    Yields (.remoteAccessTimeout sess tag) s (fun t => ∃ e ∈ t.sent, e.kind = .response ∧ e.a = sess ∧ e.b = tag ∧
      ∃ d ep, e.data = [Status.timeout, d, ep, 0, 0])) ∧
  (∀ s : State, Yields (.neighbourDiscoveryRequest false) s (fun t =>
      t.sent = s.sent ++ [⟨.advertisement, 1, 1, [], []⟩] ∧ Frame [] [] [.sent] s t)) ∧
  (∀ (pause : Nat) (s : State), getBits (s.rd .ETH_ADDR 0 10) 27 1 = 1 → pause ≠ 0 →
    Yields (.pfcFrame pause) s (fun t => t.eth = { s.eth with paused := true } ∧ Frame [] [] [.eth] s t)) ∧
  (∀ (address : Nat) (s : State), s.pwr.standbyUp = true →
    Yields (.i3cEntdaa address) s (fun t => t.pwr = { s.pwr with i3cAddress := address % 128 } ∧
      Frame [] [] [.pwr, .sent] s t)) ∧
  (∀ (index : Nat) (s : State), s.pwr.standbyUp = true →
    Yields (.i3cPrivateWrite index) s (fun t => t.pwr = { s.pwr with i3cIndex := index % 65536 } ∧ Frame [] [] [.pwr] s t)) ∧
  (∀ s : State, s.pwr.standbyUp = true → s.pwr.i3cIndex = 0 → s.confidential = false →
    Yields .i3cPrivateRead s (fun t => t.answer.words = [s.rd .IDENT_PART 0 0 &&& BitVec.ofNat 64 Reg.IDENT_PART.readMask] ∧
      Frame [] [] [.answer] s t)) ∧
  (∀ (sess tag : Nat) (s : State), Yields (.retryCacheExpiry sess tag) s (fun t => t = (s.retryCacheExpiry sess tag).settle)) ∧
  (∀ s : State, Yields .i3cPrivateRead s (fun t => t = s.i3cRead.settle)) ∧
  (∀ (sess tag status : Nat) (words : List Word) (s : State), Yields (.remoteAccessReply sess tag status words) s (fun t =>
      t = (s.after (s.remoteReply sess tag status words)).settle)) ∧
  (∀ (sess tag : Nat) (s : State), Yields (.remoteAccessTimeout sess tag) s (fun t =>
      t = (s.after (s.remoteTimeout sess tag)).settle)) ∧
  (∀ (pause : Nat) (s : State), Yields (.pfcFrame pause) s (fun t => t = (s.pfc pause).settle))
/-- The mailboxes: a post into a mailbox that is not FULL is stored and answered OK; taking clears the mailbox and gives its
word; Varlor relays an accepted application word to the agent that the relay names and counts it (R276, R278, R280, R405,
R406).
A word that Varlor posts to the keystone or the twin is taken within the posting step (log entry 14).
The last clauses say, for every operand and every state, which operation gives the next state of hostWordTake, mbxHoutTake. -/
def Obligations.MailboxCommandsComplete : Prop :=
  (∀ (i : Nat) (w : Word) (s : State), i < 32 → (∀ e ∈ s.mbx.hin, e.1 ≠ i) →
    Yields (.mbxHinWrite i w) s (fun t => t.mbx.hin = s.mbx.hin ++ [(i, w)] ∧ t.answer.status = Status.ok ∧
      Frame [] [] [.mbx, .answer] s t)) ∧
  (∀ (mask : Word) (s : State), (∀ x ∈ s.mbx.waiting, x.party ≠ Party.host) → (∀ x ∈ s.mbx.posted, x.item = none) →
    Yields (.mbxHoutTake mask) s (fun t => t.answer.status = Status.ok ∧
      ∀ i < 32, hasBit mask.toNat i = true → hasBit (t.g F.MBX_HOUT_FULL_FULL) i = false)) ∧
  (∀ (i n : Nat) (w : Word) (s : State), s.mbx.hin.find? (fun e => e.1 == i) = some (i, w) →
    wordEpoch w = s.g F.MBX_HOST_EPOCH_EPOCH → 0x80 ≤ wordType w → s.relayNode i = some n →
    s.outFull Party.agent (localOf n) 0 = false →
    Yields (.hostWordTake i) s (fun t => t.mbx.hin = s.mbx.hin.filter (fun e => e.1 != i) ∧
      t.rd .MBX_COUNT 0 7 = BitVec.ofNat 64 (sat 64 ((s.rd .MBX_COUNT 0 7).toNat + 1)))) ∧
  (∀ (node i : Nat) (w : Word) (s : State), i < 2 → s.outFull Party.agent node i = false →
    Yields (.agMbxInWrite node i w) s (fun t => t.answer.status = Status.ok ∧
      (i, w) ∈ (t.ag node).inWords)) ∧
  (∀ (node mask : Nat) (s : State),
    Yields (.agMbxOutTake node mask) s (fun t => t.answer.status = Status.ok ∧
      t.answer.words = (bitsOf 2 (Nat.land mask (s.ga F.AG_MBX_FULL_OUT_FULL node 0))).map (fun i => s.rd .AG_MBX_OUT node i))) ∧
  (∀ (node : Nat) (v : Word) (s : State),
    Yields (.agEpochWrite node v) s (fun t => t.ga F.AG_EPOCH_MANAGER node 0 = getBits v 8 8)) ∧
  (∀ (node i : Nat) (w : Word) (s : State), i < 2 → hasBit (s.ga F.AG_MBX_FULL_OUT_FULL node 0) i = false →
    Yields (.elementPost node i w) s (fun t => t.answer.status = Status.ok ∧ t.rd .AG_MBX_OUT node i = w ∧
      hasBit (t.ga F.AG_MBX_FULL_OUT_FULL node 0) i = true)) ∧
  (∀ (node i : Nat) (w : Word) (s : State), (s.ag node).inWords.find? (fun e => e.1 == i) = some (i, w) →
    wordEpoch w = s.ga F.AG_EPOCH_MANAGER node 0 →
    Yields (.elementTake node i) s (fun t => t.answer.status = Status.ok ∧ t.answer.words = [w] ∧
      (t.ag node).inWords = (s.ag node).inWords.filter (fun e => e.1 != i))) ∧
  (∀ (index : Nat) (s : State), Yields (.hostWordTake index) s (fun t => t = (s.hostWordTake index).settle)) ∧
  (∀ (mask : Word) (s : State), Yields (.mbxHoutTake mask) s (fun t => t = ((s.hostTake mask.toNat).ok).settle))

/-- A word that is not taken within MBX_CFG.STALL rounds stalls once: the event, the count and the MBX_STALL register name
it (R282). The partner's reset gives its new epoch and sets TWIN_RESET (R284). The
round's poll takes an application word from a bound agent's mailbox and counts it (R278, R280).
The last clauses say, for every operand and every state, which operation gives the next state of agentMailboxPoll, mailboxStall. -/
def Obligations.MailboxFaultsComplete : Prop :=
  (∀ (party node i : Nat) (x : Posted) (s : State),
    s.mbx.posted.find? (fun x => x.party == party && x.node == node && x.idx == i) = some x → x.stalled = false →
    x.item = none → x.round + s.g F.MBX_CFG_STALL ≤ s.round + 1 →
    Yields (.mailboxStall party node i) s (fun t => t.b F.MBX_EVENT_STALL = true ∧ t.g F.MBX_STALL_PARTY = party % 8 ∧
      t.g F.MBX_STALL_INDEX = i % 32 ∧
      t.rd .MBX_COUNT 0 4 = BitVec.ofNat 64 (sat 64 ((s.rd .MBX_COUNT 0 4).toNat + 1)))) ∧
  (∀ (kind ep : Nat) (s : State), Yields (.partnerResetNotice kind ep) s (fun t =>
      t.g F.MBX_EPOCH_TWIN_EPOCH = ep % 256 ∧ t.b F.MBX_EVENT_TWIN_RESET = true)) ∧
  (∀ (n : Nat) (s : State), s.boundNodes = [n] → s.mbx.posted = [] → (s.ag n).originated = [] →
      s.ga F.AG_MBX_FULL_OUT_FULL n 0 = 1 → wordEpoch (s.rd .AG_MBX_OUT n 0) = s.ga F.AG_EPOCH_ELEMENT n 0 →
      0x80 ≤ wordType (s.rd .AG_MBX_OUT n 0) →
      Yields .agentMailboxPoll s (fun t => t.ga F.AG_MBX_FULL_OUT_FULL n 0 = 0 ∧
        t.rd .MBX_COUNT 0 0 = BitVec.ofNat 64 (sat 64 ((s.rd .MBX_COUNT 0 0).toNat + 1)))) ∧
  (∀ s : State, Yields .agentMailboxPoll s (fun t => t = (s.after s.pollAgents).settle)) ∧
  (∀ (party node index : Nat) (s : State), Yields (.mailboxStall party node index) s (fun t =>
      t = (s.mailboxStall party node index).settle))

/-- The commands of the staged plan slot, each in a state that Table 2.19 lists for it: loading starts an empty slot of the
declared length, verification gives REFUSED with the failure that comes first or ADMITTED, an armed plan starts its install
in the next round, ABORT and DISCARD take it back (R61, R63, R67, R68, R69).
The statuses of a refused ACTIVATE are read as log entry 51 says.
The last clauses say, for every operand and every state, which operation gives the next state of verifyComplete, activate. -/
def Obligations.PlanCommandsComplete : Prop :=
  (∀ s : State, s.slotState ≠ Slot.verifying → s.slotState ≠ Slot.armed → s.g F.PLAN_LOAD_LEN_LEN ≤ 268435456 →
    Yields .loadBegin s (fun t => t.slotState = Slot.loading ∧ t.plan.len = s.g F.PLAN_LOAD_LEN_LEN ∧ t.plan.bytes = [] ∧
      t.rd .PLAN_ERR 0 0 = 0 ∧ t.rd .PLAN_RATE_EXCESS 0 0 = 0 ∧ t.answer.status = Status.ok)) ∧
  (∀ s : State, s.slotState = Slot.loading →
    Yields .verify s (fun t => t.slotState = Slot.verifying ∧ t.plan.bytes = s.plan.bytes ∧ t.answer.status = Status.ok)) ∧
  (∀ (e : PErr) (s : State), s.slotState = Slot.verifying → s.verifyImage = some e → e.code ≠ PCode.sram →
    e.code ≠ PCode.dram →
    Yields .verifyComplete s (fun t => t.slotState = Slot.refused ∧ t.g F.PLAN_ERR_CODE = e.code % 2 ^ 8 ∧
      t.g F.PLAN_ERR_SECTION = e.section_ % 2 ^ 16 ∧ t.g F.PLAN_ERR_ITEM = e.item % 2 ^ 32 ∧
      t.g F.PLAN_ERR_OFFSET_OFFSET = e.off % 2 ^ 32)) ∧
  (∀ s : State, s.slotState = Slot.verifying → s.plan.firstPlan = false →
    Yields .verifyComplete s (fun t =>
      (s.verifyImage = none → t.slotState = Slot.admitted ∧ t.plan.staged = some s.knownImage.plan ∧
        t.g F.PLAN_EPOCH_STAGED = s.knownImage.plan.tables.epoch % 2 ^ 32 ∧ t.g F.PLAN_DEFICIT_BYTES = 0) ∧
      (s.verifyImage ≠ none → t.slotState = Slot.refused ∧ t.plan.cur = s.plan.cur))) ∧
  (∀ (p : Plan) (s : State), s.plan.staged = some p → s.slotState = Slot.admitted → s.heldCupolas = [] →
    s.installing = false → s.dropsLive p.tables = false → s.twinMissing p = false →
    s.earliest p ≤ s.g F.PLAN_ACT_ROUND_ROUND → p.sramDeficit (fun _ => false) s.sramCap = 0 → p.dramNeed ≤ s.dramCap →
    (∀ e ∈ p.elements, unionFits s.tables p.tables e.node = true) →
    Yields .activate s (fun t => t.slotState = Slot.armed ∧ t.g F.PLAN_STATUS_CANCEL_REASON = 0 ∧
      t.answer.status = Status.ok)) ∧
  (∀ s : State, s.slotState = Slot.armed → s.round + 2 < s.g F.BELL_ACT_ROUND_ROUND → s.committed = false →
    Yields .abort s (fun t => t.slotState = Slot.admitted ∧ t.answer.status = Status.ok)) ∧
  (∀ s : State, (s.slotState = Slot.loading ∨ s.slotState = Slot.admitted ∨ s.slotState = Slot.refused) →
    Yields .discard s (fun t => t.slotState = Slot.empty ∧ t.plan.staged = none ∧ t.plan.bytes = [] ∧
      t.g F.PLAN_EPOCH_STAGED = 0 ∧ t.g F.PLAN_EARLIEST_ROUND = 0 ∧ t.answer.status = Status.ok)) ∧
  (∀ s : State, Yields .verifyComplete s (fun t => t = s.verifyComplete.settle)) ∧
  (∀ s : State, Yields .activate s (fun t => t = s.activate.settle))

/-- Slots and beacons: an agent's slot carries a beacon or an idle frame as its entry says, a received beacon sets the
port's registers, a bad one is counted, an unknown or silent neighbour is reported, a probe goes on or is answered
(R70, R72, R73, R95, R128).
The last clauses say, for every operand and every state, which operation gives the next state of slotStart, beaconReceive. -/
def Obligations.BeaconCommandsComplete : Prop :=
  (∀ (node port slot : Nat) (s : State), s.portUp node port = true → (s.ag node).active.port port ≠ [] →
    s.ga F.AG_PORT_CFG_DARK node port = 0 → isMgmt (((s.ag node).active.port port).getD slot 0) = false →
    slotFlow (((s.ag node).active.port port).getD slot 0) = 0 →
    Yields (.slotStart node port slot) s (fun t => t.sent = s.sent ++ [⟨.idle, node, port, [], []⟩] ∧
      Frame [] [] [.sent] s t)) ∧
  (∀ (node port slot : Nat) (s : State), s.portUp node port = true → (s.ag node).active.port port = [] → slot % 64 = 0 →
    Yields (.slotStart node port slot) s (fun t =>
      t.sent = s.sent ++ [⟨.beacon, node, port, s.beaconFields node port, beaconFrame 1 (s.beaconFields node port)⟩] ∧
      Frame [] [] [.sent] s t)) ∧
  (∀ (node port : Nat) (b : Beacon) (s : State), node < 510 → b.crcOk = true → b.reserved = 0 →
    Yields (.beaconReceive node port b) s (fun t =>
      t.ga F.AG_PORT_LEVEL node port = min b.level (s.ga F.AG_IDENT_LEVEL node 0) % 16 ∧
      t.ga F.AG_PORT_FAR_PORT node port = b.port % 2 ^ F.AG_PORT_FAR_PORT.len ∧
      t.ga F.AG_PORT_FAR_KIND node port = b.kind % 2 ^ F.AG_PORT_FAR_KIND.len ∧
      (t.ag node).heard = setKey (s.ag node).heard port s.round)) ∧
  (∀ (node port : Nat) (b : Beacon) (s : State), node < 510 → b.crcOk = false →
    Yields (.beaconReceive node port b) s (fun t =>
      t.ga F.AG_PORT_BEACON_ERR node port = sat 16 (s.ga F.AG_PORT_BEACON_ERR node port + 1) ∧
      Frame [] [(F.AG_PORT_BEACON_ERR, node, port)] [] s t)) ∧
  (∀ (node port : Nat) (b : Beacon) (s : State), 510 ≤ node → b.crcOk = true → b.reserved = 0 → b.kind ≠ 3 →
    Yields (.beaconReceive node port b) s (fun t => (port, b) ∈ t.disc.beacons)) ∧
  (∀ (node port : Nat) (s : State), node < 510 → s.portUp node port = true →
    lookupD (s.ag node).heard port 0 + 4 ≤ s.round →
    Yields (.identityUnknown node port) s (fun t => t.ga F.AG_PORT_STATE node port = 4 ∧
      Frame [] [(F.AG_PORT_STATE, node, port)] [] s t)) ∧
  (∀ (node port : Nat) (s : State), s.portUp node port = true → s.scheduled node port = true →
    lookupD (s.ag node).heard port 0 + 2 ≤ s.round →
    Yields (.neighbourSilent node port) s (fun t => t.ga F.AG_FAULT_CAUSE node 0 = Cause.neighbourSilent ∧
      ∃ e ∈ (t.ag node).notices, e.1 = Cause.neighbourSilent ∧ e.2.1 = port)) ∧
  (∀ (node ingress p : Nat) (rest : List Nat) (s : State), s.portUp node p = true →
    Yields (.probe node ingress (p :: rest)) s (fun t =>
      (t.ag node).mgmt = (s.ag node).mgmt ++ [⟨p, 4, 64, some ingress, ⟨.probe, node, p, rest, []⟩⟩] ∧
      Frame [] [] [.agents] s t)) ∧
  (∀ (node ingress : Nat) (s : State), Yields (.probe node ingress []) s (fun t =>
      ∃ f ∈ (t.ag node).mgmt, f.port = ingress ∧ f.order = 4 ∧ f.out.kind = .probeReply ∧ f.out.data = s.beaconFields node ingress ++
        ((List.range (s.ga F.AG_IDENT_PORTS node 0)).map (s.portRecord node)).flatten)) ∧
  (∀ (node port slot : Nat) (s : State), Yields (.slotStart node port slot) s (fun t => t = (s.slotStart node port slot).settle)) ∧
  (∀ (node port : Nat) (b : Beacon) (s : State), Yields (.beaconReceive node port b) s (fun t =>
      t = (s.beaconReceive node port b).settle))

/-- The walk and the binding: a probe's reply is recorded, an unanswered probe is sent again, and settling, walking,
matching and binding follow each other as Table 3.5 says; RESCAN starts the walk again (R73, R74, R84, R85, R88).
The last clauses say, for every operand and every state, which operation gives the next state of each command that they name. -/
def Obligations.DiscoveryCommandsComplete : Prop :=
  (∀ (route : List Nat) (b : Beacon) (ports : List PortRec) (x : ProbeOut) (s : State), b.crcOk = true → b.reserved = 0 →
    s.disc.probes.find? (fun x => x.route == route) = some x → b.elementId ∉ s.disc.censusOnly →
    s.discState = DState.walking →
    Yields (.probeReply route b ports) s (fun t => ∃ o ∈ t.disc.observed, o.id = b.elementId ∧ o.replied = true ∧
      o.level = b.level ∧ o.kind = b.kind ∧ o.ports = ports)) ∧
  (∀ (route : List Nat) (x : ProbeOut) (s : State), s.disc.probes.find? (fun x => x.route == route) = some x →
    x.sent + 2 ≤ s.round → x.tries < s.g F.DISC_CFG_PROBE_RETRY →
    Yields (.probeTimeout route) s (fun t =>
      t.disc.probes = s.disc.probes.filter (fun q => q.route != route) ++ [⟨route, x.tries + 1, s.round, x.id⟩] ∧
      Frame [] [] [.disc, .sent] s t)) ∧
  (∀ s : State, s.discState = DState.settling → s.disc.quietSince + s.g F.DISC_CFG_SETTLE ≤ s.round →
    Yields .settleEnd s (fun t => t.discState = DState.walking ∧ ∀ o ∈ t.disc.observed, o.replied = false)) ∧
  (∀ (p : Plan) (s : State), s.plan.cur = some p → s.discState = DState.walking → s.disc.probes = [] →
    Yields .walkComplete s (fun t => t.discState = DState.matching)) ∧
  (∀ (p : Plan) (s : State), s.plan.cur = some p → s.discState = DState.matching → s.disc.unserved = [] →
    s.tablesRun = true → s.disc.changes = [] →
    Yields .matchingComplete s (fun t => t.discState = DState.bound ∧ t.g F.DISC_STATUS_BOUND_ROUND = s.round)) ∧
  (∀ (a : Assignment) (p : Plan) (s : State), s.plan.cur = some p → s.discState = DState.matching → s.disc.unserved ≠ [] →
    s.disc.changes = [] →
    Yields (.bindingResolveComplete a) s (fun t => t.disc.unserved = [] ∧
      t.discState = (if t.g F.DISC_VIABLE_FAILED = 0 ∨ s.tablesRun = true then DState.bound else DState.notViable))) ∧
  (∀ (p : Plan) (s : State), s.plan.cur = some p → s.slotState ≠ Slot.armed → s.discState = DState.bound →
    Yields .rescan s (fun t => t.discState = DState.walking ∧ t.rep.flapHeld = [] ∧ t.answer.status = Status.ok)) ∧
  (∀ (p : Plan) (s : State), s.plan.cur = some p → s.slotState ≠ Slot.armed →
    (s.discState = DState.idle ∨ s.discState = DState.notViable) →
    Yields .rescan s (fun t => t.discState = DState.settling ∧ t.disc.entered = s.round ∧ t.answer.status = Status.ok)) ∧
  (∀ (route : List Nat) (b : Beacon) (ports : List PortRec) (s : State), Yields (.probeReply route b ports) s (fun t =>
      t = (s.probeReply route b ports).settle)) ∧
  (∀ s : State, Yields .matchingComplete s (fun t => t = s.matchingComplete.settle)) ∧
  (∀ (a : Assignment) (s : State), Yields (.bindingResolveComplete a) s (fun t => t = (s.bindingResolve a).settle))

/-- Ports: a port that trains or loses its lock shows it, at an agent with a notice; the port commands move a port as
Table 17.5 says; a memory channel's retrain and the host port's registers and link answer to their commands
(R386, R427, R428, R429, R264, R447).
The last clauses say, for every operand and every state, which operation gives the next state of each command that they name. -/
def Obligations.PortCommandsComplete : Prop :=
  (∀ (node port : Nat) (s : State), 510 ≤ node → port < 48 → s.portState port ≠ PState.disabled →
    s.portState port ≠ PState.unlicensed → Yields (.portTrained node port) s (fun t => t.portState port = PState.up ∧
      t.gi F.PORT_STATUS_LANES port = 255)) ∧
  (∀ (node port : Nat) (s : State), node < 510 →
    Yields (.portTrained node port) s (fun t => t.ga F.AG_FAULT_CAUSE node 0 = Cause.portUp ∧
      t.ga F.AG_STATUS_PORTS_UP node 0 = setBit (s.ga F.AG_STATUS_PORTS_UP node 0) port true % 2 ^ F.AG_STATUS_PORTS_UP.len)) ∧
  (∀ (node port : Nat) (s : State), 510 ≤ node → s.portState port = PState.up →
    Yields (.portLossOfLock node port) s (fun t => t.portState port = PState.training ∧ t.gi F.PORT_STATUS_LANES port = 0 ∧
      ∀ e ∈ t.disc.beacons, e.1 ≠ port)) ∧
  (∀ (node port : Nat) (s : State), node < 510 → s.portUp node port = true →
    Yields (.portLossOfLock node port) s (fun t => t.ga F.AG_PORT_STATE node port = 0 ∧
      t.ga F.AG_FAULT_CAUSE node 0 = Cause.portDown)) ∧
  (∀ (port : Nat) (force : Bool) (s : State), port < 44 → s.unlicensed port = false →
    (s.portState port = PState.dark ∨ s.portState port = PState.disabled ∨ s.portState port = PState.failed) →
    Yields (.portRetrain port force) s (fun t => t.portState port = PState.training ∧ port ∈ t.pwr.retraining ∧
      t.answer.status = Status.ok)) ∧
  (∀ (port : Nat) (s : State), port < 48 → s.unlicensed port = false → s.portState port ≠ PState.disabling →
    s.portState port ≠ PState.disabled →
    Yields (.portDisable port) s (fun t => t.portState port = PState.disabling ∧ t.answer.status = Status.ok ∧
      ∃ d ∈ t.graph.disables, d.function = 1 ∧ d.index = port ∧ d.accepted = s.round)) ∧
  (∀ (port : Nat) (s : State), port < 48 → s.unlicensed port = false →
    (s.portState port = PState.disabled ∨ s.portState port = PState.failed) →
    Yields (.portEnable port) s (fun t => t.portState port = PState.training ∧ t.b F.PORT_EVENT_ENABLED = true ∧
      t.answer.status = Status.ok)) ∧
  (∀ (port : Nat) (s : State), port < 48 → s.portState port = PState.training → 2 ≤ (s.recentRetrains port).length →
    Yields (.portAutoRetrain port false) s (fun t => t.portState port = PState.failed ∧ t.b F.PORT_EVENT_FAILED = true)) ∧
  (∀ (channel : Nat) (s : State), channel < 256 → channel / 4 ∉ s.pwr.packagesRetired →
    Yields (.memRetrain channel true) s (fun t => t.pwr.channelFails = setKey s.pwr.channelFails channel 0 ∧
      t.answer.status = Status.ok)) ∧
  (∀ (channel : Nat) (s : State), channel < 256 → channel / 4 ∉ s.pwr.packagesRetired →
    lookupD s.pwr.channelFails channel 0 = 0 →
    Yields (.memPeriodicRetrain channel false) s (fun t => t.pwr.channelFails = setKey s.pwr.channelFails channel 1 ∧
      Frame [] [] [.pwr] s t)) ∧
  (∀ (v : Word) (s : State), 1500 ≤ getBits v 16 16 → getBits v 16 16 ≤ 9216 → s.confidential = false →
    getBits v 0 1 = s.g F.ETH_CFG_SPEED →
    Yields (.ethCfgWrite v) s (fun t => t.g F.ETH_CFG_MTU = getBits v 16 16 ∧ t.g F.ETH_CFG_MACSEC = getBits v 1 1 ∧
      t.g F.ETH_CFG_SCP_PORT = getBits v 32 16 ∧ t.answer.status = Status.ok)) ∧
  (∀ s : State, s.pwr.osfpHeld = false → Yields (.ethLinkChange true) s (fun t => t.b F.ETH_STATUS_LINK = true ∧
      t.b F.ETH_EVENT_LINK_UP = true)) ∧
  (∀ s : State, Yields (.ethLinkChange false) s (fun t => t.b F.ETH_STATUS_LINK = false ∧ t.b F.ETH_EVENT_LINK_DOWN = true)) ∧
  (∀ (watts : Nat) (s : State), 30 < watts → Yields (.osfpModuleEvent true watts) s (fun t => t.pwr.osfpHeld = true ∧
      t.b F.ETH_STATUS_LINK = false)) ∧
  (∀ (watts : Nat) (s : State), watts ≤ 30 → Yields (.osfpModuleEvent true watts) s (fun t => t.pwr.osfpHeld = false ∧
      t.b F.ETH_STATUS_LINK = true)) ∧
  (∀ (port : Nat) (s : State), Yields (.portDisable port) s (fun t => t = (s.portDisable port).settle)) ∧
  (∀ (port : Nat) (ok : Bool) (s : State), Yields (.portAutoRetrain port ok) s (fun t => t = (s.portAutoRetrain port ok).settle)) ∧
  (∀ (value : Word) (s : State), Yields (.ethCfgWrite value) s (fun t => t = (s.ethCfgWrite value).settle))

/-- Frames and items at an agent: a frame is queued on its entry's port or dropped and reported, an item's frames wait for
its flow's slots until its window, its receipt or the drain bound ends them (R96, R97, R98, R100, R122, R133, R379, R383).
The last clauses say, for every operand and every state, which operation gives the next state of each command that they name. -/
def Obligations.FrameCommandsComplete : Prop :=
  (∀ (node ingress port : Nat) (d : Bool) (f : DataFrame) (s : State), s.ga F.AG_PORT_CFG_KEYED node ingress = 0 →
    s.route node f.flow f.detour = some (port, d) → port ≠ 31 →
    s.relayBytes node ingress + frameBytes f ≤ s.ga F.AG_IDENT_RELAY_KIB node 0 * 1024 →
    Yields (.frameArrive node ingress f) s (fun t => (t.ag node).queue =
      (s.ag node).queue ++ [⟨port, f.flow, f.cupola, { f with detour := d }, s.round, true, ingress⟩] ∧
      Frame [] [] [.agents] s t)) ∧
  (∀ (node ingress : Nat) (f : DataFrame) (s : State), s.ga F.AG_PORT_CFG_KEYED node ingress = 0 →
    s.route node f.flow f.detour = none →
    Yields (.frameArrive node ingress f) s (fun t => t.ga F.AG_EVENT_UNKNOWN_FLOW node 0 = 1 ∧
      t.rd .AG_COUNT node 1 = BitVec.ofNat 64 (sat 64 ((s.rd .AG_COUNT node 1).toNat + 1)) ∧
      t.ga F.AG_FAULT_CAUSE node 0 = Cause.unknownFlow ∧ (t.ag node).queue = (s.ag node).queue)) ∧
  (∀ (node flow cupola tag window : Nat) (payload : Bytes) (w : Nat × Bool) (s : State),
    s.ga F.AG_STATUS_COMPUTE_RESET node 0 = 0 → flow ≠ 0x0001 → flow ≠ 0xFFFC →
    s.admits node ((s.ag node).flowCupola flow) = true → (s.ag node).stopped flow s.round = false →
    s.ga F.AG_INSTALL_STATE node 0 < 2 → s.route node flow false = some w →
    Yields (.itemInject node flow cupola tag window payload) s (fun t => (t.ag node).sources =
      (s.ag node).sources ++ [⟨flow, cupola, tag, window, s.round, false⟩] ∧ Frame [] [] [.agents] s t)) ∧
  (∀ (node tag : Nat) (i : SourceItem) (s : State), s.ga F.AG_STATUS_COMPUTE_RESET node 0 = 0 →
    (s.ag node).sources.find? (fun i => i.tag == tag && !i.left && decide (i.window < s.round)) = some i →
    Yields (.itemWindowExpiry node tag) s (fun t => (t.ag node).sources = (s.ag node).sources.erase i ∧
      t.sent = s.sent ++ [⟨.fateReport, node, i.flow, [tag, Fate.timeout, 0], []⟩] ∧ Frame [] [] [.agents, .sent] s t)) ∧
  (∀ (node flow tag : Nat) (i : SourceItem) (s : State), node < 510 → s.ga F.AG_STATUS_COMPUTE_RESET node 0 = 0 →
    (s.ag node).sources.find? (fun i => i.flow == Nat.xor flow 1 && i.tag == tag) = some i →
    s.round ≤ i.window + drainBound (s.tables.classOfFlow (Nat.xor flow 1)) →
    Yields (.deliveryReceipt node flow tag) s (fun t => (t.ag node).sources = (s.ag node).sources.erase i ∧
      t.sent = s.sent ++ [⟨.fateReport, node, Nat.xor flow 1, [tag, Fate.done, 0], []⟩])) ∧
  (∀ (node tag : Nat) (i : SourceItem) (s : State), s.ga F.AG_STATUS_COMPUTE_RESET node 0 = 0 →
    (s.ag node).sources.find? (fun i => i.tag == tag &&
      decide (i.window + drainBound (s.tables.classOfFlow i.flow) < s.round)) = some i →
    Yields (.receiptTimeout node tag) s (fun t => (t.ag node).sources = (s.ag node).sources.erase i ∧
      t.sent = s.sent ++ [⟨.fateReport, node, i.flow, [tag, Fate.unconfirmed, 0], []⟩])) ∧
  (∀ (node flow : Nat) (s : State), (s.ag node).queue.any (fun q => q.flow == flow &&
      decide (q.since + drainBound (s.tables.classOfFlow flow) < s.round)) = true →
    Yields (.drainBoundExpiry node flow) s (fun t => t.ga F.AG_EVENT_DRAIN_EXCEEDED node 0 = 1 ∧
      t.ga F.AG_FAULT_CAUSE node 0 = Cause.drainExceeded ∧
      ∀ q ∈ (t.ag node).queue, ¬(q.flow = flow ∧ q.since + drainBound (s.tables.classOfFlow flow) < s.round))) ∧
  (∀ (node : Nat) (b : FailBcast) (s : State), Yields (.failureBroadcast node b) s (fun t =>
      (t.ag node).sources = (s.ag node).sources.filter (fun i => !b.cupolas.contains i.cupola) ∧
      (t.ag node).sinks = (s.ag node).sinks.filter (fun i => !b.cupolas.contains i.cupola))) ∧
  (∀ (node ingress : Nat) (f : DataFrame) (s : State), Yields (.frameArrive node ingress f) s (fun t =>
      t = (s.frameArrive node ingress f).settle)) ∧
  (∀ (node flow cupola tag window : Nat) (payload : Bytes) (s : State), Yields (.itemInject node flow cupola tag window payload) s (fun t =>
      t = (s.itemInject node flow cupola tag window payload).settle)) ∧
  (∀ (node flow tag : Nat) (s : State), Yields (.deliveryReceipt node flow tag) s (fun t =>
      t = (if 510 ≤ node then s.after (s.varlorReceipt flow tag) else s.deliveryReceipt node flow tag).settle))

/-- Flows and nodes that the host stops: QUIESCE_FLOW and RESUME_FLOW name the flow of BELL_ARG, its end is reported when
the drain bound has passed, and a node of the plan is marked for fencing (R101, R114).
The last clauses say, for every operand and every state, which operation gives the next state of agResumeFlow. -/
def Obligations.FlowCommandsComplete : Prop :=
  (∀ s : State, s.tables.sourcesOf (s.g F.BELL_ARG_ARG % 65536) ≠ [] →
    Yields .quiesceFlow s (fun t => t.g F.BELL_QUIESCE_FLOW = s.g F.BELL_ARG_ARG % 65536 ∧ t.b F.BELL_QUIESCE_PENDING = true ∧
      t.b F.BELL_QUIESCE_QUIESCED = false ∧ t.answer.status = Status.ok)) ∧
  (∀ s : State, s.tables.sourcesOf (s.g F.BELL_ARG_ARG % 65536) ≠ [] →
    Yields .resumeFlow s (fun t => t.b F.BELL_QUIESCE_PENDING = false ∧ t.answer.status = Status.ok ∧
      ∀ q ∈ t.bell.quiesced, q.1 ≠ s.g F.BELL_ARG_ARG % 65536)) ∧
  (∀ s : State, s.bell.quiesced.any (fun q => q.1 == s.g F.BELL_QUIESCE_FLOW && q.2.2 ≤ s.round) = true →
    s.b F.BELL_QUIESCE_PENDING = true → Yields .quiesceDrained s (fun t => t.b F.BELL_QUIESCE_PENDING = false ∧
      t.b F.BELL_QUIESCE_QUIESCED = true ∧ Frame [F.BELL_QUIESCE_PENDING, F.BELL_QUIESCE_QUIESCED] [] [] s t)) ∧
  (∀ s : State, s.g F.BELL_ARG_ARG / 512 = s.spire → s.placedAt (localOf (s.g F.BELL_ARG_ARG)) = true →
    Yields .fenceNode s (fun t => localOf (s.g F.BELL_ARG_ARG) ∈ t.bell.fenceMarks ∧ t.answer.status = Status.ok ∧
      Frame [] [] [.bell, .answer] s t)) ∧
  (∀ (node flow : Nat) (s : State), Yields (.agQuiesceFlow node flow) s (fun t =>
      t.ga F.AG_STATUS_QUIESCED node 0 = flow % 65536 ∧ (flow, s.round + 1, none) ∈ (t.ag node).quiesced)) ∧
  (∀ (node flow : Nat) (s : State), (s.ag node).quiesced = [(flow, s.round, none)] →
    Yields (.agResumeFlow node flow) s (fun t => t.ga F.AG_STATUS_QUIESCED node 0 = 0 ∧
      (t.ag node).quiesced = [(flow, s.round, some (s.round + 1))])) ∧
  (∀ (node flow : Nat) (s : State), Yields (.agResumeFlow node flow) s (fun t => t = (s.agResumeFlow node flow).settle))

/-- An install at an agent: the manifest opens it, segments are kept or relayed, ACTIVATE arms it, the bank switch brings
the shadow bank into force and DISCARD drops it (R103, R104, R105, R109, R112, R115, R398).
The last clauses say, for every operand and every state, which operation gives the next state of each command that they name. -/
def Obligations.AgentInstallComplete : Prop :=
  (∀ (node : Nat) (m : ManifestP) (s : State), s.ga F.AG_INSTALL_STATE node 0 = 0 →
    Yields (.manifest node m) s (fun t => (t.ag node).manifest = some m ∧
      t.ga F.AG_INSTALL_INSTALL_ID node 0 = m.installId % 65536 ∧ t.ga F.AG_INSTALL_KIND node 0 = m.kind % 4 ∧
      t.ga F.AG_INSTALL_SEGMENTS node 0 = m.segments % 256 ∧ t.ga F.AG_ACT_ROUND_ROUND node 0 = m.actRound % 2 ^ 48)) ∧
  (∀ (node : Nat) (seg : Segment) (s : State), seg.crcOk = true → seg.route = [] → seg.target ≠ 0xFFFFFFFF →
    seg.target = s.agNode node → s.ga F.AG_INSTALL_STATE node 0 = 1 → seg.installId = s.ga F.AG_INSTALL_INSTALL_ID node 0 →
    Yields (.tableSegment node seg) s (fun t => t.ga F.AG_INSTALL_MAP_MAP node (seg.index / 64) =
      setBit (s.ga F.AG_INSTALL_MAP_MAP node (seg.index / 64)) (seg.index % 64) true % 2 ^ 64)) ∧
  (∀ (node p : Nat) (rest : List Nat) (seg : Segment) (s : State), seg.crcOk = true → seg.route = p :: rest →
    Yields (.tableSegment node seg) s (fun t => (∃ f ∈ (t.ag node).mgmt, f.port = p ∧ f.order = 6 ∧
      f.out = ⟨.relayed, node, p, [seg.installId, seg.target, seg.index, seg.epoch] ++ rest, seg.payload⟩) ∧
      Frame [] [] [.agents] s t)) ∧
  (∀ (node : Nat) (f : ActivateP) (s : State), s.ga F.AG_INSTALL_STATE node 0 = 2 →
    f.installId = s.ga F.AG_INSTALL_INSTALL_ID node 0 → f.discard = false → s.round < f.round →
    Yields (.activateFrame node f) s (fun t => t.ga F.AG_INSTALL_STATE node 0 = 4 ∧
      t.ga F.AG_ACT_ROUND_ROUND node 0 = f.round % 2 ^ 48 ∧ (t.ag node).hold = f.held ∧ (t.ag node).fence = f.fence)) ∧
  (∀ (node : Nat) (f : ActivateP) (s : State), f.discard = true → 1 ≤ s.ga F.AG_INSTALL_STATE node 0 →
    s.ga F.AG_INSTALL_STATE node 0 ≤ 3 → f.installId = s.ga F.AG_INSTALL_INSTALL_ID node 0 →
    Yields (.activateDiscard node f) s (fun t => t.ga F.AG_INSTALL_STATE node 0 = 0 ∧ (t.ag node).manifest = none ∧
      (t.ag node).active = (s.ag node).active ∧ ∀ e ∈ (t.ag node).flows, e.active = true ∧ e.shadow = false)) ∧
  (∀ (node : Nat) (s : State), s.ga F.AG_INSTALL_STATE node 0 = 4 → s.ga F.AG_ACT_ROUND_ROUND node 0 ≤ s.round →
    Yields (.bankSwitch node) s (fun t => t.ga F.AG_INSTALL_STATE node 0 = 0 ∧
      (t.ag node).active = (State.holdMerge (s.ag node) s.flowCupola).shadow ∧ (t.ag node).hold = [] ∧
      ∀ e ∈ (t.ag node).flows, e.active = true ∧ e.shadow = false)) ∧
  (∀ (node : Nat) (seg : Segment) (s : State), Yields (.tableSegment node seg) s (fun t => t = (s.tableSegment node seg).settle)) ∧
  (∀ (node : Nat) (a : ActivateP) (s : State), Yields (.activateFrame node a) s (fun t =>
      t = ((s.activateFrame node a).relayActivate node a).settle)) ∧
  (∀ (node : Nat) (a : ActivateP) (s : State), Yields (.activateDiscard node a) s (fun t =>
      t = ((s.activateDiscard node a).relayActivate node a).settle))

/-- An install at Varlor: its start, receipts, phases, commit point and activation (R105, R106, R107, R109, R111, R114,
R115, R117).
The last clauses say, for every operand and every state, which operation gives the next state of each command that they name. -/
def Obligations.InstallCommandsComplete : Prop :=
  (∀ (r : Receipt) (i : Install) (n : Nat) (s : State), s.bell.install = some i → r.crcOk = true → r.installId = i.id →
    s.receiptFrom i r.node = some n → i.kind ≠ 3 →
    Yields (.receipt r) s (fun t => t.gi F.BELL_AGENT_STATE n = r.state % 8 ∧
      t.gi F.BELL_AGENT_REFUSAL n = r.refusal % 256 ∧
      t.rd .BELL_COUNT 0 2 = BitVec.ofNat 64 (sat 64 ((s.rd .BELL_COUNT 0 2).toNat + 1)))) ∧
  (∀ (i : Install) (s : State), s.bell.install = some i → i.phaseEnd ≤ s.round → s.g F.BELL_STATUS_INSTALL_STATE = 1 →
    Yields .installCollectionEnd s (fun t => t.g F.BELL_STATUS_INSTALL_STATE = 2)) ∧
  (∀ (i : Install) (s : State), s.bell.install = some i → i.phaseEnd ≤ s.round → s.g F.BELL_STATUS_INSTALL_STATE = 2 →
    Yields .installCollectionEnd s (fun t => t.g F.BELL_STATUS_INSTALL_STATE =
      if s.g F.BELL_STATUS_PASS < s.passesOf i.kind then 3 else 4)) ∧
  (∀ (i : Install) (s : State), s.bell.install = some i → i.phaseEnd ≤ s.round → s.g F.BELL_STATUS_INSTALL_STATE = 3 →
    s.g F.BELL_STATUS_PASS < 7 →
    Yields .retransmissionPassEnd s (fun t => t.g F.BELL_STATUS_PASS = s.g F.BELL_STATUS_PASS + 1 ∧
      t.g F.BELL_STATUS_INSTALL_STATE = if s.g F.BELL_STATUS_PASS + 1 < s.passesOf i.kind then 3 else 4)) ∧
  (∀ (i : Install) (p : Plan) (s : State), s.bell.install = some i → s.planFor i.kind = some p → i.kind ≠ 3 →
    s.committed = false → s.g F.BELL_ACT_ROUND_ROUND ≠ 0 → s.g F.BELL_ACT_ROUND_ROUND ≤ s.round + 2 →
    (i.kind ≠ 0 ∨ i.tables.code = s.g F.BELL_STATUS_ROUND_CODE) →
    Yields .commitPoint s (fun t => t.g F.BELL_STATUS_INSTALL_STATE = 5 ∧ t.bell.fenceMarks = [] ∧
      t.bell.install = some { i with fenced := (s.commitDecision p i).2.1, held := (s.commitDecision p i).2.2 })) ∧
  (∀ (i : Install) (p : Plan) (s : State), s.bell.install = some i → s.planFor 0 = some p → i.kind = 0 →
    s.committed = false → s.g F.BELL_ACT_ROUND_ROUND ≤ s.round + 4 → p.coordinatorFlag = false → s.shadowing = false →
    Yields .installReportDeadline s (fun t => t.sent = s.sent ++ [⟨.installReport, p.coordinator, 0,
      [if (s.commitDecision p i).1.isEmpty then 1 else 0, (s.commitDecision p i).1.length] ++ (s.commitDecision p i).2.2, []⟩])) ∧
  (∀ (spire n : Nat) (ok : Bool) (held : List Nat) (s : State), Yields (.installPeerReport spire ok n held) s (fun t =>
      t.bell.peerReports = s.bell.peerReports.filter (fun r => r.1 != spire) ++ [(spire, ok, held)] ∧
      Frame [] [] [.bell] s t)) ∧
  (∀ (i : Install) (s : State), s.bell.install = some i → s.committed = true → s.g F.BELL_ACT_ROUND_ROUND ≠ 0 →
    s.g F.BELL_ACT_ROUND_ROUND ≤ s.round →
    Yields .installActivation s (fun t => t.b F.BELL_EVENT_INSTALL_DONE = true ∧
      t.bell.recentAt = s.g F.BELL_ACT_ROUND_ROUND ∧
      t.rd .BELL_COUNT 0 3 = BitVec.ofNat 64 (sat 64 ((s.rd .BELL_COUNT 0 3).toNat + 1)))) ∧
  (∀ (p : Plan) (s : State), s.plan.cur = some p → s.planFor 2 = some p → s.bell.completionDue = true →
    s.installing = false → s.b F.BELL_STATUS_HELD = true → s.bell.recentAt < s.round →
    Yields .completionInstallStart s (fun t => t.g F.BELL_STATUS_INSTALL_STATE = 1 ∧ t.g F.BELL_STATUS_KIND = 2 ∧
      t.bell.completionDue = false ∧ t.installing = true)) ∧
  (∀ (node : Nat) (p : Plan) (s : State), s.planFor 3 = some p → s.installing = false → node ∈ s.bell.single →
    Yields (.singleAgentInstallStart node) s (fun t => t.g F.BELL_STATUS_INSTALL_STATE = 1 ∧ t.g F.BELL_STATUS_KIND = 3 ∧
      t.g F.BELL_STATUS_INSTALL_ID = (s.g F.BELL_STATUS_INSTALL_ID + 1) % 65536 ∧ node ∉ t.bell.single)) ∧
  (∀ (p : Plan) (s : State), s.plan.cur = some p → s.planFor 2 = some p → s.heldCupolas ≠ [] → s.installing = false →
    Yields .retryHeld s (fun t => t.g F.BELL_STATUS_INSTALL_STATE = 1 ∧ t.g F.BELL_STATUS_KIND = 2 ∧
      t.answer.status = Status.ok)) ∧
  (∀ (r : Receipt) (i : Install) (n : Nat) (s : State), s.bell.install = some i → r.crcOk = true → r.installId = i.id →
    s.receiptFrom i r.node = some n → i.kind = 3 → r.state = 2 → s.g F.BELL_ACT_ROUND_ROUND = 0 →
    Yields (.receipt r) s (fun t => t.g F.BELL_ACT_ROUND_ROUND = (s.round + 2) % 2 ^ 48 ∧ t.g F.BELL_STATUS_INSTALL_STATE = 5)) ∧
  (∀ s : State, Yields .retryHeld s (fun t => t = s.retryHeld.settle)) ∧
  (∀ (r : Receipt) (s : State), Yields (.receipt r) s (fun t =>
      t = (if s.installing then s.receipt r else s.after (s.tableReceipt r)).settle)) ∧
  (∀ s : State, Yields .retransmissionPassEnd s (fun t => t = (if s.installing then s.passEnd else s.after s.tablePass).settle)) ∧
  (∀ s : State, Yields .commitPoint s (fun t => t = s.commitPoint.settle)) ∧
  (∀ s : State, Yields .installReportDeadline s (fun t => t = s.reportDeadline.settle)) ∧
  (∀ s : State, Yields .installActivation s (fun t => t = (s.after s.installActivation).settle)) ∧
  (∀ s : State, Yields .completionInstallStart s (fun t => t = s.completionInstallStart.settle))

/-- An agent's domains: its resets, its element's compute state, and the resets that Varlor grants (R147, R148, R379, R380,
R386, R392, R406). -/
def Obligations.AgentDomainsComplete : Prop :=
  (∀ (node kind : Nat) (s : State),
    Yields (.linkDomainReset node kind) s (fun t => t.ga F.AG_NODE_NODE node 0 = 0xFFFFFFFF ∧
      t.ga F.AG_INSTALL_STATE node 0 = 0 ∧ t.ga F.AG_STATUS_PORTS_UP node 0 = 0 ∧ (t.ag node).flows = [] ∧
      (t.ag node).keys = [] ∧ (t.ag node).queue = [])) ∧
  (∀ (node : Nat) (s : State), Yields (.linkDomainWatchdog node) s (fun t => t.ga F.AG_STATUS_WATCHDOG node 0 = 1 ∧
      t.ga F.AG_NODE_NODE node 0 = 0xFFFFFFFF ∧ (t.ag node).flows = [])) ∧
  (∀ (node : Nat) (s : State), s.ga F.AG_IDENT_KIND node 0 ≠ 2 →
    Yields (.computeFatal node) s (fun t =>
      t.ga F.AG_FAULT_CAUSE node 0 = Cause.computeFault ∧ t.ga F.AG_FAULT_PORT node 0 = 0xFF ∧
      Frame [] [(F.AG_FAULT_CAUSE, node, 0), (F.AG_FAULT_PORT, node, 0), (F.AG_FAULT_FLOW, node, 0),
        (F.AG_FAULT_CUPOLA, node, 0), (F.AG_FAULT_COUNT, node, 0)] [.agents] s t)) ∧
  (∀ (node : Nat) (fatal : Bool) (s : State), s.ga F.AG_IDENT_KIND node 0 ≠ 2 →
    Yields (.computeInReset node fatal) s (fun t =>
      t.ga F.AG_STATUS_COMPUTE_RESET node 0 = 1 ∧ t.ga F.AG_STATUS_COMPUTE_UP node 0 = 0 ∧
      t.ga F.AG_EPOCH_ELEMENT node 0 = (s.ga F.AG_EPOCH_ELEMENT node 0 + 1) % 256 ∧ (t.ag node).granted = false)) ∧
  (∀ (node usable designed : Nat) (s : State), s.ga F.AG_IDENT_KIND node 0 ≠ 2 →
    Yields (.computeUp node usable designed) s (fun t =>
      t.ga F.AG_STATUS_COMPUTE_RESET node 0 = 0 ∧ t.ga F.AG_STATUS_COMPUTE_UP node 0 = 1 ∧
      t.ga F.AG_CENSUS_USABLE node 0 = usable % 2 ^ 32 ∧ t.ga F.AG_CENSUS_DESIGNED node 0 = designed % 2 ^ 32)) ∧
  (∀ (node : Nat) (s : State), Yields (.grantComputeReset node) s (fun t => (t.ag node).granted = true ∧
      t.sent = s.sent ++ [⟨.computeReset, node, 0, [], []⟩] ∧ Frame [] [] [.agents, .sent] s t)) ∧
  (∀ (node : Nat) (s : State), Yields (.grantFullReset node) s (fun t => (t.ag node).fullAt = some (s.round + 1) ∧
      t.answer.status = Status.ok ∧ Frame [] [] [.agents, .answer] s t))

/-- The agent registers that Varlor writes: filters, tree mask and allowances wait for a round boundary, the others act at
once (R79, R113, R396, R400, R407, R408).
The last clauses say, for every operand and every state, which operation gives the next state of filterActivation. -/
def Obligations.AgentRegistersComplete : Prop :=
  (∀ (node i : Nat) (v : Word) (s : State), i < 64 →
    (getBits v 48 16 = 0 ∨ ∀ j < 64, j ≠ i → getBits (s.filterWord node j) 48 16 ≠ getBits v 48 16) →
    Yields (.agFilterWrite node i v) s (fun t => (t.ag node).filterNext = (s.ag node).filterNext ++ [(i, v, s.round)] ∧
      t.answer.status = Status.ok ∧ Frame [] [] [.agents, .answer] s t)) ∧
  (∀ (node i : Nat) (v : Word) (r : Nat) (s : State), (s.ag node).filterNext = [(i, v, r)] → r < s.round →
    getBits v 48 16 ≠ 0 → Yields (.filterActivation node) s (fun t => t.rd .AG_FILTER node i = v ∧
      (t.ag node).filterNext = [] ∧ Frame [] [(whole .AG_FILTER, node, i)] [.agents] s t)) ∧
  (∀ (node : Nat) (v : Word) (s : State), Yields (.agTreeWrite node v) s (fun t => (t.ag node).treeNext = some v ∧
      Frame [] [] [.agents] s t)) ∧
  (∀ (node : Nat) (v : Word) (s : State), Yields (.agAllowWrite node v) s (fun t => (t.ag node).allowNext = some v ∧
      Frame [] [] [.agents] s t)) ∧
  (∀ (node : Nat) (v : Word) (s : State), getBits v 0 1 = 1 → Yields (.agCfgCoarse node v) s (fun t =>
      t.ga F.AG_CFG_COARSE node 0 = 1 ∧ t.ga F.AG_STATUS_COARSE node 0 = 1 ∧
      Frame [] [(F.AG_CFG_COARSE, node, 0), (F.AG_STATUS_COARSE, node, 0)] [] s t)) ∧
  (∀ (node : Nat) (v : Word) (s : State), getBits v 0 1 = 0 → Yields (.agCfgCoarse node v) s (fun t =>
      Frame [] [] [] s t)) ∧
  (∀ (node : Nat) (s : State), Yields (.agTblWordAdvance node) s (fun t =>
      t.ga F.AG_TBL_SEL_PAGE node 0 = (s.ga F.AG_TBL_SEL_PAGE node 0 + 1) % 65536 ∧
      Frame [] [(F.AG_TBL_SEL_PAGE, node, 0)] [] s t)) ∧
  (∀ (node port : Nat) (dark : Bool) (s : State), Yields (.agPortDarkWrite node port dark) s (fun t =>
      t.ga F.AG_PORT_CFG_DARK node port = (if dark then 1 else 0) ∧
      Frame [] [(F.AG_PORT_CFG_DARK, node, port), (F.AG_PORT_STATE, node, port)] [.sent] s t)) ∧
  (∀ (node : Nat) (s : State), Yields (.filterActivation node) s (fun t => t = (s.filterActivation node).settle))

/-- An agent's keys: a submitted key-slot write loads a slot, orders a promotion or retires a group; a next role is promoted
at its round or by the transmitter; a retired cupola is remembered for 64 rounds (R353, R401, R402, R404).
The last clauses say, for every operand and every state, which operation gives the next state of keySlotWrite, keyPromote. -/
def Obligations.AgentKeysComplete : Prop :=
  (∀ (node : Nat) (w : Word) (key : Bytes) (s : State), s.keyOpened node = some key → s.ga F.AG_IDENT_KEY_PROG node 0 = 1 →
    (s.ag node).keyCounter < field (s.keyPayload node w) 0x14 8 → s.keyTimely (field (s.keyPayload node w) 0x14 8) = true →
    field (s.keyPayload node w) 0 1 = 1 → 64 ≤ field (s.keyPayload node w) 1 1 → field (s.keyPayload node w) 1 1 < 128 →
    field (s.keyPayload node w) 1 1 % 4 ≠ 1 → s.keyLoaded node (field (s.keyPayload node w) 1 1) = false →
    Yields (.keySlotWrite node w) s (fun t => t.keyLoaded node (field (s.keyPayload node w) 1 1) = true ∧
      t.keyEpoch node (field (s.keyPayload node w) 1 1) = field (s.keyPayload node w) 4 4 % 2 ^ 32 ∧
      (∃ k ∈ (t.ag node).loaded, k.slot = field (s.keyPayload node w) 1 1 ∧ k.key = key) ∧
      t.answer.status = Status.ok)) ∧
  (∀ (node slot r : Nat) (k : KeySlot) (s : State), slot % 4 = 1 → (s.ag node).keys.find? (fun k => k.slot == slot) = some k →
    k.promoteAt = some r → r ≤ s.round → s.keyLoaded node slot = true →
    Yields (.keyPromote node slot) s (fun t => t.keyLoaded node (slot - 1) = true ∧
      t.keyEpoch node (slot - 1) = s.keyEpoch node slot ∧ t.keyLoaded node slot = false)) ∧
  (∀ (node port : Nat) (s : State), s.hopStalled node port = true → s.keyLoaded node (64 + 4 * port + 1) = true →
    Yields (.hopRekey node port) s (fun t => t.keyEpoch node (64 + 4 * port) = s.keyEpoch node (64 + 4 * port + 1) ∧
      t.keyLoaded node (64 + 4 * port + 1) = false ∧ t.ga F.AG_PORT_CFG_FORCE_REKEY node port = 0)) ∧
  (∀ (node port : Nat) (s : State), s.keyLoaded node (64 + 4 * port + 1) = true →
    Yields (.forceRekey node port) s (fun t => t.keyEpoch node (64 + 4 * port) = s.keyEpoch node (64 + 4 * port + 1) ∧
      t.keyLoaded node (64 + 4 * port + 1) = false ∧ t.ga F.AG_PORT_CFG_FORCE_REKEY node port = 0)) ∧
  (∀ (node port : Nat) (s : State), s.keyLoaded node (64 + 4 * port + 1) = false →
    Yields (.forceRekey node port) s (fun t => t.ga F.AG_PORT_CFG_FORCE_REKEY node port = 1 ∧
      t.ga F.AG_EVENT_REKEY_STALL node 0 = 1 ∧ t.b F.KEY_EVENT_REKEY_STALL = true)) ∧
  (∀ (node cupola : Nat) (s : State), Yields (.lateMemoryExpiry node cupola) s (fun t =>
      (t.ag node).late = (s.ag node).late.filter (fun e => !(e.1 == cupola && decide (e.2 + 64 ≤ s.round))) ∧
      Frame [] [] [.agents] s t)) ∧
  (∀ (node : Nat) (word : Word) (s : State), Yields (.keySlotWrite node word) s (fun t => t = (s.keySlotWrite node word).settle)) ∧
  (∀ (node slot : Nat) (s : State), Yields (.keyPromote node slot) s (fun t => t = (s.keyPromote node slot).settle)) ∧
  (∀ (node : Nat) (w : Word) (s : State), (s.keyOpened node).isNone = true → Yields (.keySlotWrite node w) s (fun t =>
      t.answer.status = Status.value ∧ t.ga F.AG_EVENT_KEY_REFUSED node 0 = 1 ∧ (t.ag node).loaded = (s.ag node).loaded))

/-- Carving a cupola: accepted, started, written, confirmed, ACTIVE at its carve round, or failed with its code and VACANT
again (R120, R121, R125, Table 5.1).
The entry of a filter is the lowest free one (log entry 95).
The last clauses say, for every operand and every state, which operation gives the next state of each command that they name. -/
def Obligations.CarveCommandsComplete : Prop :=
  (∀ (c job : Nat) (tpl : TplRec) (s : State), s.template c = some tpl → s.cupState c = CState.vacant →
    c ∉ s.heldCupolas → s.templateUse tpl < tpl.limit → s.cupOps < 32 → s.carvePolicy tpl job = false →
    Yields (.carve c job) s (fun t => t.cupState c = CState.carving ∧ t.gi F.CUP_JOB_JOB c = job % 2 ^ 32 ∧
      t.answer.status = Status.ok ∧ t.cup.carves = s.cup.carves ++ [⟨c, job, s.g F.CUP_NONCE_NONCE, s.round,
        if s.arrayHeld then none else some s.round, s.clearOfInstall (s.round + 4), [], [], false⟩])) ∧
  (∀ (c : Nat) (x : Carve) (s : State), s.carveOf c = some x → x.start = none → s.arrayHeld = false →
    Yields (.carveStart c) s (fun t => ∃ y ∈ t.cup.carves, y.cupola = c ∧ y.start = some s.round ∧
      y.round = s.clearOfInstall (s.round + 4))) ∧
  (∀ (c : Nat) (x : Carve) (s : State), s.carveOf c = some x → x.start = none → x.accepted + 8 ≤ s.round + 1 →
    Yields (.carveWaitExpiry c) s (fun t => t.cupState c = CState.vacant ∧ t.g F.CUP_ERR_CODE = CErr.busy ∧
      t.b F.CUP_EVENT_REFUSED = true ∧ ∀ y ∈ t.cup.carves, y.cupola ≠ c)) ∧
  (∀ (c q : Nat) (x : Carve) (s : State), s.carveOf c = some x → x.start = some q → q + 1 ≤ s.round → x.nodes = [] →
    Yields (.carveFilterWrite c) s (fun t => ∃ y ∈ t.cup.carves, y.cupola = c ∧
      y.nodes = (s.tables.membersOf c).map localOf ∧ y.unconfirmed = y.nodes)) ∧
  (∀ (c n i : Nat) (x : Carve) (s : State), s.carveOf c = some x → x.unconfirmed = [n] → s.filterIndex n c = some i →
    s.key.jobs = [] → s.shadowing = false →
    Yields (.carveRewrite c) s (fun t => t.sent = s.sent ++
      [⟨.access, n, Reg.AG_FILTER.base + 8 * i, [x.round % 2 ^ 48 + c * 2 ^ 48], []⟩])) ∧
  (∀ (c n : Nat) (x : Carve) (s : State), s.carveOf c = some x →
    Yields (.filterConfirm c n false) s (fun t => (∀ y ∈ t.cup.carves, y.cupola = c → n ∉ y.unconfirmed) ∧
      Frame [] [] [.cup] s t)) ∧
  (∀ (c : Nat) (x : Carve) (s : State), s.carveOf c = some x → x.start ≠ none → x.round ≤ s.round + 1 →
    x.unconfirmed ≠ [] →
    Yields (.carveConfirmDeadline c) s (fun t => t.cupState c = CState.vacant ∧ t.g F.CUP_ERR_CODE = CErr.unconfirmed ∧
      t.b F.CUP_EVENT_REFUSED = true ∧ ∀ y ∈ t.cup.carves, y.cupola ≠ c)) ∧
  (∀ (c : Nat) (x : Carve) (s : State), s.carveOf c = some x → x.start ≠ none → x.round ≤ s.round → x.failed = false →
    x.unconfirmed = [] →
    Yields (.carveRound c) s (fun t => t.b F.CUP_EVENT_CARVED = true ∧ (∀ y ∈ t.cup.carves, y.cupola ≠ c) ∧
      (t.cupState c = CState.active ∨ t.cupState c = CState.repairing))) ∧
  (∀ (cupola job : Nat) (s : State), Yields (.carve cupola job) s (fun t => t = (s.carve cupola job).settle)) ∧
  (∀ (cupola : Nat) (s : State), Yields (.carveFilterWrite cupola) s (fun t => t = (s.carveFilterWrite cupola).settle)) ∧
  (∀ (cupola : Nat) (s : State), Yields (.carveRewrite cupola) s (fun t => t = (s.carveRewrite cupola).settle)) ∧
  (∀ (cupola : Nat) (s : State), Yields (.carveConfirmDeadline cupola) s (fun t => t = (s.carveConfirmDeadline cupola).settle)) ∧
  (∀ (cupola : Nat) (s : State), Yields (.carveRound cupola) s (fun t => t = (s.carveRound cupola).settle))

/-- Retiring a cupola: accepted, admission stopped, drained, its filters cleared and VACANT after the retire round; a retry
of the repair starts a re-solve (R124, R146). -/
def Obligations.RetireCommandsComplete : Prop :=
  (∀ (c : Nat) (s : State), (s.cupState c = CState.active ∨ s.cupState c = CState.repairing ∨ s.cupState c = CState.held) →
    s.retireOf c = none → s.cupOps < 32 →
    Yields (.retire c 0) s (fun t => t.answer.status = Status.ok ∧ ∃ r ∈ t.cup.retires, r.cupola = c ∧ r.accepted = s.round ∧
      r.stopped = false)) ∧
  (∀ (c : Nat) (x : Retire) (s : State), s.retireOf c = some x → x.stopped = false → x.accepted + 1 ≤ s.round →
    Yields (.retireAdmissionStop c) s (fun t => t.cupState c = CState.retiring ∧
      ∀ y ∈ t.cup.retires, y.cupola = c → y.stopped = true)) ∧
  (∀ (c : Nat) (x : Retire) (s : State), s.retireOf c = some x → x.drained = false →
    x.accepted + 1 + x.bound ≤ s.round →
    Yields (.retireDrainEnd c) s (fun t => ∀ y ∈ t.cup.retires, y.cupola = c → y.drained = true)) ∧
  (∀ (c : Nat) (x : Retire) (s : State), s.retireOf c = some x → x.cleared = false → x.round ≤ s.round →
    Yields (.retireRound c) s (fun t => (∀ y ∈ t.cup.retires, y.cupola = c → y.cleared = true) ∧
      (∀ e ∈ t.cup.filters, e.1 ≠ c) ∧ ∀ j ∈ t.key.jobs, j.cupola ≠ c)) ∧
  (∀ (c : Nat) (x : Retire) (s : State), s.retireOf c = some x → x.cleared = true → x.round + 1 ≤ s.round →
    Yields (.retireVacant c) s (fun t => t.cupState c = CState.vacant ∧ t.gi F.CUP_JOB_JOB c = 0 ∧
      t.b F.CUP_EVENT_RETIRED = true ∧ ∀ y ∈ t.cup.retires, y.cupola ≠ c)) ∧
  (∀ s : State, s.retryCupolas ≠ [] → s.g F.REP_STATUS_ENGINE = Eng.idle →
    Yields .retryRepair s (fun t => t.g F.REP_STATUS_ENGINE = Eng.resolving ∧ t.answer.status = Status.ok ∧
      t.rep = { s.rep with retryDue := false } ∧ t.rd .CUP_ERR 0 0 = 0 ∧
      Frame [F.REP_STATUS_ENGINE, whole .CUP_ERR] [] [.rep, .answer] s t))

/-- Failure detection: heartbeats and notices are kept, a silent element becomes a suspect and then failed, the rest of the
fabric is told and the tree is written anew (R126, R128, R129, R130, R131).
The last clauses say, for every operand and every state, which operation gives the next state of each command that they name. -/
def Obligations.FailureCommandsComplete : Prop :=
  (∀ (hb : Heartbeat) (n : Nat) (s : State), hb.crcOk = true → s.senderNode hb.node = some n →
    s.missedActivate n hb = false → s.rep.reread ≠ some s.round →
    Yields (.heartbeatReceive hb) s (fun t => n ∈ t.rep.heard ∧ (n, hb.epoch, hb.portsUp, hb.installState) ∈ t.rep.beats ∧
      Frame [] [] [.rep] s t)) ∧
  (∀ (x : Notice) (n : Nat) (s : State), s.senderNode x.node = some n → x.cause = Cause.unknownFlow →
    Yields (.faultNotice x) s (fun t => t.b F.BELL_EVENT_UNKNOWN_FLOW = true ∧
      t.rd .BELL_COUNT 0 7 = BitVec.ofNat 64 (sat 64 ((s.rd .BELL_COUNT 0 7).toNat + 1)))) ∧
  (∀ (x : Notice) (n : Nat) (s : State), s.senderNode x.node = some n → x.cause = Cause.computeFault →
    Yields (.faultNotice x) s (fun t => (n, 255, Cause.computeFault) ∈ t.rep.notices ∧ Frame [] [] [.rep] s t)) ∧
  (∀ (n : Nat) (p : Plan) (s : State), s.plan.cur = some p → s.rep.notices = [] → s.silentNow = [n] →
    s.knownFault n 255 = false → s.g F.REP_STATUS_ENGINE = Eng.idle →
    Yields .failureDetection s (fun t => t.b F.REP_EVENT_FAULT = true ∧ t.g F.REP_STATUS_ENGINE = Eng.classifying ∧
      ∃ f ∈ t.rep.suspects, f.node = n ∧ f.port = 255 ∧ f.d = s.round)) ∧
  (∀ (f : Failure) (p : Plan) (s : State), s.plan.cur = some p → s.rep.suspects = [f] → s.rep.declared = [] →
    f.d + 1 + s.slowRounds ≤ s.round → f.port = 255 → s.silent f.node = true → s.parentLost f.node = false →
    Yields .failureClassification s (fun t => f.node ∈ t.rep.failedNodes ∧ t.rep.suspects = [] ∧
      ∃ g ∈ t.rep.queued, g.node = f.node ∧ g.port = 255 ∧ g.cls = 1)) ∧
  (∀ (n : Nat) (s : State), n ∈ s.boundNodes → s.shadowing = false → Yields .installTreeRebuild s (fun t =>
      ∃ e ∈ t.sent, e.kind = .access ∧ e.a = n ∧ e.b = Reg.AG_TREE.base)) ∧
  (∀ (f : Failure) (p : Plan) (s : State), s.plan.cur = some p → s.rep.deferred = [f] →
    f.d + 3 + s.slowRounds ≤ s.round → f.port = 255 → s.silent f.node = true →
    Yields .deferredClassification s (fun t => f.node ∈ t.rep.failedNodes ∧ t.rep.deferred = [])) ∧
  (∀ (logical n : Nat) (s : State), s.senderNode logical = some n → s.placedAt n = true →
    Yields (.failNode logical) s (fun t => n ∈ t.rep.declared ∧ t.answer.status = Status.ok ∧
      Frame [] [] [.rep, .answer] s t)) ∧
  (∀ s : State, Yields .flapHoldClear s (fun t => t.rep.flapHeld = [] ∧ t.rep.flaps = [] ∧
      t.b F.REP_EVENT_FLAP_HOLD = false)) ∧
  (∀ (hb : Heartbeat) (s : State), Yields (.heartbeatReceive hb) s (fun t => t = ((s.heartbeatReceive hb).rereadPorts hb).settle)) ∧
  (∀ s : State, Yields .failureDetection s (fun t => t = s.failureDetection.settle)) ∧
  (∀ s : State, Yields .failureClassification s (fun t => t = (s.after s.failureClassification).settle)) ∧
  (∀ s : State, Yields .deferredClassification s (fun t => t = (s.after s.deferredClassification).settle))

/-- The repair engine: a batch that no variant serves is re-solved, a chosen repair is installed, a failed re-solve is
reported; and the resets of an element, granted, rerouted or cancelled (R134, R135, R137, R147, R148, Table 5.6).
The last clauses say, for every operand and every state, which operation gives the next state of repairSelect. -/
def Obligations.RepairCommandsComplete : Prop :=
  (∀ (f g : Failure) (p : Plan) (s : State), s.plan.cur = some p → s.bell.install = none → s.rep.chosen = none →
    s.g F.REP_STATUS_ENGINE = Eng.selecting → s.rep.queued = [f, g] → s.asksRepair p f = true → s.asksRepair p g = true →
    Yields .repairSelect s (fun t => t.g F.REP_STATUS_ENGINE = Eng.resolving ∧ t.rep.batch = [f, g] ∧ t.rep.queued = [] ∧
      Frame [F.REP_STATUS_ENGINE] [] [.rep] s t)) ∧
  (∀ (r : Repair) (p : Plan) (s : State), s.rep.chosen = some r → s.planFor 1 = some p → s.installing = false →
    Yields .repairInstallStart s (fun t => t.g F.BELL_STATUS_INSTALL_STATE = 1 ∧ t.g F.BELL_STATUS_KIND = 1 ∧
      t.installing = true)) ∧
  (∀ (us : Nat) (p : Plan) (s : State), s.plan.cur = some p → s.g F.REP_STATUS_ENGINE = Eng.resolving →
    Yields (.resolveComplete none us) s (fun t => t.b F.REP_EVENT_RESOLVE_FAILED = true ∧
      t.g F.REP_EST_RESOLVE_US = us % 2 ^ 32)) ∧
  (∀ (logical n : Nat) (s : State), s.resettable logical = some n → s.resetBusy = false → s.isMember n = false →
    Yields (.resetCompute logical) s (fun t => t.g F.REP_RESET_STATE = RReset.granted ∧ t.b F.REP_EVENT_RESET_GRANTED = true ∧
      t.g F.REP_RESET_NODE = logical % 2 ^ 32 ∧ t.answer.status = Status.ok)) ∧
  (∀ (logical n : Nat) (s : State), s.resettable logical = some n → s.resetBusy = false → s.isMember n = false →
    Yields (.resetFull logical) s (fun t => t.g F.REP_RESET_STATE = RReset.rerouting ∧ t.rep.resetNode = some n ∧
      t.g F.REP_RESET_FULL = 1 ∧ t.answer.status = Status.ok)) ∧
  (∀ (n : Nat) (s : State), s.rep.resetNode = some n → s.g F.REP_RESET_STATE = RReset.draining →
    (∀ m ∈ s.boundNodes, m ∉ s.rep.failedNodes → ∃ b ∈ s.rep.beats, b.1 = m ∧ b.2.1 = s.tables.epoch) →
    Yields .resetGrant s (fun t => t.g F.REP_RESET_STATE = RReset.granted ∧ t.rep.resetNode = none ∧
      t.b F.REP_EVENT_RESET_GRANTED = true)) ∧
  (∀ s : State, s.g F.REP_RESET_STATE = RReset.rerouting → s.rep.chosen = none →
    Yields .repCancelReset s (fun t => t.g F.REP_RESET_STATE = RReset.cancelled ∧ t.rep.resetNode = none ∧
      t.answer.status = Status.ok)) ∧
  (∀ s : State, Yields .repairSelect s (fun t => t = s.repairSelect.settle))

/-- The guardian's items: a delta that the group admits is folded and the step is in INGEST; an END closes its member, a
sample, a shard or an undo copy that was asked for joins its group (R155, R158, R160, R161, R166, R171, R178, R238).
The last clauses say, for every operand and every state, which operation gives the next state of each command that they name. -/
def Obligations.GuardianItemsComplete : Prop :=
  (∀ (it : GItem) (g : Group) (s : State), headerOk GType.delta it = true → s.group it.group = some g → State.deltaFormed g it = true →
    it.rollback = false → it.resent = false → s.deltaAdmitted g it = true → crc64 it.payload = it.check →
    s.gphase g.gid = GPhase.quiet → g.regions = [] → g.ends = [] → g.progress = [] → g.held = [] →
    it.offset + it.payload.length ≤ g.rcd.region → s.graph.tasks = [] → s.graph.ring = [] → s.plan.cur = none →
    Yields (.delta it) s (fun t => t.gphase g.gid = GPhase.ingest ∧
      t.rd .GRD_COUNT 0 0 = BitVec.ofNat 64 (sat 64 ((s.rd .GRD_COUNT 0 0).toNat + 1)) ∧
      t.group it.group = some { g.foldDelta it.member it.offset it.payload with
        bytes := g.bytes + it.payload.length
        items := setKey g.items it.member (lookupD g.items it.member 0 + 1)
        progress := [(it.member, it.offset + it.payload.length)] })) ∧
  (∀ (it : GItem) (g : Group) (s : State), headerOk GType.gend it = true → s.group it.group = some g → it.member < g.rcd.k →
    it.rollback = false → g.words = [] → it.step = s.recovery g.gid + 1 → s.gphase g.gid = GPhase.ingest →
    s.gstate g.gid = GState.protectedS → (s.lostOf g).contains it.member = false → g.ends = [] → 2 ≤ g.rcd.k →
    s.graph.tasks = [] → s.graph.ring = [] →
    Yields (.gend it) s (fun t =>
      t.gi F.GRD_GROUP_PROG_ENDS g.gid = setBit (s.gi F.GRD_GROUP_PROG_ENDS g.gid) it.member true % 2 ^ F.GRD_GROUP_PROG_ENDS.len)) ∧
  (∀ (it : GItem) (g : Group) (r : TensorRec) (f : Fmt) (s : State), headerOk GType.sample it = true → s.group it.group = some g →
    s.tensorRec g.gid it.member it.tensor = some r → r.flags / 2 % 2 = 1 → Fmt.ofTag r.fmt = some f →
    s.sentinelOn g = true → it.step = s.recovery g.gid + 1 → crc64 it.payload = it.check →
    s.gphase g.gid = GPhase.quiet → g.samples.contains (it.member, it.tensor) = false →
    (s.lostOf g).contains it.member = false → g.statsWait = none →
    Yields (.sample it) s (fun t => ∃ h, t.group it.group = some h ∧ (it.member, it.tensor) ∈ h.samples)) ∧
  (∀ (it : GItem) (g : Group) (s : State), headerOk GType.shard it = true → s.group it.group = some g →
    State.outstanding g it.member GWord.sendShard = true → it.step = s.recovery g.gid → 0 < it.payload.length →
    it.offset + it.payload.length ≤ g.rcd.shard → it.resent = false → crc64 it.payload = it.check →
    s.gphase g.gid = GPhase.quiet → s.graph.tasks = [] → s.graph.ring = [] →
    Yields (.shard it) s (fun t => ∃ h, t.group it.group = some h ∧ it ∈ h.shards)) ∧
  (∀ (it : GItem) (g : Group) (w : Nat) (s : State), headerOk GType.undo it = true → s.group it.group = some g →
    State.outstanding g it.member GWord.sendUndo = true → g.rollW = some w → g.regionOf it.offset < w →
    it.offset % max 1 g.rcd.region = 0 → it.payload.length = g.span (g.regionOf it.offset) →
    it.step = s.recovery g.gid + 1 → it.resent = false → crc64 it.payload = it.check →
    (∃ i ∈ s.survivors g, i ∉ g.rollEnds) →
    Yields (.undo it) s (fun t => ∃ h, t.group it.group = some h ∧ ∃ e ∈ h.undoCopies, e.1 = g.regionOf it.offset)) ∧
  (∀ (it : GItem) (s : State), Yields (.delta it) s (fun t => t = (s.after ((s.delta it).cutExports it.group)).settle)) ∧
  (∀ (it : GItem) (s : State), Yields (.gend it) s (fun t => t = (s.after (s.endItem it)).settle)) ∧
  (∀ (it : GItem) (s : State), Yields (.sample it) s (fun t => t = (s.sampleItem it).settle)) ∧
  (∀ (it : GItem) (s : State), Yields (.shard it) s (fun t => t = (s.after (s.shardItem it)).settle)) ∧
  (∀ (it : GItem) (s : State), Yields (.undo it) s (fun t => t = (s.undoItem it).settle))

/-- Regions and lanes of the guardian: a written region moves the watermark, an acknowledged lent lane is waited for no
longer, a peer's accumulation joins its lent block and is acknowledged, a lost lane is reported and regenerated, and a group
switches to direct folding (R161, R164, R165, R184, R185).
The last clauses say, for every operand and every state, which operation gives the next state of directFoldSwitch. -/
def Obligations.GuardianLanesComplete : Prop :=
  (∀ (gid : Nat) (g : Group) (s : State), s.group gid = some g → (g.buffer (s.watermark gid)).complete = true →
    (g.buffer (s.watermark gid)).written = false →
    Yields (.regionWritten gid (s.watermark gid)) s (fun t =>
      t.gi F.GRD_GROUP_PROG_WATERMARK gid = (s.watermark gid + 1) % 2 ^ F.GRD_GROUP_PROG_WATERMARK.len)) ∧
  (∀ (gid lane r : Nat) (g : Group) (s : State), s.group gid = some g →
    Yields (.lentAck gid lane r) s (fun t => ∃ h, t.group gid = some h ∧
      ∀ b ∈ h.regions, b.region = r → lane ∉ b.lentWait)) ∧
  (∀ (spire gid lane r : Nat) (acc : Bytes) (s : State), s.lends spire gid lane = true → s.shadowing = false →
    Yields (.lendingInAccumulation spire gid lane r acc) s (fun t =>
      (∃ x ∈ t.grd.lentIn, x.spire = spire ∧ x.group = gid ∧ x.lane = lane ∧ x.region = r ∧
        x.block = xorBytes (((s.grd.lentIn.find? (fun y => y.spire == spire && y.group == gid && y.lane == lane
          && y.region == r)).map (·.block)).getD []) acc) ∧
      ∃ e ∈ t.sent, e.kind = .laneAck ∧ e.a = spire ∧ e.b = gid ∧ e.data = [lane, r])) ∧
  (∀ (spire gid lane r : Nat) (x : LentIn) (s : State), s.lends spire gid lane = true → s.shadowing = false →
    s.grd.lentIn.find? (fun y => y.spire == spire && y.group == gid && y.lane == lane && y.region == r) = some x →
    Yields (.lentBlockRequest spire gid lane r) s (fun t =>
      ∃ e ∈ t.sent, e.kind = .laneBlock ∧ e.a = spire ∧ e.b = gid ∧ e.data = [lane, r] ∧ e.bytes = x.block)) ∧
  (∀ (spire gid lane : Nat) (g : Group) (s : State), s.group gid = some g → g.peer lane = some spire → lane ∈ g.current →
    Yields (.laneLossReport spire gid lane) s (fun t => t.b F.GRD_EVENT_LANE_LOST = true ∧ gid ∈ t.grd.regen ∧
      ∃ h, t.group gid = some h ∧ lane ∉ h.current)) ∧
  (∀ (gid : Nat) (g : Group) (s : State), s.grd.directPending = [gid] → s.group gid = some g →
    s.gphase gid = GPhase.quiet → g.rcd.modes / 8 % 2 = 1 →
    Yields .directFoldSwitch s (fun t => t.gi F.GRD_GROUP_DIRECT gid = 1 ∧ t.b F.GRD_EVENT_DIRECT_FOLD = true ∧
      t.grd.directPending = [])) ∧
  (∀ s : State, Yields .directFoldSwitch s (fun t => t = s.directFoldSwitch.settle))

/-- Sealing and its words: a spire's report is kept where the seal is decided, a record advances the journal, an answered
word is posted no more, an unanswered one again, and one that stays unanswered is reported (R167 to R169).
The last clauses say, for every operand and every state, which operation gives the next state of guardianWordRepost. -/
def Obligations.GuardianSealComplete : Prop :=
  (∀ (spire job step : Nat) (groups : List Nat) (s : State), s.decides job = true →
    Yields (.foldedReport spire job step groups false) s (fun t =>
      (⟨spire, job, step, groups, false⟩ : Report) ∈ t.grd.reports)) ∧
  (∀ (job step : Nat) (s : State), s.decides job = false ∨ s.sealDecided job step = true →
    Yields (.sealRecord job step) s (fun t => t.b F.GRD_EVENT_SEALED = true ∧
      t.grd.journal = s.grd.journal ++ [(job, step, s.g F.PLAN_EPOCH_CURRENT)] ∧
      t.rd .GRD_COUNT 0 4 = BitVec.ofNat 64 (sat 64 ((s.rd .GRD_COUNT 0 4).toNat + 1)))) ∧
  (∀ (node step i : Nat) (g : Group) (s : State), s.memberAt node = some (g, i) →
    Yields (.sealAck node step) s (fun t => (∀ h, t.group g.gid = some h →
      ∀ w ∈ h.words, w.type = GWord.sealing → w.member = i → w.payload ≠ step) ∧ Frame [] [] [.grd] s t)) ∧
  (∀ (node step i : Nat) (g : Group) (s : State), s.memberAt node = some (g, i) →
    Yields (.rollbackDone node step) s (fun t => (∀ h, t.group g.gid = some h →
      ∀ w ∈ h.words, w.type = GWord.rollback → w.member = i → w.payload ≠ step) ∧ Frame [] [] [.grd] s t)) ∧
  (∀ (g : Group) (w : OutWord) (s : State), s.grd.groups = [g] → g.words = [w] → w.since < s.round →
    s.outFull Party.agent (s.memberNode g w.member) 1 = false → s.mbx.waiting = [] → s.shadowing = false →
    Yields .guardianWordRepost s (fun t => ∃ e ∈ t.sent, e.kind = .agentWord ∧ e.a = s.memberNode g w.member ∧ e.b = 1 ∧
      e.data = [(mkWord s.epoch w.type w.payload).toNat])) ∧
  (∀ (gid member type : Nat) (g : Group) (w : OutWord) (s : State), s.group gid = some g →
    g.words.find? (fun x => x.type == type && x.member == member && !x.timedOut) = some w →
    w.since + s.g F.GRD_CFG_ACK_LIMIT ≤ s.round →
    Yields (.ackTimeout gid member type) s (fun t => t.b F.GRD_EVENT_ACK_TIMEOUT = true)) ∧
  (∀ s : State, Yields .guardianWordRepost s (fun t => t = s.repostWords.settle))

/-- Rollback: its fold starts, a job is sent back by a member's loss, by the coordinator's order or by command, and a seal's
hold is released (R172, R173, R245).
Two lost members are rolled back as log entry 19 says.
The last clauses say, for every operand and every state, which operation gives the next state of rollbackFoldStart, releaseSeal. -/
def Obligations.GuardianRollbackComplete : Prop :=
  (∀ (gid w : Nat) (g : Group) (s : State), s.group gid = some g → g.rollW = some w → g.rollStarted = false →
    s.groupActive g = true → s.gphase gid = GPhase.rollingBack → State.rollbackPossible g.rcd.k w (s.lostOf g) = true →
    g.rollEnds = [] → s.survivors g ≠ [] →
    Yields (.rollbackFoldStart gid) s (fun t => ∃ h, t.group gid = some h ∧ h.rollStarted = true)) ∧
  (∀ (spire job step : Nat) (s : State), s.decides job = true → s.sealDecided job step = false → 1 ≤ step →
    Yields (.memberLossReport spire job step) s (fun t => t.b F.GRD_EVENT_ROLLBACK = true ∧
      t.rd .GRD_COUNT 0 5 = BitVec.ofNat 64 (sat 64 ((s.rd .GRD_COUNT 0 5).toNat + 1)))) ∧
  (∀ (job p : Nat) (s : State), (s.jobGroups job).any (fun g => s.recovery g.gid == p) = true →
    Yields (.jobRollbackOrder job p) s (fun t => t.b F.GRD_EVENT_ROLLBACK = true ∧
      t.rd .GRD_COUNT 0 5 = BitVec.ofNat 64 (sat 64 ((s.rd .GRD_COUNT 0 5).toNat + 1)))) ∧
  (∀ (g : Group) (s : State), (s.jobGroups (s.g F.GRD_ARG_JOB)).find? (fun g => s.gphase g.gid == GPhase.ingest
      || s.gphase g.gid == GPhase.folded) = some g → s.decides (s.g F.GRD_ARG_JOB) = true →
    s.sealDecided (s.g F.GRD_ARG_JOB) (s.recovery g.gid + 1) = false →
    Yields .rollbackJob s (fun t => t.b F.GRD_EVENT_ROLLBACK = true ∧ t.answer.status = Status.ok ∧
      t.rd .GRD_COUNT 0 5 = BitVec.ofNat 64 (sat 64 ((s.rd .GRD_COUNT 0 5).toNat + 1)))) ∧
  (∀ (step : Nat) (s : State), s.sen.holds = [(s.g F.GRD_ARG_JOB, step)] →
    Yields .releaseSeal s (fun t => t.sen.holds = [] ∧ t.answer.status = Status.ok)) ∧
  (∀ (group : Nat) (s : State), Yields (.rollbackFoldStart group) s (fun t => t = (s.rollbackFoldStart group).settle)) ∧
  (∀ s : State, Yields .releaseSeal s (fun t => t = s.releaseSeal.settle))

/-- Disabling and enabling a group, the end of the wait for statistics, and a cleared suspect mark (R187, R210, R247,
R248).
That a disable settles from round q + 5 on is read from R187 and R209 (log entry 18).
The last clauses say, for every operand and every state, which operation gives the next state of disableGroupSettle. -/
def Obligations.GroupControlComplete : Prop :=
  (∀ (gid : Nat) (g : Group) (s : State), s.group gid = some g → s.gstate gid ≠ GState.disabling →
    s.gstate gid ≠ GState.disabled →
    Yields (.disableGroup gid) s (fun t => t.gstate gid = GState.disabling ∧ t.answer.status = Status.ok ∧
      ∃ h, t.group gid = some h ∧ h.disableAt = some s.round)) ∧
  (∀ (gid q : Nat) (g : Group) (s : State), s.group gid = some g → g.disableAt = some q → s.gstate gid = GState.disabling →
    q + 5 ≤ s.round →
    Yields (.disableGroupSettle gid) s (fun t => t.gstate gid = GState.disabled ∧ t.b F.GRD_EVENT_DISABLED = true ∧
      t.gi F.GRD_GROUP_LANES gid = 0 ∧ ∃ h, t.group gid = some h ∧ h.parity = [] ∧ h.current = [] ∧ h.bound = false)) ∧
  (∀ (gid : Nat) (g : Group) (s : State), s.group gid = some g → s.gstate gid = GState.disabled →
    Yields (.enableGroup gid) s (fun t => t.gstate gid = GState.exposed ∧ t.b F.GRD_EVENT_EXPOSED = true ∧
      t.answer.status = Status.ok)) ∧
  (∀ (gid n : Nat) (g : Group) (s : State), s.group gid = some g → g.statsWait = some n → n ≤ s.round →
    Yields (.statsWaitEnd gid) s (fun t => ∃ h, t.group gid = some h ∧ h.evaluated = true ∧ h.statsWait = none)) ∧
  (∀ s : State, s.g F.SEN_ARG_NODE / 512 = s.spire → localOf (s.g F.SEN_ARG_NODE) < 510 →
    Yields .clearSuspect s (fun t => t.suspect (s.g F.SEN_ARG_NODE) = false ∧ t.answer.status = Status.ok)) ∧
  (∀ (group : Nat) (s : State), Yields (.disableGroupSettle group) s (fun t => t = (s.disableSettle group).settle))
/-- The commands on a free check channel, in a state that Table 9.3 lists for them, move the channel as the table says and
answer OK; a write of CHK_VALUE or CHK_BYTES of an IDLE or SUSPENDED channel stores the value (R254 to R260, R256).
A unit runs the value of a free channel that is ATTACHED and counts its bytes; the odd channel of a port counts an appended value,
the even one a compared value, and one that agrees makes nothing provisional (R252, R254). -/
def Obligations.CheckChannelCommandsComplete : Prop :=
  (∀ (c : Nat) (s : State), freeChannel c = true → s.chkState c = Chan.idle → s.chkLegal c = true →
    Yields (.attach c) s (fun t => t.chkState c = Chan.attached ∧ t.answer.status = Status.ok)) ∧
  (∀ (c : Nat) (s : State), freeChannel c = true → s.chkState c = Chan.attached →
    Yields (.suspend c) s (fun t => t.chkState c = Chan.suspending ∧ t.answer.status = Status.ok ∧
      t.gi F.CHK_VALUE_VALUE c = s.gi F.CHK_VALUE_VALUE c ∧ t.gi F.CHK_BYTES_BYTES c = s.gi F.CHK_BYTES_BYTES c)) ∧
  (∀ (c : Nat) (s : State), freeChannel c = true → s.chkState c = Chan.suspended →
    Yields (.chkResume c) s (fun t => t.chkState c = Chan.attached ∧ t.answer.status = Status.ok ∧
      t.gi F.CHK_VALUE_VALUE c = s.gi F.CHK_VALUE_VALUE c ∧ t.gi F.CHK_BYTES_BYTES c = s.gi F.CHK_BYTES_BYTES c)) ∧
  (∀ (c : Nat) (s : State), freeChannel c = true → (s.chkState c = Chan.attached ∨ s.chkState c = Chan.suspended) →
    Yields (.detach c) s (fun t => t.chkState c = Chan.idle ∧ t.answer.status = Status.ok ∧
      (∀ e ∈ t.chk.claimed, e.1 ≠ c))) ∧
  (∀ (c : Nat) (s : State), freeChannel c = true → s.chkState c < Chan.disabling →
    Yields (.chkDisable c) s (fun t => t.chkState c = Chan.disabling ∧ t.answer.status = Status.ok ∧
      t.graph.disables = s.graph.disables ++ [⟨3, c, s.round, s.chkBound c, false, false⟩])) ∧
  (∀ (c : Nat) (s : State), freeChannel c = true → s.chkState c = Chan.disabled →
    Yields (.chkEnable c) s (fun t => t.chkState c = Chan.idle ∧ t.gi F.CHK_VALUE_VALUE c = 0 ∧
      t.gi F.CHK_BYTES_BYTES c = 0 ∧ t.answer.status = Status.ok)) ∧
  (∀ (c : Nat) (v : Word) (s : State), freeChannel c = true →
    (s.chkState c = Chan.idle ∨ s.chkState c = Chan.suspended) →
    Yields (.chkValueWrite true c v) s (fun t => t.gi F.CHK_BYTES_BYTES c = v.toNat ∧ t.answer.status = Status.ok)) ∧
  (∀ (c : Nat) (v : Word) (s : State), freeChannel c = true →
    (s.chkState c = Chan.idle ∨ s.chkState c = Chan.suspended) → v.toNat < 2 ^ (s.chkPoly c).width →
    Yields (.chkValueWrite false c v) s (fun t => t.gi F.CHK_VALUE_VALUE c = v.toNat ∧ t.answer.status = Status.ok)) ∧
  (∀ (c : Nat) (data : Bytes) (carried : Nat) (p : Option Bool) (rs ns : Bool) (s : State), freeChannel c = true →
    (∀ e ∈ s.chk.claimed, e.1 ≠ c) → s.chkState c = Chan.attached →
    Yields (.checkUnit c data carried p rs ns) s (fun t =>
      t.gi F.CHK_VALUE_VALUE c = (s.chkPoly c).run (s.gi F.CHK_VALUE_VALUE c) data % 2 ^ 64 ∧
      t.gi F.CHK_BYTES_BYTES c = (s.gi F.CHK_BYTES_BYTES c + data.length) % 2 ^ 64 ∧
      t.chkState c = Chan.attached)) ∧
  (∀ (c : Nat) (data : Bytes) (carried : Nat) (p : Option Bool) (rs ns : Bool) (s : State), c < 96 → c % 2 = 1 →
    s.chkState c = Chan.attached →
    Yields (.checkUnit c data carried p rs ns) s (fun t =>
      t.rd .CHK_COUNT 0 6 = BitVec.ofNat 64 (sat 64 ((s.rd .CHK_COUNT 0 6).toNat + 1)) ∧
      Frame [] [(F.CHK_VALUE_VALUE, 0, c), (F.CHK_BYTES_BYTES, 0, c), (whole .CHK_COUNT, 0, 6)] [] s t)) ∧
  (∀ (c : Nat) (data : Bytes) (carried : Nat) (p : Option Bool) (rs ns : Bool) (s : State), c < 96 → c % 2 = 0 →
    s.chkState c = Chan.attached → (s.chkPoly c).check data = carried → (∀ x ∈ s.chk.provisional, x.channel ≠ c) →
    Yields (.checkUnit c data carried p rs ns) s (fun t =>
      t.rd .CHK_COUNT 0 0 = BitVec.ofNat 64 (sat 64 ((s.rd .CHK_COUNT 0 0).toNat + 1)) ∧
      t.chk.provisional = s.chk.provisional))

/-- Tasks: a ready FOLD starts and is counted, a window that closes ends what has not started, a stopped task ends with its
cause, a cancelled one CANCELLED, and the word of a NOTIFY is posted (R195, R196, R198, R203, R208, R224).
The last clauses say, for every operand and every state, which operation gives the next state of each command that they name. -/
def Obligations.TaskCommandsComplete : Prop :=
  (∀ (idx : Nat) (x : Task) (s : State), s.task idx = some x → x.unstarted = true → x.ready = true →
    x.isOpen s.round = true → s.engineStopped = false → s.g F.KEY_STATUS_REMOVE_STEP = 0 → x.cupola = 0 →
    s.portOff x.flow = none → x.kind = Kind.fold → s.gstate x.group = GState.protectedS →
    s.gphase x.group = GPhase.ingest →
    Yields (.taskStart idx) s (fun t => (∃ y, t.task idx = some y ∧ y.state = 3 ∧ y.started = s.round) ∧
      t.rd .GRAPH_COUNT 0 0 = BitVec.ofNat 64 (sat 64 ((s.rd .GRAPH_COUNT 0 0).toNat + 1)))) ∧
  (∀ (idx : Nat) (x : Task) (s : State), s.task idx = some x → x.kind = Kind.notify → x.state = 3 → s.mbx.posted = [] →
    s.mbx.waiting = [] → s.outFull Party.host 0 (x.param 0 1 % 32) = false →
    Yields (.notifyRetry idx) s (fun t => hasBit (t.g F.MBX_HOUT_FULL_FULL) (x.param 0 1 % 32) = true ∧
      t.rd .MBX_HOUT 0 (x.param 0 1 % 32) = mkWord s.epoch (x.param 1 1) (x.param 8 8))) ∧
  (∀ (idx : Nat) (x : Task) (s : State), s.task idx = some x → x.unstarted = true → x.length ≠ 0 → x.closesAt ≤ s.round →
    Yields (.windowClose idx) s (fun t => t.task idx = none ∧
      ∃ c ∈ t.graph.ring, c.item = s.itemId idx ∧ c.status = Fate.timeout ∧ c.detail = 0)) ∧
  (∀ (idx st d : Nat) (x : Task) (s : State), s.task idx = some x → x.state = 4 → x.inFlight = [] → x.cause = some (st, d) →
    Yields (.taskEnd idx) s (fun t => t.task idx = none ∧
      ∃ c ∈ t.graph.ring, c.item = s.itemId idx ∧ c.status = st ∧ c.detail = d % 2 ^ 24)) ∧
  (∀ (x : Task) (s : State), s.taskOf (s.g F.GRAPH_ARG_ARG) = some x → x.unstarted = true → x.cause = none →
    Yields .cancelTask s (fun t => t.task x.idx = none ∧ t.answer.status = Status.ok ∧
      ∃ c ∈ t.graph.ring, c.item = s.g F.GRAPH_ARG_ARG ∧ c.status = Fate.cancelled ∧ c.detail = 2 ^ 16)) ∧
  (∀ (x : Task) (s : State), s.graph.tasks = [x] → x.tag = s.g F.GRAPH_ARG_ARG → x.unstarted = true → x.cause = none →
    Yields .cancelGraph s (fun t => t.graph.tasks = [] ∧ t.answer.status = Status.ok ∧
      ∃ c ∈ t.graph.ring, c.item = s.itemId x.idx ∧ c.status = Fate.cancelled ∧ c.detail = 2 ^ 16)) ∧
  (∀ (index : Nat) (s : State), Yields (.taskStart index) s (fun t => t = (s.after (s.taskStart index)).settle)) ∧
  (∀ (index : Nat) (s : State), Yields (.notifyRetry index) s (fun t => t = (s.notifyRetry index).settle)) ∧
  (∀ (index : Nat) (s : State), Yields (.windowClose index) s (fun t => t = (s.after (s.windowClose index)).settle)) ∧
  (∀ (index : Nat) (s : State), Yields (.taskEnd index) s (fun t => t = (s.after (s.taskEnd index)).settle)) ∧
  (∀ s : State, Yields .cancelGraph s (fun t => t = (s.after s.cancelGraph).settle))

/-- Services and functions are disabled in their steps and enabled again, the ring is consumed, and records of other spires
join it (R205, R209, R210, R225).
The last clauses say, for every operand and every state, which operation gives the next state of each command that they name. -/
def Obligations.ServiceControlComplete : Prop :=
  (∀ s : State, s.g F.GRAPH_STATUS_EXPORT = 0 →
    Yields .disableExport s (fun t => t.g F.GRAPH_STATUS_EXPORT = 1 ∧ t.answer.status = Status.ok ∧
      t.graph.disables = s.graph.disables ++ [⟨4, 0, s.round, 2, false, false⟩])) ∧
  (∀ s : State, s.g F.GRAPH_STATUS_EXPORT ≠ 1 →
    Yields .enableExport s (fun t => t.g F.GRAPH_STATUS_EXPORT = 0 ∧ t.answer.status = Status.ok ∧
      Frame [F.GRAPH_STATUS_EXPORT] [] [.answer] s t)) ∧
  (∀ s : State, s.g F.GRAPH_STATUS_IMPORT = 0 →
    Yields .disableImport s (fun t => t.g F.GRAPH_STATUS_IMPORT = 1 ∧ t.answer.status = Status.ok ∧
      t.graph.disables = s.graph.disables ++ [⟨6, 0, s.round, 2, false, false⟩])) ∧
  (∀ s : State, s.g F.GRAPH_STATUS_IMPORT ≠ 1 →
    Yields .enableImport s (fun t => t.g F.GRAPH_STATUS_IMPORT = 0 ∧ t.answer.status = Status.ok ∧
      Frame [F.GRAPH_STATUS_IMPORT] [] [.answer] s t)) ∧
  (∀ (f i : Nat) (d : Disable) (s : State), f ≠ 5 → s.disableOf f i = some d → d.stopped = false →
    d.accepted + 1 ≤ s.round →
    Yields (.functionAdmissionStop f i) s (fun t => { d with stopped := true } ∈ t.graph.disables)) ∧
  (∀ (f i : Nat) (d : Disable) (s : State), f ≠ 5 → s.disableOf f i = some d → d.drained = false →
    d.accepted + 1 + d.bound ≤ s.round →
    Yields (.functionDrainEnd f i) s (fun t => { d with drained := true } ∈ t.graph.disables)) ∧
  (∀ (d : Disable) (s : State), s.graph.disables = [d] → d.function = 4 → d.index = 0 → d.accepted + 2 + d.bound ≤ s.round →
    Yields (.functionDisabled 4 0) s (fun t => t.g F.GRAPH_STATUS_EXPORT = 2 ∧ t.b F.GRAPH_EVENT_EXPORT_DISABLED = true ∧
      t.graph.disables = [])) ∧
  (∀ (v : Word) (s : State), (v.toNat % 2 ^ 32 + 2 ^ 32 - s.g F.GRAPH_RING_TAIL_TAIL) % 2 ^ 32 ≤ s.unconsumed →
    Yields (.graphRingTailWrite v) s (fun t => t.g F.GRAPH_RING_TAIL_TAIL = v.toNat % 2 ^ 32 ∧
      t.graph.ring = s.graph.ring.drop ((v.toNat % 2 ^ 32 + 2 ^ 32 - s.g F.GRAPH_RING_TAIL_TAIL) % 2 ^ 32) ∧
      t.answer.status = Status.ok)) ∧
  (∀ (r : Bytes) (s : State), Yields (.forwardedRecord r) s (fun t =>
      t.g F.GRAPH_RING_HEAD_HEAD = (s.g F.GRAPH_RING_HEAD_HEAD + 1) % 2 ^ 32 ∧
      ∃ c, t.graph.ring = s.graph.ring ++ [c] ∧ c.item = field r 0 4 ∧ c.status = field r 4 1 ∧ c.detail = field r 5 3 ∧
        c.flags = Nat.lor (field r 0x1E 1) 2)) ∧
  (∀ (function index : Nat) (s : State), Yields (.functionAdmissionStop function index) s (fun t =>
      t = (s.after (s.functionStop function index)).settle)) ∧
  (∀ (function index : Nat) (s : State), Yields (.functionDrainEnd function index) s (fun t =>
      t = (s.after (s.functionDrain function index)).settle)) ∧
  (∀ (function index : Nat) (s : State), Yields (.functionDisabled function index) s (fun t =>
      t = (s.after (s.functionDisabled function index)).settle))

/-- Scalar collectives: a contribution to a resident task is held, an accumulator of a spire is held, an installation's
result ends its task DONE, a failed one FAILED_TIMEOUT (R211 to R213).
The last clauses say, for every operand and every state, which operation gives the next state of each command that they name. -/
def Obligations.ScalarCommandsComplete : Prop :=
  (∀ (c : ScalarC) (x : Task) (s : State), c.crcOk = true → s.scalarTask c.cupola c.tag = some x → s.task x.idx = some x →
    x.state = 1 → s.graph.contributions.any (fun y => y.cupola == c.cupola && y.tag == c.tag && y.node == c.node) = false →
    Yields (.scalarContribution c) s (fun t =>
      t.graph.contributions = s.graph.contributions ++ [⟨c.cupola, c.tag, c.node, c.op, c.isInt, c.values⟩])) ∧
  (∀ (c : ScalarC) (s : State), s.scalarTask c.cupola c.tag = none →
    Yields (.scalarContribution c) s (fun t => t.b F.GRAPH_EVENT_SCALAR_DISCARD = true ∧
      t.graph.contributions = s.graph.contributions ∧
      t.rd .GRAPH_COUNT 0 3 = BitVec.ofNat 64 (sat 64 ((s.rd .GRAPH_COUNT 0 3).toNat + 1)))) ∧
  (∀ (a : ScalarAcc) (s : State), s.graph.tasks = [] → s.graph.ring = [] →
    Yields (.scalarAccumulator a) s (fun t => t.graph.accumulators =
      s.graph.accumulators.filter (fun x => !(x.spire == a.spire && x.tag == a.tag)) ++ [a])) ∧
  (∀ (tag flags : Nat) (values : List Nat) (x : Task) (s : State), s.graph.tasks = [x] → x.kind = Kind.scalar →
    x.installScope = true → x.reduceTag = tag → x.state = 3 → flags % 2 = 0 → s.shadowing = false →
    Yields (.scalarResult tag values flags) s (fun t => t.graph.tasks = [] ∧
      (∃ c ∈ t.graph.ring, c.item = s.itemId x.idx ∧ c.status = Fate.done ∧ c.bytesDone = values.getD 0 0) ∧
      ∃ e ∈ t.sent, e.kind = .scalarResult ∧ e.a = x.cupola ∧ e.b = tag ∧ e.data = flags :: values)) ∧
  (∀ (tag flags : Nat) (values : List Nat) (x : Task) (s : State), s.graph.tasks = [x] → x.kind = Kind.scalar →
    x.installScope = true → x.reduceTag = tag → x.state = 3 → x.subs = [] → x.cause = none → flags % 2 = 1 →
    Yields (.scalarResult tag values flags) s (fun t => t.graph.tasks = [] ∧
      ∃ c ∈ t.graph.ring, c.item = s.itemId x.idx ∧ c.status = Fate.timeout)) ∧
  (∀ (c : ScalarC) (s : State), Yields (.scalarContribution c) s (fun t => t = (s.after (s.scalarContribution c)).settle)) ∧
  (∀ (a : ScalarAcc) (s : State), Yields (.scalarAccumulator a) s (fun t => t = (s.after (s.scalarAccumulator a)).settle)) ∧
  (∀ (tag : Nat) (values : List Nat) (flags : Nat) (s : State), Yields (.scalarResult tag values flags) s (fun t =>
      t = (s.after (s.scalarResult tag values flags)).settle))

/-- RoCEv2 as requester: an acknowledged operation is done, a NAK or a time-out sends operations again and counts a retry,
an access error ends its operation FAILED_POLICY, a response joins the package, and rates follow congestion (R215, R216,
R221).
That an RNR NAK counts no retry is the model's reading (log entry 23), and so is the rounding of a rate (log entry 24).
The last clauses say, for every operand and every state, which operation gives the next state of each command that they name. -/
def Obligations.RdmaCommandsComplete : Prop :=
  (∀ (q psn : Nat) (o : RdmaOp) (x : Task) (s : State), s.eth.ops = [o] → s.eth.waiting = [] → o.qp = q → o.issued = true →
    o.kind = 0 → psnLe o.psn psn = true → o.counts = true → s.task o.idx = some x → x.kind = Kind.exp → x.channel = none →
    Yields (.roceAck q psn) s (fun t => t.eth.ops = [] ∧
      t.rd .GRAPH_COUNT 0 6 = BitVec.ofNat 64 (sat 64 ((s.rd .GRAPH_COUNT 0 6).toNat + o.len)))) ∧
  (∀ (q psn : Nat) (o : RdmaOp) (s : State), s.opsFrom q psn = [o] →
    lookupD s.eth.retries q 0 < min 7 (getBits (s.qw q 0) 6 3) →
    Yields (.roceNak q psn) s (fun t => lookupD t.eth.retries q 0 = lookupD s.eth.retries q 0 + 1 ∧
      (∃ e ∈ t.sent, e.kind = .rdma ∧ e.a = q ∧ e.data = [o.kind, o.psn, o.rkey, o.addr, o.len]) ∧
      t.rd .GRAPH_COUNT 0 5 = BitVec.ofNat 64 (sat 64 ((s.rd .GRAPH_COUNT 0 5).toNat + 1)))) ∧
  (∀ (q psn : Nat) (o : RdmaOp) (s : State), s.opsFrom q psn = [o] →
    Yields (.roceRnrNak q psn) s (fun t => t.eth.retries = s.eth.retries ∧
      (∃ e ∈ t.sent, e.kind = .rdma ∧ e.a = q ∧ e.data = [o.kind, o.psn, o.rkey, o.addr, o.len]) ∧
      t.rd .GRAPH_COUNT 0 5 = BitVec.ofNat 64 (sat 64 ((s.rd .GRAPH_COUNT 0 5).toNat + 1)))) ∧
  (∀ (q psn : Nat) (o : RdmaOp) (x : Task) (s : State), s.opsFrom q psn = [o] → s.task o.idx = some x →
    Yields (.roceRemoteAccessNak q psn) s (fun t => o ∉ t.eth.ops ∧
      ∃ c ∈ t.graph.ring, c.item = s.itemId o.idx ∧ c.status = Fate.policy ∧ c.detail = 5 ∧ c.seq = o.sub)) ∧
  (∀ (q : Nat) (o : RdmaOp) (s : State), s.eth.ops = [o] → o.qp = q → o.issued = true →
    lookupD s.eth.retries q 0 < min 7 (getBits (s.qw q 0) 6 3) →
    Yields (.roceAckTimeout q) s (fun t => lookupD t.eth.retries q 0 = lookupD s.eth.retries q 0 + 1 ∧
      (∃ e ∈ t.sent, e.kind = .rdma ∧ e.a = q ∧ e.data = [o.kind, o.psn, o.rkey, o.addr, o.len]) ∧
      t.rd .GRAPH_COUNT 0 5 = BitVec.ofNat 64 (sat 64 ((s.rd .GRAPH_COUNT 0 5).toNat + 1)))) ∧
  (∀ (q psn : Nat) (data : Bytes) (o : RdmaOp) (x : Task) (y : SubItem) (s : State), s.eth.ops = [o] → s.eth.waiting = [] →
    o.qp = q → o.issued = true → o.kind = 1 → o.psn = psn → s.task o.idx = some x → x.kind = Kind.imp → x.state = 3 →
    x.flags = 0 → x.channel = none → y ∈ x.subs → y.seq ≠ o.sub →
    Yields (.roceReadResponse q psn data) s (fun t => t.graph.packages = s.graph.packages.map (fun e =>
      if e.1 == o.idx then (e.1, fit e.2.length (e.2.take o.off ++ fit o.len data ++ e.2.drop (o.off + o.len))) else e))) ∧
  (∀ s : State, Yields .roceRequestDiscard s (fun t => t.b F.ETH_EVENT_DISCARD = true ∧
      t.rd .ETH_COUNT 0 2 = BitVec.ofNat 64 (sat 64 ((s.rd .ETH_COUNT 0 2).toNat + 1)))) ∧
  (∀ (q : Nat) (s : State), s.graph.notified = [] →
    Yields (.congestionNotification q) s (fun t =>
      t.qpRate q = max (s.g F.GRAPH_ECN_RATE_MIN_RATE)
        (s.qpRate q - ceilDiv (s.qpRate q) (2 ^ s.g F.GRAPH_ECN_DEC_SHIFT)) % 2 ^ 32 ∧
      t.rd .GRAPH_COUNT 0 4 = BitVec.ofNat 64 (sat 64 ((s.rd .GRAPH_COUNT 0 4).toNat + 1)))) ∧
  (∀ (q : Nat) (s : State),
    Yields (.ecnRateIncrease q) s (fun t =>
      t.qpRate q = max (s.qpRate q) (min (s.qpRate q + s.g F.GRAPH_ECN_INC_STEP) (s.rateRoom q)) ∧
      Frame [] [(⟨.ETH_QP_WORD, 0, 32⟩, q, 5)] [] s t)) ∧
  (∀ (i : Nat) (v : Word) (s : State), 1 ≤ i → i < 5 → s.qpState (s.g F.ETH_QP_SEL_QP) = 0 →
    Yields (.ethQpWordWrite i v) s (fun t => t.answer.status = Status.ok ∧
      t.rd .ETH_QP_WORD (s.g F.ETH_QP_SEL_QP) i = (v &&& BitVec.ofNat 64 (State.qpMask i)) |||
        (s.rd .ETH_QP_WORD (s.g F.ETH_QP_SEL_QP) i &&& ~~~(BitVec.ofNat 64 (State.qpMask i))))) ∧
  (∀ (qp psn : Nat) (s : State), Yields (.roceAck qp psn) s (fun t => t = (s.after (s.roceAck qp psn)).settle)) ∧
  (∀ (qp psn : Nat) (s : State), Yields (.roceNak qp psn) s (fun t => t = (s.after (s.retryOps qp (s.opsFrom qp psn))).settle)) ∧
  (∀ (qp psn : Nat) (s : State), Yields (.roceRnrNak qp psn) s (fun t =>
      t = (if (s.opsFrom qp psn).isEmpty then s else s.resendOps (s.opsFrom qp psn)).settle)) ∧
  (∀ (qp psn : Nat) (s : State), Yields (.roceRemoteAccessNak qp psn) s (fun t =>
      t = (s.after (s.remoteAccessNak qp psn)).settle)) ∧
  (∀ (qp : Nat) (s : State), Yields (.roceAckTimeout qp) s (fun t =>
      t = (s.after (s.retryOps qp (s.eth.ops.filter (fun o => o.qp == qp && o.issued)))).settle)) ∧
  (∀ (qp psn : Nat) (data : Bytes) (s : State), Yields (.roceReadResponse qp psn data) s (fun t =>
      t = (s.after (s.roceReadResponse qp psn data)).settle)) ∧
  (∀ (qp : Nat) (s : State), Yields (.congestionNotification qp) s (fun t => t = (s.congestion qp).settle)) ∧
  (∀ (word : Nat) (value : Word) (s : State), Yields (.ethQpWordWrite word value) s (fun t =>
      t = (s.after (s.qpWrite word value)).settle))

/-- The keystone's own commands: enrolment, its requests and their ends, hop keys and job keys, lost entropy and debug access
(R329 to R331, R339, R340, R342, R345, R348, R352).
That debug access taints in every state is the model's choice (log entry 76).
The last clauses say, for every operand and every state, which operation gives the next state of each command that they name. -/
def Obligations.KeystoneCommandsComplete : Prop :=
  (∀ s : State, s.b F.KEY_STATUS_TENANT_BOUND = false → Yields .enrol s (fun t =>
      (s.enrolGood s.enrolRecord = true → t.b F.KEY_EVENT_ENROLLED = true ∧ t.answer.status = Status.ok ∧
        t.gi F.KEY_SLOT_SEQ_SEQUENCE (field s.enrolRecord 0 1) =
          field s.enrolRecord 8 8 % 2 ^ F.KEY_SLOT_SEQ_SEQUENCE.len) ∧
      (s.enrolGood s.enrolRecord = false → t.b F.KEY_EVENT_ENROL_REFUSED = true ∧ t.answer.status = Status.value ∧
        t.key = s.key))) ∧
  (∀ (op i : Nat) (s : State), Yields (.keyReq op i) s (fun t => (i, op) ∈ t.key.requests ∧ Frame [] [] [.key] s t)) ∧
  (∀ (i : Nat) (s : State), Yields (.keyDone i) s (fun t => (∀ e ∈ t.key.requests, e.1 ≠ i) ∧ Frame [] [] [.key] s t)) ∧
  (∀ (reason i : Nat) (x : Task) (s : State), s.task i = some x → x.kind = Kind.imp → x.state = 3 → x.inFlight = [] →
    x.cause = none →
    Yields (.keyFail reason i) s (fun t => (∀ e ∈ t.key.requests, e.1 ≠ i) ∧ ∃ c ∈ t.graph.ring, c.item = s.itemId i ∧
      c.status = (State.keyFailFate x reason).1 ∧ c.detail = (State.keyFailFate x reason).2 % 2 ^ 24)) ∧
  (∀ (node port ep : Nat) (s : State), s.hopOf node port = none →
    Yields (.rekeyDue node port 0 ep) s (fun t => (⟨node, port, 0, ep - 1, some ep⟩ : HopKey) ∈ t.key.hops ∧
      t.rd .KEY_COUNT 0 5 = BitVec.ofNat 64 (sat 64 ((s.rd .KEY_COUNT 0 5).toNat + 1)))) ∧
  (∀ s : State, Yields .entropyFail s (fun t => t.key.entropyFailed = true ∧ t.b F.KEY_STATUS_ENTROPY_OK = false ∧
      t.b F.KEY_EVENT_ENTROPY_FAIL = true)) ∧
  (∀ s : State, Yields .debugAccess s (fun t => t.b F.KEY_STATUS_DEBUG_TAINT = true ∧ t.b F.KEY_EVENT_DEBUG_TAINT = true ∧
      Frame [F.KEY_STATUS_DEBUG_TAINT, F.KEY_EVENT_DEBUG_TAINT] [] [.sent] s t)) ∧
  (∀ (job : Nat) (j : JobKey) (r : TplRec) (s : State), s.linkMode = 1 → s.g F.KEY_STATUS_REMOVE_STEP = 0 →
    s.key.jobs = [j] → j.job = job → j.rotation = none → s.template j.cupola = some r → r.rotation ≠ 0 →
    s.sealedStep job ≠ 0 → s.sealedStep job % r.rotation = 0 → j.last < s.sealedStep job →
    Yields (.keyRotationLoad job) s (fun t => t.key.jobs = [{ j with
        rotation := some (s.round - 1), moves := 0, unconfirmed := s.memberAgents j.cupola, last := s.sealedStep job }] ∧
      t.rd .KEY_COUNT 0 4 = BitVec.ofNat 64 (sat 64 ((s.rd .KEY_COUNT 0 4).toNat + 1)))) ∧
  (∀ (job q : Nat) (j : JobKey) (s : State), s.key.jobs = [j] → j.job = job → j.rotation = some q → j.unconfirmed = [] →
    State.switchOf q j.moves ≤ s.round + 2 →
    Yields (.keyRotationCheck job) s (fun t => t.key.jobs = [{ j with
        generation := j.generation + 1, rotation := none, moves := 0 }])) ∧
  (∀ (node port : Nat) (e : Forced) (s : State), s.key.forced = [e] → e.node = node → e.port = port → e.left ≤ 1 →
    e.by_ = s.spire →
    Yields (.forcedRekeyConfirm node port) s (fun t => t.key.forced = [] ∧ Frame [] [] [.key] s t)) ∧
  (∀ (spire node port : Nat) (s : State), s.key.forced.any (fun e => e.node == node && e.port == port) = false →
    Yields (.peerForceRekeyRequest spire node port) s (fun t => (⟨s.spire, node, port, 2, spire⟩ : Forced) ∈ t.key.forced)) ∧
  (∀ (sess : Nat) (x : Handshake) (s : State), s.handshakeOf sess = some x → x.started + 4096 ≤ s.round →
    Yields (.admissionTimeout sess) s (fun t => t.handshakeOf sess = none ∧ t.b F.KEY_EVENT_ADMISSION_FAILED = true)) ∧
  (∀ s : State, s.key.cak.isSome = true → s.eth.ops = [] →
    Yields .mkaSecured s (fun t => t.b F.ETH_STATUS_SECURED = true ∧ Frame [F.ETH_STATUS_SECURED] [] [] s t)) ∧
  (∀ (reason index : Nat) (s : State), Yields (.keyFail reason index) s (fun t => t = (s.after (s.keyFail reason index)).settle)) ∧
  (∀ (node port direction epoch : Nat) (s : State), Yields (.rekeyDue node port direction epoch) s (fun t =>
      t = (s.rekeyDue node port direction epoch).settle)) ∧
  (∀ (job : Nat) (s : State), Yields (.keyRotationLoad job) s (fun t => t = (s.rotationLoad job).settle)) ∧
  (∀ (job : Nat) (s : State), Yields (.keyRotationCheck job) s (fun t => t = (s.rotationCheck job).settle)) ∧
  (∀ (node port : Nat) (s : State), Yields (.forcedRekeyConfirm node port) s (fun t => t = (s.forcedConfirm node port).settle)) ∧
  (∀ s : State, Yields .mkaSecured s (fun t => t = s.mkaSecured.settle))

/-- The removal of a tenant goes through its steps: accepted, admission stopped, drained, keys erased, the ring's wait over,
memory and SRAM erased, done (R350 to R355).
The last clauses say, for every operand and every state, which operation gives the next state of removalDrainEnd, ringWaitEnd. -/
def Obligations.RemovalCommandsComplete : Prop :=
  (∀ s : State, s.confidential = true → s.b F.KEY_STATUS_TENANT_BOUND = true → s.removeStep = 0 →
    Yields .removeTenant s (fun t => t.g F.KEY_STATUS_REMOVE_STEP = 1 ∧ t.answer.status = Status.ok ∧
      t.g F.KEY_REMOVE_START = s.round % 2 ^ F.KEY_REMOVE_START.len)) ∧
  (∀ s : State, s.removeStep ≠ 0 →
    Yields .removeForce s (fun t => t.key.forceEnd = true ∧ t.answer.status = Status.ok ∧ Frame [] [] [.key, .answer] s t)) ∧
  (∀ s : State, s.removeStep = 1 → s.removeStart + 1 ≤ s.round →
    Yields .removalAdmissionStop s (fun t => t.g F.KEY_STATUS_REMOVE_STEP = 2 ∧ Frame [F.KEY_STATUS_REMOVE_STEP] [] [] s t)) ∧
  (∀ s : State, s.removeStep = 2 → s.removeStart + 1 + s.key.bound ≤ s.round → s.graph.tasks = [] →
    Yields .removalDrainEnd s (fun t => t.g F.KEY_STATUS_REMOVE_STEP = 4)) ∧
  (∀ s : State, s.removeStep = 4 → s.removeStart + 2 + s.key.bound ≤ s.round →
    Yields .removalKeyErase s (fun t => t.g F.KEY_STATUS_REMOVE_STEP = 6 ∧ t.key.jobs = [] ∧
      t.key.waitFrom = some s.round)) ∧
  (∀ (node : Nat) (s : State), 5 ≤ s.removeStep → s.key.retireWait.contains node = true →
    s.removeStart + 3 + s.key.bound ≤ s.round →
    Yields (.keyRetireTimeout node) s (fun t => node ∈ t.rep.declared ∧ node ∉ t.key.retireWait)) ∧
  (∀ (q : Nat) (s : State), s.key.waitFrom = some q → s.removeStep = 6 → s.key.forceEnd = true → s.rekeysDone = true →
    Yields .ringWaitEnd s (fun t => t.g F.KEY_STATUS_REMOVE_STEP = 7 ∧ t.graph.ring = [] ∧
      t.b F.ETH_STATUS_ADMITTED = false ∧ t.b F.ETH_STATUS_SECURED = false ∧ t.b F.KEY_MEM_SCRUBBING = true ∧
      t.g F.KEY_MEM_GENERATION = (s.g F.KEY_MEM_GENERATION + 1) % 2 ^ F.KEY_MEM_GENERATION.len)) ∧
  (∀ s : State, s.g F.KEY_MEM_SCRUBBING = 1 →
    Yields .scrubComplete s (fun t => t.g F.KEY_STATUS_REMOVE_STEP = 8 ∧ t.g F.KEY_MEM_SCRUBBING = 0 ∧
      t.graph.tasks = [] ∧ t.sen.now = [] ∧ t.sen.last = [])) ∧
  (∀ s : State, s.removeStep = 8 →
    Yields .removalDone s (fun t => t.g F.KEY_STATUS_REMOVE_STEP = 0 ∧ t.b F.KEY_STATUS_TENANT_BOUND = false ∧
      t.g F.KEY_TENANT_TAG = 0 ∧ t.b F.KEY_EVENT_REMOVAL_DONE = true ∧
      t.g F.KEY_TENANT_EPOCH = (s.g F.KEY_TENANT_EPOCH + 1) % 2 ^ F.KEY_TENANT_EPOCH.len)) ∧
  (∀ s : State, Yields .removalDrainEnd s (fun t => t = (s.after s.removalDrainEnd).settle)) ∧
  (∀ s : State, Yields .ringWaitEnd s (fun t => t = s.ringWaitEnd.settle))

/-- The lantern: time words sent and followed, holdover and its end, the reference's start, the floor, PPS_IN, and the reading
of fabric time (R290 to R298, R300, R385, Table 11.2).
The bookkeeping of PPS_IN edges is the model's choice (log entry 58), and which lantern a holdover command means (log entry 57).
The last clauses say, for every operand and every state, which operation gives the next state of each command that they name. -/
def Obligations.LanternCommandsComplete : Prop :=
  (∀ (port : Nat) (s : State), s.gi F.PORT_STATUS_STATE port = 2 →
    Yields (.timeWordSend none port) s (fun t => t.lant.now = s.lant.now ∧
      ∃ e ∈ t.sent, e.kind = .timeWord ∧ e.a = 510 ∧ e.b = port ∧
        e.data = s.timeFields (lookupD s.lant.txSeq port 0) s.lantState (s.g F.LANT_STATUS_DEPTH))) ∧
  (∀ (n port : Nat) (s : State), s.portUp n port = true →
    Yields (.timeWordSend (some n) port) s (fun t => ∃ e ∈ t.sent, e.kind = .timeWord ∧ e.a = n ∧ e.b = port ∧
        e.data = s.timeFields (lookupD (s.ag n).timeSeq port 0) (s.ga F.AG_LANT_STATE n 0) (s.ga F.AG_LANT_DEPTH n 0))) ∧
  (∀ (port : Nat) (w : TimeW) (s : State), w.crcOk = true → w.state ≠ 0 → s.parentPort port = true → s.lant.depths = [] →
    s.lantState = LState.locked →
    Yields (.timeWord none port w) s (fun t => t.g F.LANT_PARENT_OFFSET = toField 32 w.offset ∧
      t.g F.LANT_PARENT_DELAY = toField 32 w.delay ∧ t.g F.LANT_STATUS_DEPTH = min 15 (w.depth + 1) ∧
      t.lant.parent = some port)) ∧
  (∀ (n port : Nat) (w : TimeW) (s : State), w.crcOk = true → w.state ≠ 0 → s.ga F.AG_PORT_INTERSPIRE n port = 0 →
    s.agentParent n = some port →
    Yields (.timeWord (some n) port w) s (fun t =>
      t.ga F.AG_LANT_STATE n 0 = State.agentLantNext (s.ga F.AG_LANT_STATE n 0) w.offset ∧
      t.ga F.AG_LANT_DEPTH n 0 = min 15 (w.depth + 1) ∧ t.ga F.AG_LANT_HOLDOVER n 0 = 0)) ∧
  (∀ s : State, s.lantState = LState.locked → s.agents = [] →
    Yields .holdoverEntry s (fun t => t.lantState = LState.holdover ∧ t.b F.LANT_EVENT_HOLDOVER = true ∧
      t.lant.now = s.lant.now ∧ t.rd .LANT_COUNT 0 2 = BitVec.ofNat 64 (sat 64 ((s.rd .LANT_COUNT 0 2).toNat + 1)))) ∧
  (∀ s : State, s.lantState = LState.holdover → s.agents = [] →
    Yields .holdoverLimit s (fun t => t.lantState = LState.free ∧ t.b F.LANT_EVENT_FREE = true ∧
      t.lant.now = s.lant.now ∧ t.rd .LANT_COUNT 0 3 = BitVec.ofNat 64 (sat 64 ((s.rd .LANT_COUNT 0 3).toNat + 1)))) ∧
  (∀ (floors : List Nat) (s : State), s.lantState = LState.unset → s.planLeads = true → s.g F.TWIN_STATUS_STATE ≤ 2 →
    Yields (.referenceStart floors) s (fun t => t.lantState = LState.reference ∧ t.g F.LANT_STATUS_DEPTH = 0 ∧
      t.lant.now = floors.foldl max (s.g F.LANT_FLOOR_FLOOR) % 2 ^ 64)) ∧
  (∀ s : State, s.lantState ≠ LState.unset →
    Yields .floorWrite s (fun t =>
      t.g F.LANT_FLOOR_FLOOR = ceilDiv (s.lant.now + 128000000000) 1000000000 * 1000000000 % 2 ^ 64 ∧
      Frame [F.LANT_FLOOR_FLOOR] [] [] s t)) ∧
  (∀ (ns last : Nat) (s : State), s.ppsOn = true → s.lant.ppsLast = some last → last + 999999000 ≤ ns →
    ns ≤ last + 1000001000 →
    Yields (.ppsInEdge ns) s (fun t => t.lant.ppsLast = some ns ∧ t.lant.ppsGood = s.lant.ppsGood + 1 ∧
      t.lant.ppsBad = 0 ∧ (16 ≤ s.lant.ppsGood + 1 → t.g F.LANT_STATUS_PPS_IN = 2))) ∧
  (∀ s : State, s.ppsOn = true →
    Yields .ppsInLost s (fun t => t.g F.LANT_STATUS_PPS_IN = 3 ∧ t.b F.LANT_EVENT_PPS_IN_LOST = true ∧
      t.lant.ppsLast = none)) ∧
  (∀ (ns frac : Nat) (s : State), s.lantState ≠ LState.unset → s.lant.now < ns → ns < 2 ^ 64 →
    Yields (.lantNowNsRead ns frac) s (fun t => t.lant.now = ns ∧ t.g F.LANT_NOW_NS_NS = ns ∧
      t.g F.LANT_NOW_FRAC_FRAC = frac % 2 ^ 16)) ∧
  (∀ (node : Option Nat) (port : Nat) (s : State), Yields (.timeWordSend node port) s (fun t =>
      t = (s.timeWordSend node port).settle)) ∧
  (∀ (node : Option Nat) (port : Nat) (w : TimeW) (s : State), Yields (.timeWord node port w) s (fun t =>
      t = (s.timeWord node port w).settle)) ∧
  (∀ s : State, Yields .holdoverEntry s (fun t => t = s.holdoverEntry.settle)) ∧
  (∀ s : State, Yields .holdoverLimit s (fun t => t = s.holdoverLimit.settle)) ∧
  (∀ (ns : Nat) (s : State), Yields (.ppsInEdge ns) s (fun t => t = (s.ppsInEdge ns).settle))

/-- Time of day set, slewed and stopped, and the PTP grandmaster's messages (R302, R303, R305, Table 11.4). -/
def Obligations.TimeOfDayComplete : Prop :=
  (∀ (mode sess : Nat) (s : State), mode % 2 = 0 →
    Yields (.setTod mode sess) s (fun t => t.b F.LANT_STATUS_TOD_VALID = true ∧ t.b F.LANT_STATUS_SLEWING = true ∧
      t.g F.LANT_OFFSET_TARGET_TARGET = toField 64 (s.slewOn.todWanted mode) ∧
      t.todOffset = s.slewOn.todOffset ∧ t.answer.status = Status.ok ∧
      t.rd .LANT_COUNT 0 0 = BitVec.ofNat 64 (sat 64 ((s.rd .LANT_COUNT 0 0).toNat + 1)))) ∧
  (∀ (mode sess : Nat) (s : State), mode % 2 = 1 →
    Yields (.setTod mode sess) s (fun t => t.b F.LANT_STATUS_TOD_VALID = true ∧ t.b F.LANT_STATUS_SLEWING = false ∧
      t.g F.LANT_OFFSET_TARGET_TARGET = toField 64 (s.slewOn.todWanted mode) ∧
      t.g F.LANT_OFFSET_OFFSET = toField 64 (s.slewOn.todWanted mode) ∧ t.answer.status = Status.ok ∧
      t.rd .LANT_COUNT 0 1 = BitVec.ofNat 64 (sat 64 ((s.rd .LANT_COUNT 0 1).toNat + 1)))) ∧
  (∀ (sess : Nat) (s : State), s.b F.LANT_STATUS_SLEWING = true →
    Yields (.stopSlew sess) s (fun t => t.b F.LANT_STATUS_SLEWING = false ∧
      t.g F.LANT_OFFSET_TARGET_TARGET = t.g F.LANT_OFFSET_OFFSET ∧ t.answer.status = Status.ok)) ∧
  (∀ s : State, s.b F.LANT_STATUS_SLEWING = true →
    Yields .slewComplete s (fun t => t.b F.LANT_STATUS_SLEWING = false ∧ t.b F.LANT_EVENT_SLEW_DONE = true ∧
      t.g F.LANT_OFFSET_OFFSET = s.g F.LANT_OFFSET_TARGET_TARGET)) ∧
  (∀ s : State, s.ptpMaster = true →
    Yields .ptpSync s (fun t => (∃ e ∈ t.sent, e.kind = .ptp ∧ e.a = 0) ∧
      (∃ e ∈ t.sent, e.kind = .ptp ∧ e.a = 8 ∧ e.data = [s.todNow]) ∧
      t.rd .LANT_COUNT 0 5 = BitVec.ofNat 64 (sat 64 ((s.rd .LANT_COUNT 0 5).toNat + 1)))) ∧
  (∀ s : State, s.ptpMaster = true →
    Yields .ptpAnnounce s (fun t => ∃ e ∈ t.sent, e.kind = .ptp ∧ e.a = 11 ∧ e.data.head? = some s.clockClass)) ∧
  (∀ s : State, s.ptpMaster = true →
    Yields (.ptpDelayReq true) s (fun t => (∃ e ∈ t.sent, e.kind = .ptp ∧ e.a = 9 ∧ e.data = [s.todNow]) ∧
      t.rd .LANT_COUNT 0 6 = BitVec.ofNat 64 (sat 64 ((s.rd .LANT_COUNT 0 6).toNat + 1)))) ∧
  (∀ s : State, s.ptpMaster = true →
    Yields (.ptpDelayReq false) s (fun t =>
      t.rd .ETH_COUNT 0 2 = BitVec.ofNat 64 (sat 64 ((s.rd .ETH_COUNT 0 2).toNat + 1))))
/-- The belfry's cells and its record store: an event opens a cell of its source and instance, or is folded into the open
one; FLUSH closes every cell; a record goes to a free slot; freezing and thawing move the state of Table 12.3
(R306, R310, R312, R315, R316, R318).
The last clauses say, for every operand and every state, which operation gives the next state of belfryEvent. -/
def Obligations.BelfryStoreComplete : Prop :=
  (∀ (source inst : Nat) (v : Int) (s : State), s.g F.BELF_STATUS_STATE ≠ 3 →
    (∀ c ∈ s.belf.cells, ¬(c.source = source ∧ c.inst = inst)) → s.belf.cells.length < cellCapacity →
    Yields (.belfryEvent source inst v) s (fun t =>
      t.belf.cells = s.belf.cells ++ [Cell.new source inst (s.sevOf source) s.opTime v])) ∧
  (∀ (source inst : Nat) (c : Cell) (s : State), s.g F.BELF_STATUS_STATE ≠ 3 →
    s.belf.cells.find? (fun c => c.source == source && c.inst == inst) = some c →
    Yields (.cellClose source inst) s (fun t => ∀ d ∈ t.belf.cells, ¬(d.source = c.source ∧ d.inst = c.inst))) ∧
  (∀ (s : State), s.g F.BELF_STATUS_STATE ≠ 3 → (∀ c ∈ s.belf.cells, ∀ d ∈ s.belf.cells, c.source = d.source → c.inst = d.inst → c = d) →
    Yields .flush s (fun t => t.belf.cells = [] ∧ t.answer.status = Status.ok)) ∧
  (∀ (r : Record) (rest : List Record) (slot : Nat) (s : State), s.g F.BELF_STATUS_STATE = 0 →
    s.belf.queue = r :: rest → s.flashSlot r.sev = some slot →
    Yields (.recordFlashWrite true) s (fun t => t.belf.queue = rest ∧ t.belf.flash = setKey s.belf.flash slot r)) ∧
  (∀ (r : Record) (rest : List Record) (slot : Nat) (s : State), s.g F.BELF_STATUS_STATE = 0 →
    s.belf.queue = r :: rest → s.flashSlot r.sev = some slot →
    Yields (.recordFlashWrite false) s (fun t => t.belf.queue = s.belf.queue ∧ t.belf.badSlots = addOnce slot s.belf.badSlots)) ∧
  (∀ s : State, s.g F.BELF_STATUS_STATE = 0 → Yields .freeze s (fun t => t.g F.BELF_STATUS_STATE = 1 ∧
      t.g F.BELF_FREEZE_START = s.opTime % 2 ^ 48 ∧ t.answer.status = Status.ok)) ∧
  (∀ s : State, s.g F.BELF_STATUS_STATE = 1 → Yields .thaw s (fun t => t.g F.BELF_STATUS_STATE = 2 ∧
      t.b F.BELF_STATUS_AUTO_THAWED = false ∧ t.answer.status = Status.ok)) ∧
  (∀ s : State, s.g F.BELF_STATUS_STATE = 1 → Yields .autoThaw s (fun t => t.g F.BELF_STATUS_STATE = 2 ∧
      t.b F.BELF_STATUS_AUTO_THAWED = true ∧ t.b F.BELF_EVENT_AUTO_THAW = true)) ∧
  (∀ s : State, s.g F.BELF_STATUS_STATE = 2 → s.belf.staged = [] → Yields .mergeDone s (fun t =>
      t.g F.BELF_STATUS_STATE = 0)) ∧
  (∀ (cause : Nat) (s : State), s.g F.BELF_STATUS_STATE ≠ 3 → Yields (.belfrySentinelEngage cause) s (fun t =>
      t.g F.BELF_STATUS_STATE = 3 ∧ t.b F.BELF_EVENT_SENTINEL = true ∧ t.belf.staged = [])) ∧
  (∀ (i : Nat) (s : State), i < 64 → Yields (.belfSentRead i) s (fun t => t.answer.status = Status.ok ∧
      t.answer.words = [(s.belf.sentinel.getD i (Voted.of 0)).vote])) ∧
  (∀ (source inst : Nat) (v : Int) (s : State), Yields (.belfryEvent source inst v) s (fun t =>
      t = (s.belfryEvent source inst v).settle)) ∧
  (∀ (r : Record) (rest : List Record) (slot : Nat) (s : State), s.g F.BELF_STATUS_STATE = 0 →
    s.belf.queue = r :: rest → s.flashSlot r.sev = some slot → s.belf.badSlots.length = 2 → slot ∉ s.belf.badSlots →
    Yields (.recordFlashWrite false) s (fun t => t.g F.BELF_STATUS_STATE = 3 ∧ getBits (t.sentinelWord 0) 0 4 = 3))

/-- Alarms, windows, telemetry and operating time (R308, R309, R314, R322 to R326): a write of BELF_ALARM that the table
allows sets the source's enable and severity and clears the latch it writes 1 to; a window is loaded; late entries are
shed and counted; the operating time goes to flash.
The last clauses say, for every operand and every state, which operation gives the next state of repeatBoundary, telemetrySend. -/
def Obligations.BelfryTelemetryComplete : Prop :=
  (∀ (source : Nat) (v : Word) (s : State), source < 608 → Source.severity source ≤ getBits v 2 3 →
    (getBits v 1 1 = 1 ∨ Source.alarm source ≠ 1) →
    Yields (.belfAlarmClear source v) s (fun t => t.answer.status = Status.ok ∧
      t.gi F.BELF_ALARM_ALARM source = getBits v 1 1 ∧ t.gi F.BELF_ALARM_SEV source = getBits v 2 3 ∧
      (getBits v 0 1 = 1 → t.gi F.BELF_ALARM_LATCHED source = 0) ∧
      (getBits v 0 1 = 0 → t.gi F.BELF_ALARM_LATCHED source = s.gi F.BELF_ALARM_LATCHED source))) ∧
  (∀ (v : Word) (s : State), Yields (.belfReadSelWrite v) s (fun t => t.answer.status = Status.ok ∧
      t.g F.BELF_READ_SEL_WINDOW = getBits v 0 18 ∧
      t.belf.window = (s.belf.flash.filter (fun e => e.1 / 64 == getBits v 0 18)).map (fun e => (e.1 % 64, e.2)))) ∧
  (∀ s : State, Yields .belfReadWordAdvance s (fun t =>
      t.g F.BELF_READ_SEL_WINDOW = (s.g F.BELF_READ_SEL_WINDOW + 1) % 2 ^ 18)) ∧
  (∀ s : State, s.round % max 1 (s.g F.BELF_CFG_REPEAT) = 0 → (∀ e ∈ s.listed .BELF_ALARM, getBits e.2 0 1 = 0) →
    Yields .repeatBoundary s (fun t => t.belf.shedSeen = (List.range 8).map (fun i => (s.rd .BELF_SHED 0 i).toNat))) ∧
  (∀ s : State, s.b F.BELF_TRACE_AGENTS = true → Yields .tracePeriod s (fun t =>
      ∀ n ∈ s.boundNodes, s.round % max 1 (s.g F.BELF_CFG_TRACE_PERIOD) = n % max 1 (s.g F.BELF_CFG_TRACE_PERIOD) →
        (1, s.round) ∈ (t.ag n).telemetry)) ∧
  (∀ (slot : Nat) (u : Subscr) (s : State), s.belf.subs.find? (fun u => u.slot == slot) = some u → u.q0 ≠ [] →
    128 * 1000000000 ≤ u.tokens.getD 0 0 → s.confidential = false →
    Yields (.telemetrySend slot 0) s (fun t =>
      t.rd .ETH_COUNT 0 7 = BitVec.ofNat 64 (sat 64 ((s.rd .ETH_COUNT 0 7).toNat + 1)) ∧
      ∃ e : Emit, t.sent = s.sent ++ [e] ∧ e.kind = .telemetry ∧ e.a = s.gi F.ETH_SUB_PORT slot ∧ e.b = 0)) ∧
  (∀ (slot : Nat) (u : Subscr) (s : State), s.belf.subs.find? (fun u => u.slot == slot) = some u →
    Yields (.telemetryShed slot 2) s (fun t => ∀ v ∈ t.belf.subs, v.slot = u.slot → ∀ e ∈ v.q2, s.round ≤ e.ready)) ∧
  (∀ (node : Nat) (s : State), Yields (.agentFrameShed node 2) s (fun t =>
      ∀ e ∈ (t.ag node).telemetry, e.1 = 2 → s.round ≤ e.2)) ∧
  (∀ s : State, s.round % 64 = 0 → Yields .agentShedRead s (fun t =>
      ∀ n ∈ s.boundNodes, ∀ c ∈ [0, 1], (n, c, (s.rd .AG_COUNT n (12 + c)).toNat) ∈ t.belf.agentShed)) ∧
  (∀ s : State, s.belf.opFlash + 1024 < 2 ^ 48 → Yields .operatingTimeWrite s (fun t =>
      t.belf.opFlash = t.opTime ∧ s.belf.opFlash + 1024 ≤ t.opTime ∧ s.opTime ≤ t.opTime)) ∧
  (∀ s : State, Yields .repeatBoundary s (fun t => t = s.repeatBoundary.settle)) ∧
  (∀ (slot cls : Nat) (s : State), Yields (.telemetrySend slot cls) s (fun t => t = (s.telemetrySend slot cls).settle))

/-- The twin's words and mirror frames: what a HELLO shows, a snapshot asked for and sent, inputs, digests, checkpoints,
parity and records consumed in their order, a mismatch found, tested and settled (R258, R332, R362 to R366, R370, R373,
R375, R435, Tables 14.2 and 14.5).
What a snapshot applies is the model's choice (log entry 70), and the bytes of a decision are opaque (log entry 7). -/
def Obligations.TwinFramesComplete : Prop :=
  (∀ (level letter theirs epoch : Nat) (s : State), s.pair = Pair.solo → s.compatible level letter = true →
    theirs = Pair.standby →
    Yields (.hello level letter theirs epoch) s (fun t => t.pair = Pair.active ∧ t.b F.TWIN_STATUS_PARTNER_SEEN = true ∧
      t.g F.TWIN_STATUS_PARTNER_STATE = Pair.standby ∧ t.twin.helloRound = s.round)) ∧
  (∀ s : State, s.pair = Pair.active → Yields .syncReq s (fun t => t.pair = Pair.solo ∧
      ∃ e ∈ t.sent, e.kind = .mirror ∧ e.a = Mirror.snapshot ∧ e.b = s.twin.txSeq)) ∧
  (∀ (r : Nat) (s : State), s.pair = Pair.solo → Yields (.syncDone r) s (fun t => t.pair = Pair.active ∧
      t.g F.TWIN_STATUS_PARTNER_STATE = Pair.standby)) ∧
  (∀ (seq : Nat) (f : MirrorF) (s : State), s.isActive = true →
    s.twin.kept.find? (fun x => x.seq == seq && decide (s.round < x.round + 8)) = some f →
    Yields (.mirrorNak seq) s (fun t => ∃ e ∈ t.sent, e.kind = .mirror ∧ e.b = seq ∧ e.bytes = f.payload)) ∧
  (∀ (f : MirrorF) (s : State), (s.mirrorAccept f).2 = true → s.twin.snapshotApplied = false →
    Yields (.mirrorInput f) s (fun t => t.twin.inputs = s.twin.inputs ++ [⟨f.round, f.payload⟩] ∧
      t.twin.rxSeq = (f.seq + 1) % 2 ^ 32)) ∧
  (∀ (f : MirrorF) (d : Word) (s : State), (s.mirrorAccept f).2 = true → s.twin.snapshotApplied = true →
    digestOf s.twin.decisions = d →
    Yields (.endOfRound f d) s (fun t => t.b F.TWIN_CMP_AGREE = true ∧
      t.g F.TWIN_CMP_ROUND = f.round % 2 ^ F.TWIN_CMP_ROUND.len ∧ t.twin.lastEndOfRound = f.round ∧
      t.rd .TWIN_COUNT 0 0 = BitVec.ofNat 64 (sat 64 ((s.rd .TWIN_COUNT 0 0).toNat + 1)))) ∧
  (∀ (f : MirrorF) (v a : Bool) (s : State), (s.mirrorAccept f).2 = true →
    Yields (.snapshot f v a) s (fun t => t.twin.snapshotFrames = s.twin.snapshotFrames + 1 ∧
      t.twin.snapshotApplied = (s.twin.snapshotApplied || f.last))) ∧
  (∀ (f : MirrorF) (c : Nat) (value bytes : Word) (s : State), (s.mirrorAccept f).2 = true → freeChannel c = true →
    Yields (.checkpoint f c value bytes) s (fun t => t.rd .CHK_CKPT_VALUE 0 c = value ∧
      t.gi F.CHK_CKPT_BYTES_BYTES c = bytes.toNat % 2 ^ F.CHK_CKPT_BYTES_BYTES.len)) ∧
  (∀ (f : MirrorF) (g lane r : Nat) (s : State), (s.mirrorAccept f).2 = true →
    Yields (.parity f g lane r) s (fun t => ∃ e ∈ t.twin.received, e.1 = g ∧ e.2.lane = lane ∧ e.2.region = r)) ∧
  (∀ (f : MirrorF) (s : State), (s.mirrorAccept f).2 = true → f.payload.length = State.licenceLen →
    Yields (.mirrorRecord f) s (fun t => t.pwr.partnerFeatures = some (field f.payload 0x0E 2 % 64))) ∧
  (∀ (i : Nat) (s : State), Yields (.twinEnrol i) s (fun t => t.twin.enrolSlot = some i ∧ Frame [] [] [.twin] s t)) ∧
  (∀ (a b : Nat) (s : State), Yields (.feed a b) s (fun t => t.twin.partnerFeed = (a, b) ∧ Frame [] [] [.twin] s t)) ∧
  (∀ (n : Nat) (s : State), s.isActive = true → s.twin.mismatch = none →
    Yields (.mismatch n) s (fun t => t.b F.TWIN_EVENT_MISMATCH = true ∧ t.twin.mismatch = some n ∧
      t.rd .TWIN_COUNT 0 1 = BitVec.ofNat 64 (sat 64 ((s.rd .TWIN_COUNT 0 1).toNat + 1)))) ∧
  (∀ (n : Nat) (s : State), s.twin.mismatch = some n →
    Yields (.selftestRun true) s (fun t => t.twin.ownTest = some true)) ∧
  (∀ (n : Nat) (pass : Bool) (s : State), s.twin.mismatch = some n →
    Yields (.selftest pass (n % 2 ^ 40)) s (fun t => t.twin.partnerTest = some pass ∧ Frame [] [] [.twin] s t)) ∧
  (∀ (n : Nat) (s : State), s.twin.mismatch = some n → n + 3 ≤ s.round → s.isActive = true → s.twin.ownTest = some true →
    s.twin.partnerTest = some true → s.twin.again = none →
    Yields .mismatchOutcome s (fun t => t.twin.mismatch = none ∧ t.b F.TWIN_EVENT_UNATTRIBUTED = true ∧
      t.rd .TWIN_COUNT 0 2 = BitVec.ofNat 64 (sat 64 ((s.rd .TWIN_COUNT 0 2).toNat + 1)))) ∧
  (∀ (level letter theirs epoch : Nat) (s : State), Yields (.hello level letter theirs epoch) s (fun t =>
      t.b F.TWIN_STATUS_PARTNER_SEEN = true ∧ t.g F.TWIN_STATUS_PARTNER_STATE = theirs % 2 ^ F.TWIN_STATUS_PARTNER_STATE.len ∧
      t.g F.TWIN_STATUS_PARTNER_LEVEL = level % 2 ^ F.TWIN_STATUS_PARTNER_LEVEL.len ∧ t.twin.helloRound = s.round)) ∧
  (∀ (level letter theirs epoch : Nat) (s : State), s.pair = Pair.starting → 9 ≤ s.g F.PWR_STATUS_STAGE →
    s.compatible level letter = true → (theirs = Pair.solo ∨ theirs = Pair.active) →
    Yields (.hello level letter theirs epoch) s (fun t => t.pair = Pair.syncing ∧ t.g F.PWR_STATUS_STAGE = 13)) ∧
  (∀ s : State, s.isActive = true → Yields .syncReq s (fun t => t.pair = Pair.solo ∧
      ∃ e ∈ t.sent, e.kind = .mirror ∧ e.a = Mirror.snapshot ∧ e.b = s.twin.txSeq)) ∧
  (∀ (seq : Nat) (s : State), s.isActive = true →
    s.twin.kept.find? (fun x => x.seq == seq && decide (s.round < x.round + 8)) = none →
    Yields (.mirrorNak seq) s (fun t => t.b F.TWIN_EVENT_MIRROR_LOSS = true ∧ t.pair = Pair.solo ∧
      t.rd .TWIN_COUNT 0 7 = BitVec.ofNat 64 (sat 64 ((s.rd .TWIN_COUNT 0 7).toNat + 1)))) ∧
  (∀ (f : MirrorF) (s : State), Yields (.mirrorInput f) s (fun t => t = (s.after (s.mirrorInput f)).settle)) ∧
  (∀ (f : MirrorF) (d : Word) (s : State), (s.mirrorAccept f).2 = true → s.twin.snapshotApplied = true →
    digestOf s.twin.decisions ≠ d →
    Yields (.endOfRound f d) s (fun t => t.b F.TWIN_CMP_AGREE = false ∧ t.b F.TWIN_EVENT_MISMATCH = true ∧
      t.rd .TWIN_DIGEST 0 1 = d ∧ t.twin.mismatch.isSome = true)) ∧
  (∀ (f : MirrorF) (s : State), (s.mirrorAccept f).2 = true → f.payload.length = 128 → field f.payload 0 1 < 8 →
    Yields (.mirrorRecord f) s (fun t => t.twin.enrolSlot = none ∧
      (t.gi F.KEY_SLOT_INFO_AGREE (field f.payload 0 1) = 1 ↔
        t.gi F.KEY_SLOT_SEQ_SEQUENCE (field f.payload 0 1) = field f.payload 8 8))) ∧
  (∀ s : State, Yields (.selftestRun false) s (fun t => t.b F.TWIN_EVENT_SELFTEST_FAIL = true ∧
      (s.twin.mismatch ≠ none → t.twin.ownTest = some false))) ∧
  (∀ (n : Nat) (s : State), s.twin.mismatch = some n → n + 3 ≤ s.round → Yields .mismatchOutcome s (fun t => t.twin.mismatch = none))

/-- Claims: a cross-connect without a manager grants one and records its release, a module that has more than half of the
grants holds control, and a claim is made when one is due (R359, R360, R367, R373, Tables 14.1 and 14.2).
Which modules claim is the model's reading (log entry 68).
The last clauses say, for every operand and every state, which operation gives the next state of each command that they name. -/
def Obligations.TwinClaimComplete : Prop :=
  (∀ (node port : Nat) (c : ClaimF) (s : State), c.crcOk = true → s.ga F.AG_IDENT_KIND node 0 ≠ 1 →
    s.facesVarlor node port = true → s.bn F.AG_MANAGER_VALID node = false → (s.ag node).grantRound ≠ some s.round →
    Yields (.claim node port c) s (fun t => t.bn F.AG_MANAGER_VALID node = true ∧
      t.ga F.AG_MANAGER_LETTER node 0 = (if c.primary then 0 else 1) ∧
      t.ga F.AG_MANAGER_CLAIM_EPOCH node 0 = c.epoch % 2 ^ F.AG_MANAGER_CLAIM_EPOCH.len ∧
      ∃ e ∈ t.sent, e.kind = .grant ∧ e.a = node ∧ e.b = port ∧ e.data = [if c.primary then 0 else 1, 0, c.epoch])) ∧
  (∀ (node port : Nat) (r : ClaimF) (s : State), r.crcOk = true → s.bn F.AG_MANAGER_VALID node = true →
    s.ga F.AG_MANAGER_PORT node 0 = port →
    Yields (.release node port r) s (fun t => t.bn F.AG_MANAGER_RELEASED node = true ∧
      Frame [] [(F.AG_MANAGER_RELEASED, node, 0)] [] s t)) ∧
  (∀ (node : Nat) (g : ClaimF) (s : State), g.crcOk = true → g.denied = false → g.epoch = s.claimEpoch →
    s.twin.claiming = true → s.pair = Pair.starting → s.claimVoters < 2 * (addOnce node s.twin.grants).length →
    Yields (.grant node g) s (fun t => t.pair = Pair.solo ∧ t.twin.claiming = false ∧ t.b F.ETH_STATUS_SPIRE_ADDR = true)) ∧
  (∀ (r : Nat) (s : State), s.pair = Pair.starting → s.twin.claiming = false → s.twin.claimRetry = some r → r ≤ s.round →
    Yields .claimRetry s (fun t => t.twin.claiming = true ∧ t.twin.claimRound = s.round ∧
      t.claimEpoch = (s.claimEpoch + 1) % 2 ^ 32)) ∧
  (∀ s : State, s.pair = Pair.starting → s.b F.TWIN_STATUS_PARTNER_SEEN = false → s.twin.claiming = false →
    s.twin.startedRound + 2048 ≤ s.round →
    Yields .startingTimeout s (fun t => t.twin.claiming = true ∧ t.twin.claimRound = s.round ∧
      t.claimEpoch = (s.claimEpoch + 1) % 2 ^ 32)) ∧
  (∀ s : State, s.pair = Pair.standby → s.twin.claiming = false →
    Yields .powerLoss s (fun t => t.twin.claiming = true ∧ t.twin.claimRound = s.round ∧
      t.claimEpoch = (s.claimEpoch + 1) % 2 ^ 32)) ∧
  (∀ (n : Nat) (s : State), s.pair = Pair.standby → s.twin.claiming = false → s.twin.lastEndOfRound < n → s.round < n + 2 →
    Yields (.activeSilence n) s (fun t => t.twin.claimRetry = some (n + 2) ∧ Frame [] [] [.twin] s t)) ∧
  (∀ s : State, s.pair = Pair.active → Yields .partnerLost s (fun t => t.b F.TWIN_STATUS_PARTNER_SEEN = false ∧
      t.pair = Pair.solo)) ∧
  (∀ (r : Nat) (s : State), s.twin.actsAt = some r → r ≤ s.round → s.isActive = true →
    Yields .takeoverAct s (fun t => t.twin.actsAt = none ∧ t.b F.ETH_STATUS_SPIRE_ADDR = true ∧ t.eth.sessions = [])) ∧
  (∀ (node port : Nat) (c : ClaimF) (s : State), c.crcOk = true → s.ga F.AG_IDENT_KIND node 0 ≠ 1 → s.facesVarlor node port = true →
    Yields (.claim node port c) s (fun t => ∃ e ∈ t.sent, e.kind = .grant ∧ e.a = node ∧ e.b = port ∧
      (e.data = [if c.primary then 0 else 1, 0, c.epoch] ∨
        e.data = [s.ga F.AG_MANAGER_LETTER node 0, 1, s.ga F.AG_MANAGER_CLAIM_EPOCH node 0]))) ∧
  (∀ (node : Nat) (g : ClaimF) (s : State), g.crcOk = true → g.denied = false → g.epoch = s.claimEpoch → s.twin.claiming = true →
    2 * (addOnce node s.twin.grants).length ≤ s.claimVoters →
    Yields (.grant node g) s (fun t => t.twin = { s.twin with grants := addOnce node s.twin.grants } ∧ t.pair = s.pair)) ∧
  (∀ (node : Nat) (g : ClaimF) (s : State), g.crcOk = true → g.denied = true → g.epoch ≤ s.claimEpoch → s.twin.claiming = true →
    Yields (.grant node g) s (fun t => t.b F.TWIN_EVENT_CLAIM_DENIED = true ∧ t.twin = s.twin)) ∧
  (∀ s : State, s.pair = Pair.active → Yields .powerLoss s (fun t => t.pair = Pair.solo)) ∧
  (∀ s : State, Yields .partnerLost s (fun t => t.b F.TWIN_STATUS_PARTNER_SEEN = false ∧
      t.pair = if s.pair = Pair.active then Pair.solo else s.pair)) ∧
  (∀ (round : Nat) (s : State), Yields (.activeSilence round) s (fun t => t = (s.activeSilence round).settle)) ∧
  (∀ (node : Nat) (g : ClaimF) (s : State), Yields (.grant node g) s (fun t => t = (s.grant node g).settle)) ∧
  (∀ s : State, Yields .claimRetry s (fun t => t = s.claimRetry.settle))

/-- Planned switches, drills, the hand-over, captures and feeds (R366, R369 to R372, R374 to R376).
How a drill ends and when a switch is due are the model's readings (log entries 69 and 72).
The last clauses say, for every operand and every state, which operation gives the next state of each command that they name. -/
def Obligations.TwinSwitchComplete : Prop :=
  (∀ s : State, s.pair = Pair.active → s.twin.stopped = false → s.twin.switchWanted = false →
    Yields .switch s (fun t => t.b F.TWIN_STATUS_HANDOVER = true ∧ t.twin.switchWanted = true ∧
      t.twin.switchSince = s.round ∧ t.answer.status = Status.ok)) ∧
  (∀ (hard : Bool) (s : State), s.pair = Pair.active → s.twin.stopped = false → s.twin.switchWanted = false →
    Yields (.drill hard) s (fun t => t.b F.TWIN_STATUS_DRILL = true ∧ t.answer.status = Status.ok ∧
      (if hard then t.twin.hardStopped = true else t.b F.TWIN_STATUS_HANDOVER = true) ∧
      t.rd .TWIN_COUNT 0 5 = BitVec.ofNat 64 (sat 64 ((s.rd .TWIN_COUNT 0 5).toNat + 1)))) ∧
  (∀ (d h : Bool) (s : State), s.pair = Pair.active → s.twin.stopped = false → s.twin.switchWanted = false →
    (d && h) = false →
    Yields (.switchReq d h) s (fun t => t.b F.TWIN_STATUS_HANDOVER = true ∧ t.twin.switchWanted = true ∧
      t.twin.switchSince = s.round)) ∧
  (∀ (r : Nat) (s : State), s.pair = Pair.standby →
    Yields (.switchAck r) s (fun t => t.twin.switchRound = some r ∧ t.b F.TWIN_STATUS_SWITCH_PENDING = true ∧
      Frame [F.TWIN_STATUS_SWITCH_PENDING] [] [.twin] s t)) ∧
  (∀ (r : Nat) (s : State), Yields (.switchRefuse r) s (fun t => t.b F.TWIN_EVENT_SWITCH_REFUSED = true ∧
      t.twin.switchWanted = false ∧ t.b F.TWIN_STATUS_HANDOVER = false ∧ t.b F.TWIN_STATUS_SWITCH_PENDING = false)) ∧
  (∀ (n : Nat) (s : State), s.switching = true → s.b F.TWIN_STATUS_HANDOVER = true →
    Yields (.handoverDone n) s (fun t => t.twin.handoverDone = true ∧ t.b F.TWIN_STATUS_HANDOVER = false)) ∧
  (∀ (r : Nat) (s : State), s.twin.switchRound = some r → r ≤ s.round → s.isActive = true → s.twin.actsAt = none →
    Yields .switchRound s (fun t => t.pair = Pair.syncing ∧
      t.rd .TWIN_COUNT 0 4 = BitVec.ofNat 64 (sat 64 ((s.rd .TWIN_COUNT 0 4).toNat + 1)))) ∧
  (∀ s : State, s.switching = true → s.twin.switchRound = none → s.twin.switchSince + 65536 ≤ s.round →
    Yields .switchRoundTimeout s (fun t => t.b F.TWIN_EVENT_SWITCH_REFUSED = true ∧ t.twin.switchWanted = false)) ∧
  (∀ s : State, s.switching = true → s.twin.switchRound = none →
    Yields .twinCancel s (fun t => t.twin.switchWanted = false ∧ t.b F.TWIN_STATUS_HANDOVER = false ∧
      t.answer.status = Status.ok)) ∧
  (∀ s : State, s.isPrimary = true → s.b F.TWIN_CFG_AUTO_RETURN = true → s.pair = Pair.standby →
    s.twin.standbySince + s.g F.TWIN_CFG_RETURN_DELAY ≤ s.round → s.bell.install = none → s.rep.batch = [] →
    s.twin.switchWanted = false →
    Yields .autoReturn s (fun t => t.twin.switchWanted = true)) ∧
  (∀ (r : Nat) (s : State), s.twin.drillReturn = some r → r ≤ s.round → s.pair = Pair.standby →
    Yields .drillReturn s (fun t => t.twin.drillReturn = none ∧ t.twin.switchWanted = true)) ∧
  (∀ s : State, s.shadowing = true → Yields .resync s (fun t => t.pair = Pair.syncing ∧ t.answer.status = Status.ok ∧
      t.twin.snapshotApplied = false)) ∧
  (∀ s : State, Yields .clearCapture s (fun t => t.twin.captures = [] ∧ t.answer.status = Status.ok ∧
      ∀ i < 4, t.gi F.TWIN_CAP_INFO_VALID i = 0)) ∧
  (∀ s : State, Yields .twinCapWordAdvance s (fun t =>
      t.g F.TWIN_CAP_SEL_WINDOW = (s.g F.TWIN_CAP_SEL_WINDOW + 1) % 2 ^ 14 ∧
      Frame [F.TWIN_CAP_SEL_WINDOW] [] [.twin] s t)) ∧
  (∀ (f mv : Nat) (s : State), f < 2 → Yields (.feedStateChange f mv) s (fun t =>
      t.gi F.TWIN_FEED_STATE f = State.feedState (s.gi F.TWIN_FEED_STATE f) mv ∧
      t.gi F.TWIN_FEED_MV f = sat 17 mv)) ∧
  (∀ (r : Nat) (s : State), s.twin.switchRound = some r → r ≤ s.round → s.pair = Pair.standby → s.twin.claiming = false →
    Yields .switchRound s (fun t => t.twin.claiming = true ∧ t.twin.claimRound = s.round ∧ t.twin.switchRound = some r)) ∧
  (∀ (r : Nat) (s : State), s.switching = true → s.twin.switchRound = some r → s.round < r →
    Yields .twinCancel s (fun t => t.twin.switchWanted = false ∧ t.twin.switchRound = none ∧ t.answer.status = Status.ok)) ∧
  (∀ (drill hard : Bool) (s : State), Yields (.switchReq drill hard) s (fun t => t = (s.switchReq drill hard).settle)) ∧
  (∀ s : State, Yields .autoReturn s (fun t => t = s.autoReturn.settle)) ∧
  (∀ s : State, Yields .switchRound s (fun t => t = s.switchRound.settle))

/-- Power and pace: the voltage loop steps the core rail by 5 mV, a hot junction brings it to economy, a full round below
target at the ceiling is a deficit whose fallback applies from the next round, and the only feed that conducts limits the
rail, and takes the module down at economy; an ENABLE that stands starts bring-up with the feed that becomes OK (R31, R32, R36,
R412, R439).
The windows that make a deficit are read as log entry 53 says, and an ENABLE that is held as log entry 154 says. -/
def Obligations.PowerCommandsComplete : Prop :=
  (∀ (counts : List Nat) (m : Pace) (s : State), m ∈ s.pwr.pace → 3 ≤ m.row → s.raiseBarred = false →
    s.g F.PWR_STATUS_CORE_MV + 5 ≤ s.ceilingMv →
    Yields (.paceWindow counts) s (fun t => counts.getD (m.engine - 1) 0 < s.paceWant m.engine →
      t.g F.PWR_STATUS_CORE_MV = s.g F.PWR_STATUS_CORE_MV + 5 ∧
      t.gi F.PWR_RAIL_MV 4 = s.g F.PWR_STATUS_CORE_MV + 5 ∧ ∀ x ∈ t.pwr.pace, x.row = 0)) ∧
  (∀ (counts : List Nat) (s : State), (∀ m ∈ s.pwr.pace, s.paceWant m.engine ≤ counts.getD (m.engine - 1) 0 ∧ m.row = 0 ∧ m.fast = false) →
    s.pwr.pace ≠ [] → Yields (.paceWindow counts) s (fun t => t.pwr.windows = s.pwr.windows + 1 ∧
      t.g F.PWR_STATUS_CORE_MV = s.g F.PWR_STATUS_CORE_MV)) ∧
  (∀ (deciC : Nat) (s : State), deciC < 1050 → Yields (.junctionTemperatureThreshold deciC) s (fun t =>
      t.g F.PWR_STATUS_TJ_MAX = deciC ∧ t.g F.PWR_STATUS_CORE_MV = s.g F.PWR_STATUS_CORE_MV)) ∧
  (∀ (deciC : Nat) (s : State), 1050 ≤ deciC → deciC < 4096 → Yields (.junctionTemperatureThreshold deciC) s (fun t =>
      t.g F.PWR_STATUS_TJ_MAX = deciC ∧ t.g F.PWR_STATUS_CORE_MV = min 600 (s.g F.PWR_STATUS_CORE_MV))) ∧
  (∀ (engine : Nat) (m : Pace) (s : State), s.paceOf engine = some m → s.paceShort engine = true → s.railSpent = true →
    Yields (.paceDeficit engine) s (fun t => t.gi F.PWR_PACE_DEFICIT engine = 1 ∧ t.b F.PWR_STATUS_DEFICIT = true ∧
      t.b F.PWR_EVENT_DEFICIT = true ∧
      t.gi F.PWR_PACE_DEFICITS engine = sat 32 (s.gi F.PWR_PACE_DEFICITS engine + 1))) ∧
  (∀ (engine : Nat) (s : State), s.gi F.PWR_PACE_DEFICIT engine = 1 →
    Yields (.fallbackApply engine) s (fun t => engine ∈ t.pwr.fallback ∧ Frame [] [] [.pwr] s t)) ∧
  (∀ (ma : Nat) (s : State), s.pwr.feedEconomy = false → 16000 ≤ ma → s.gi F.TWIN_FEED_STATE 0 < 2 →
    2 ≤ s.gi F.TWIN_FEED_STATE 1 → Yields (.feedCurrentLimit ma) s (fun t => t.pwr.feedHold = true ∧ t.pwr.feedEconomy = true ∧
      t.g F.PWR_STATUS_CORE_MV = min 600 (s.g F.PWR_STATUS_CORE_MV))) ∧
  (∀ (ma : Nat) (s : State), ma < 14000 → s.pwr.feedCalm = none →
    Yields (.feedCurrentLimit ma) s (fun t => t.pwr.feedCalm = some s.round)) ∧
  (∀ (counts : List Nat) (s : State), Yields (.paceWindow counts) s (fun t => t.pwr.windows = s.pwr.windows + 1 ∧
      t.pwr.pace.map (fun x => x.engine) = s.pwr.pace.map (fun x => x.engine) ∧
      t.pwr.pace.map (fun x => x.done) = s.pwr.pace.map (fun x => x.done + counts.getD (x.engine - 1) 0))) ∧
  (∀ (deciC : Nat) (s : State), Yields (.junctionTemperatureThreshold deciC) s (fun t => t.g F.PWR_STATUS_TJ_MAX = sat 12 deciC)) ∧
  (∀ (ma : Nat) (s : State), s.pwr.feedEconomy = false → 14000 ≤ ma → Yields (.feedCurrentLimit ma) s (fun t =>
      t.pwr.feedCalm = none ∧
      (15500 ≤ ma → s.gi F.TWIN_FEED_STATE 0 < 2 → 2 ≤ s.gi F.TWIN_FEED_STATE 1 → t.pwr.feedHold = true) ∧
      (15500 ≤ ma → 2 ≤ s.gi F.TWIN_FEED_STATE 0 → s.gi F.TWIN_FEED_STATE 1 < 2 → t.pwr.feedHold = true))) ∧
  (∀ (ma : Nat) (s : State), s.pwr.feedEconomy = true → s.g F.PWR_STATUS_CORE_MV ≤ 600 → 16000 ≤ ma →
    s.gi F.TWIN_FEED_STATE 0 < 2 → 2 ≤ s.gi F.TWIN_FEED_STATE 1 →
    Yields (.feedCurrentLimit ma) s (fun t => t.pwr.started = false)) ∧
  (∀ (f mv : Nat) (s : State), s.pwr.enable = true → s.pwr.started = false → s.pwr.tripped = false → s.pwr.standbyUp = true →
    f < 2 → State.feedState (s.gi F.TWIN_FEED_STATE f) mv = 0 →
    Yields (.feedStateChange f mv) s (fun t => t.pwr.started = true ∧ t.g F.PWR_STATUS_STAGE = 0))

/-- Units that fail inside the module: while spares are left a bank group, a GF lane or a failed package is retired with its
event, and the spares left decrease (R420, R421, R54). -/
def Obligations.UnitRetirementComplete : Prop :=
  (∀ (physical : Nat) (s : State), physical ∉ s.pwr.banksRetired → 0 < s.g F.IDENT_INTERNAL_BANK_SPARES →
    Yields (.bankGroupMigrate physical) s (fun t => t.pwr.banksRetired = s.pwr.banksRetired ++ [physical] ∧
      t.b F.PWR_EVENT_SRAM_RETIRED = true ∧
      t.g F.IDENT_INTERNAL_BANK_SPARES = s.g F.IDENT_INTERNAL_BANK_SPARES - 1 ∧
      t.g F.IDENT_INTERNAL_BANKS = s.g F.IDENT_INTERNAL_BANKS)) ∧
  (∀ (physical : Nat) (s : State), physical ∉ s.pwr.lanesRetired → 0 < s.g F.IDENT_INTERNAL_GF_SPARES →
    Yields (.gfLaneRetire physical) s (fun t => t.pwr.lanesRetired = s.pwr.lanesRetired ++ [physical] ∧
      t.b F.PWR_EVENT_GF_RETIRED = true ∧
      t.g F.IDENT_INTERNAL_GF_SPARES = s.g F.IDENT_INTERNAL_GF_SPARES - 1 ∧
      t.g F.IDENT_INTERNAL_GF_LANES = s.g F.IDENT_INTERNAL_GF_LANES)) ∧
  (∀ (physical : Nat) (s : State), physical ∉ s.pwr.lanesRetired → s.g F.IDENT_INTERNAL_GF_SPARES = 0 →
    Yields (.gfLaneRetire physical) s (fun t => t.pwr.lanesRetired = s.pwr.lanesRetired ++ [physical] ∧
      t.b F.PWR_EVENT_GF_RETIRED = true ∧
      t.g F.IDENT_INTERNAL_GF_LANES = (s.g F.IDENT_INTERNAL_GF_LANES - 1) % 128)) ∧
  (∀ (physical : Nat) (owners : List Nat) (s : State), physical ∉ s.pwr.banksRetired →
    0 < s.g F.IDENT_INTERNAL_BANK_SPARES →
    Yields (.sramUncorrectable physical 2 owners) s (fun t => t.pwr.banksRetired = s.pwr.banksRetired ++ [physical] ∧
      t.b F.PWR_EVENT_SRAM_RETIRED = true ∧
      t.sen.now = s.sen.now.map (fun (x : Stats) =>
        if owners.contains x.group then (Stats.empty x.group x.member x.tensor x.step).flag 0 else x))) ∧
  (∀ (package : Nat) (s : State), package ∉ s.pwr.packagesRetired → s.plan.cur = none →
    Yields (.packageFailure package) s (fun t => t.pwr.packagesRetired = s.pwr.packagesRetired ++ [package] ∧
      t.b F.PWR_EVENT_PACKAGE_RETIRED = true ∧
      t.g F.IDENT_INTERNAL_PACKAGES = (s.g F.IDENT_INTERNAL_PACKAGES - 1) % 128)) ∧
  (∀ (physical : Nat) (s : State), physical ∉ s.pwr.banksRetired →
    Yields (.bankGroupMigrate physical) s (fun t => t.pwr.banksRetired = s.pwr.banksRetired ++ [physical] ∧
      t.b F.PWR_EVENT_SRAM_RETIRED = true)) ∧
  (∀ (physical region : Nat) (owners : List Nat) (s : State), physical ∉ s.pwr.banksRetired →
    Yields (.sramUncorrectable physical region owners) s (fun t => t.pwr.banksRetired = s.pwr.banksRetired ++ [physical] ∧
      t.b F.PWR_EVENT_SRAM_RETIRED = true)) ∧
  (∀ (package : Nat) (s : State), package ∉ s.pwr.packagesRetired →
    Yields (.packageFailure package) s (fun t => t.pwr.packagesRetired = s.pwr.packagesRetired ++ [package] ∧
      t.b F.PWR_EVENT_PACKAGE_RETIRED = true))

/-- Supplies and bring-up: a power cycle samples the straps, starts a new cycle and a new mailbox epoch; ENABLE starts bring-up at
stage 0 and ends it; the stages go on one by one; a rail out of regulation, a trip and a loss of power have their effects
(R283, R308, R356, R376, R409 to R414, R440, R441, R449).
What a rise of the standby rail keeps is read as log entries 34, 59 and 61 say. -/
def Obligations.SupplyCommandsComplete : Prop :=
  (∀ (slot letter : Nat) (s : State), Yields (.standbyRailUp slot letter) s (fun t => t.pwr.standbyUp = true ∧
      t.pwr.started = false ∧ t.g F.BELF_CYCLE_POWER_CYCLES = sat 32 (s.g F.BELF_CYCLE_POWER_CYCLES + 1) ∧
      t.g F.TWIN_STATUS_LETTER = letter % 2 ∧ t.g F.IDENT_PART_SLOT_ID = slot % 64 ∧
      t.g F.MBX_EPOCH_EPOCH = (s.g F.MBX_EPOCH_EPOCH + 1) % 256)) ∧
  (∀ s : State, s.g F.BELF_STATUS_STATE ≠ 1 → s.g F.BELF_STATUS_STATE ≠ 3 → s.belf.queue.length < queueCapacity →
    Yields .strapChange s (fun t => (∃ r, t.belf.queue = s.belf.queue ++ [r] ∧ r.rtype = 8 ∧ r.sev = 3) ∧
      Frame [] [] [.belf] s t)) ∧
  (∀ s : State, s.pwr.started = false → s.pwr.tripped = false → s.pwr.standbyUp = true →
    (s.gi F.TWIN_FEED_STATE 0 = 0 ∨ s.gi F.TWIN_FEED_STATE 1 = 0) →
    Yields .enableAssert s (fun t => t.pwr.started = true ∧ t.pwr.enable = true ∧ t.g F.PWR_STATUS_STAGE = 0 ∧
      t.gi F.PWR_RAIL_STATE 0 = 2)) ∧
  (∀ s : State, s.pwr.tripped = true →
    Yields .enableAssert s (fun t => t.pwr = { s.pwr with enable := true } ∧ Frame [] [] [.pwr] s t)) ∧
  (∀ s : State, s.pwr.started = true →
    Yields .enableDeassert s (fun t => t.pwr.started = false ∧ t.pwr.enable = false ∧ t.pwr.tripped = false ∧
      t.belf.prevClean = true ∧ ∀ r, 1 ≤ r → r ≤ 8 → t.gi F.PWR_RAIL_STATE r = 0)) ∧
  (∀ s : State, s.pwr.started = true →
    Yields .powerFail s (fun t => t.pwr.started = false ∧ t.belf.prevClean = false)) ∧
  (∀ (deciC : Nat) (s : State), 1120 ≤ deciC → s.pwr.started = true →
    Yields (.junctionTrip deciC) s (fun t => t.pwr.started = false ∧ t.pwr.tripped = true)) ∧
  (∀ (rail mv : Nat) (s : State), rail < 9 →
    Yields (.railFault rail mv) s (fun t => t.gi F.PWR_RAIL_STATE rail = 3 ∧ t.gi F.PWR_RAIL_MV rail = sat 16 mv ∧
      Frame [] [(F.PWR_RAIL_STATE, 0, rail), (F.PWR_RAIL_MV, 0, rail)] [] s t)) ∧
  (∀ (r : StageResult) (s : State), s.pwr.started = true → s.g F.PWR_STATUS_STAGE = 0 → r.ok = true →
    Yields (.bringupStageComplete r) s (fun t => t.g F.PWR_STATUS_STAGE = 1 ∧ t.gi F.PWR_STAGE_MS_MS 0 = sat 32 r.ms ∧
      ∀ k < 9, t.gi F.PWR_RAIL_STATE k = 2)) ∧
  (∀ (r : StageResult) (s : State), s.pwr.started = true → s.g F.PWR_STATUS_STAGE = 1 → r.ok = false →
    Yields (.bringupStageComplete r) s (fun t => t.g F.PWR_STATUS_STAGE = 1 ∧ t.b F.PWR_STATUS_STAGE_FAIL = true ∧
      t.b F.PWR_EVENT_STAGE_FAIL = true ∧ t.pins.alarmN = false)) ∧
  (∀ (r : StageResult) (s : State), s.pwr.started = true → s.g F.PWR_STATUS_STAGE ≤ 8 → r.ok = true → r.failed = [] →
    (s.g F.PWR_STATUS_STAGE = 2 → (s.slotFor []).isSome = true) →
    Yields (.bringupStageComplete r) s (fun t => t.g F.PWR_STATUS_STAGE = s.g F.PWR_STATUS_STAGE + 1 ∧
      t.b F.PWR_STATUS_STAGE_FAIL = false ∧ t.gi F.PWR_STAGE_MS_MS (s.g F.PWR_STATUS_STAGE) = sat 32 r.ms)) ∧
  (∀ (r : StageResult) (p : Plan) (s : State), s.pwr.started = true → s.g F.PWR_STATUS_STAGE = 9 → s.isActive = true →
    s.plan.cur = some p → Yields (.bringupStageComplete r) s (fun t => t.g F.PWR_STATUS_STAGE = 10 ∧ t.plan.cur = some p)) ∧
  (∀ (r : StageResult) (s : State), s.pwr.started = true → s.g F.PWR_STATUS_STAGE = 10 → s.isActive = true → r.ok = true →
    s.discState = DState.bound → Yields (.bringupStageComplete r) s (fun t => t.g F.PWR_STATUS_STAGE = 11)) ∧
  (∀ (r : StageResult) (s : State), s.pwr.started = true → s.g F.PWR_STATUS_STAGE = 11 → s.isActive = true →
    Yields (.bringupStageComplete r) s (fun t => t.g F.PWR_STATUS_STAGE = 12 ∧ t.gi F.PWR_STAGE_MS_MS 11 = sat 32 r.ms)) ∧
  (∀ (r : StageResult) (s : State), s.pwr.started = true → r.ok = false → r.failed = [] →
    (s.g F.PWR_STATUS_STAGE ≤ 1 ∨ s.g F.PWR_STATUS_STAGE = 8 ∨ (s.g F.PWR_STATUS_STAGE = 10 ∧ s.isActive = true)) →
    Yields (.bringupStageComplete r) s (fun t => t.g F.PWR_STATUS_STAGE = s.g F.PWR_STATUS_STAGE ∧
      t.b F.PWR_STATUS_STAGE_FAIL = true ∧ t.b F.PWR_EVENT_STAGE_FAIL = true))

/-- Resets: a request waits on a module that is alone, can be cancelled, drains from the first quiet round, gives up after its wait, and
begins at once by the watchdog; a service restore ends it (R209, R422 to R426, Table 17.5). -/
def Obligations.ResetCommandsComplete : Prop :=
  (∀ s : State, s.resetState = RState.running → s.pair = Pair.solo →
    Yields (.serviceReset false) s (fun t => t.g F.PWR_STATUS_RESET = 1 ∧ t.answer.status = Status.ok ∧
      t.pwr = { s.pwr with resetFull := false, resetForce := false, fullTest := false, waitFrom := s.round } ∧
      Frame [F.PWR_STATUS_RESET] [] [.pwr, .answer] s t)) ∧
  (∀ (test : Bool) (s : State), s.resetState = RState.running → s.pair = Pair.solo →
    Yields (.fullReset false test) s (fun t => t.g F.PWR_STATUS_RESET = 1 ∧ t.answer.status = Status.ok ∧
      t.pwr = { s.pwr with resetFull := true, resetForce := false, fullTest := test, waitFrom := s.round } ∧
      Frame [F.PWR_STATUS_RESET] [] [.pwr, .answer] s t)) ∧
  (∀ s : State, s.resetState = RState.waiting ∨ s.resetState = RState.draining →
    Yields .cancelReset s (fun t => t.g F.PWR_STATUS_RESET = 0 ∧ t.answer.status = Status.ok ∧
      Frame [F.PWR_STATUS_RESET] [] [.pwr, .graph, .answer] s t)) ∧
  (∀ s : State, s.resetState = RState.waiting → s.pair = Pair.solo → s.quietLanes = true → s.graph.tasks = [] →
    Yields .quietRoundFound s (fun t => t.g F.PWR_STATUS_RESET = 2 ∧
      t.graph.disables = s.graph.disables ++ [⟨7, 0, s.round, 0, false, false⟩] ∧
      Frame [F.PWR_STATUS_RESET] [] [.graph] s t)) ∧
  (∀ s : State, s.resetState = RState.waiting → s.pwr.resetForce = false →
    s.pwr.waitFrom + s.g F.PWR_CFG_RESET_WAIT ≤ s.round →
    Yields .resetWaitExpiry s (fun t => t.g F.PWR_STATUS_RESET = 0 ∧ t.b F.PWR_EVENT_RESET_REFUSED = true)) ∧
  (∀ s : State, s.resetState < 3 → Yields .stewardWatchdog s (fun t => t.g F.PWR_STATUS_RESET = 3 ∧
      t.eth.sessions = [] ∧ t.graph.ledger = s.graph.ledger)) ∧
  (∀ s : State, s.resetState = RState.resetting → s.pwr.resetFull = false →
    Yields .serviceRestore s (fun t => t.g F.PWR_STATUS_RESET = 0 ∧ t.b F.PWR_EVENT_SERVICE_RESET = true)) ∧
  (∀ s : State, s.resetState ≠ RState.waiting →
    Yields .roundClose s (fun t => t.round = (s.round + 1) % 2 ^ 48)) ∧
  (∀ s : State, s.resetState = RState.waiting → s.pair = Pair.solo → s.quietLanes = true →
    Yields .quietRoundFound s (fun t => t.g F.PWR_STATUS_RESET = 2 ∧
      (∃ b, t.graph.disables = s.graph.disables ++ [⟨7, 0, s.round, b, false, false⟩]) ∧
      Frame [F.PWR_STATUS_RESET] [] [.graph] s t)) ∧
  (∀ (force : Bool) (s : State), s.resetState = RState.running → s.pair ≠ Pair.solo → s.pair ≠ Pair.active →
    Yields (.serviceReset force) s (fun t => t.g F.PWR_STATUS_RESET = 3 ∧ t.answer.status = Status.ok ∧
      t.eth.sessions = [] ∧ t.twin.stopped = true)) ∧
  (∀ s : State, s.resetState = RState.running → s.pair = Pair.active →
    Yields (.serviceReset false) s (fun t => t.g F.PWR_STATUS_RESET = 1 ∧ t.answer.status = Status.ok ∧ t.switching = true)) ∧
  (∀ s : State, s.resetState = RState.running → s.pair = Pair.active →
    Yields (.serviceReset true) s (fun t => t.g F.PWR_STATUS_RESET = 3 ∧ t.answer.status = Status.ok)) ∧
  (∀ s : State, s.resetState = RState.running → s.pair = Pair.solo →
    Yields (.serviceReset true) s (fun t => t.g F.PWR_STATUS_RESET = 2 ∧ t.answer.status = Status.ok)) ∧
  (∀ (force test : Bool) (s : State), s.resetState = RState.running → s.pair ≠ Pair.solo → s.pair ≠ Pair.active →
    Yields (.fullReset force test) s (fun t => t.g F.PWR_STATUS_RESET = 3 ∧ t.answer.status = Status.ok ∧
      t.g F.PWR_STATUS_STAGE = 1 ∧ t.pwr.fullTest = test ∧ t.pwr.started = true)) ∧
  (∀ s : State, Yields .roundClose s (fun t => t = (s.after s.endRound.beginRound).settle))

/-- Firmware and licences: staging a segment, verifying with the outcome that the checks give, applying a verified image,
giving it up, committing it after 1,024 good rounds; installing a licence (R430 to R435).
That verifying and giving up are refused in APPLIED is the model's choice (log entry 66), and a signature is an opaque predicate (log entry 3). -/
def Obligations.UpdateCommandsComplete : Prop :=
  (∀ (i : Nat) (w : Word) (s : State), i < 1023 →
    Yields (.pwrStageDataWrite i w) s (fun t => t.pwr.segment = setKey s.pwr.segment i w ∧ t.answer.status = Status.ok ∧
      Frame [] [] [.pwr, .answer] s t)) ∧
  (∀ (w : Word) (s : State), Yields (.pwrStageSelWrite w) s (fun t => t.g F.PWR_STAGE_SEL_TARGET = getBits w 0 2 ∧
      t.g F.PWR_STAGE_SEL_OFFSET = getBits w 8 24 ∧ t.pwr.segment = [] ∧ t.answer.status = Status.ok ∧
      (getBits w 0 2 = 1 → t.pwr.firmware = [] ∧ t.g F.IDENT_FW_OTHER_VALID = 0) ∧
      (getBits w 0 2 = 2 → t.pwr.licence = []))) ∧
  (∀ s : State, s.g F.PWR_FW_STATUS_STATE ≠ 4 →
    Yields .fwVerify s (fun t => t.g F.PWR_FW_STATUS_ERR = s.firmwareError.1 % 16 ∧ t.answer.status = Status.ok ∧
      (s.firmwareError.1 = 0 → t.g F.PWR_FW_STATUS_STATE = 2 ∧ t.b F.PWR_EVENT_FW_VERIFIED = true ∧
        t.g F.IDENT_FW_OTHER_VALID = 1) ∧
      (s.firmwareError.1 ≠ 0 → t.g F.PWR_FW_STATUS_STATE = 3 ∧ t.b F.PWR_EVENT_FW_REFUSED = true ∧ t.pwr = s.pwr))) ∧
  (∀ s : State, s.g F.PWR_FW_STATUS_STATE = 2 → s.pair = Pair.solo → s.resetState = RState.running →
    Yields .fwApply s (fun t => t.g F.PWR_FW_STATUS_STATE = 4 ∧ t.pwr.preferred = 1 - s.g F.IDENT_FW_SLOT ∧
      t.pwr.applying = true ∧ t.g F.PWR_STATUS_RESET = 1 ∧ t.answer.status = Status.ok)) ∧
  (∀ s : State, s.g F.PWR_FW_STATUS_STATE ≠ 4 →
    Yields .fwAbandon s (fun t => t.g F.PWR_FW_STATUS_STATE = 0 ∧ t.answer.status = Status.ok ∧
      Frame [F.PWR_FW_STATUS_STATE, F.PWR_FW_STATUS_ERR, F.PWR_FW_STATUS_LENGTH_KIB] [] [.answer] s t)) ∧
  (∀ s : State, s.pwr.applying = true → s.g F.IDENT_FW_SLOT = s.pwr.preferred → 1024 ≤ s.pwr.goodRounds →
    Yields .fwCommit s (fun t => t.b F.IDENT_FW_COMMITTED = true ∧ t.g F.PWR_FW_STATUS_STATE = 0 ∧ t.pwr.applying = false ∧
      t.pwr.minSecurity = max s.pwr.minSecurity (s.g F.IDENT_FW_SECURITY) ∧ t.b F.PWR_EVENT_FW_COMMITTED = true)) ∧
  (∀ s : State, Yields .licInstall s (fun t =>
      (s.licenceError (stagedRun State.licenceLen 0 s.pwr.licence) = 0 →
        t.g F.PWR_LIC_STATUS_ERR = 0 ∧ t.answer.status = Status.ok ∧ t.b F.PWR_EVENT_LIC_INSTALLED = true ∧
        t.g F.IDENT_LIC_CODE = field (stagedRun State.licenceLen 0 s.pwr.licence) 0x0A 1 % 2 ^ F.IDENT_LIC_CODE.len) ∧
      (s.licenceError (stagedRun State.licenceLen 0 s.pwr.licence) ≠ 0 →
        t.answer.status = Status.value ∧ t.b F.PWR_EVENT_LIC_REFUSED = true ∧ t.pwr = s.pwr)))

/-- What the commands at an agent leave alone: every register of Varlor and of every other agent but those named, every other
      part of the state (R391, R405, R406). -/
def Obligations.AgentFrames : Prop :=
  (∀ (node : Nat) (port : Nat) (s t : State), exec (.neighbourSilent node port) s = .next t →
    Frame [F.AG_FAULT_CAUSE, F.AG_FAULT_COUNT, F.AG_FAULT_CUPOLA, F.AG_FAULT_FLOW, F.AG_FAULT_PORT] [] [.agents] s t ∧ OneAgent
      node s t) ∧
  (∀ (node : Nat) (ingress : Nat) (route : List Nat) (s t : State), exec (.probe node ingress route) s = .next t →
    Frame [] [] [.agents] s t ∧ OneAgent node s t) ∧
  (∀ (node : Nat) (tag : Nat) (s t : State), exec (.receiptTimeout node tag) s = .next t → node < 510 →
    Frame [whole .AG_COUNT] [] [.agents, .sent] s t ∧ OneAgent node s t) ∧
  (∀ (node : Nat) (flow : Nat) (s t : State), exec (.drainBoundExpiry node flow) s = .next t →
    Frame [F.AG_FAULT_CAUSE, F.AG_FAULT_COUNT, F.AG_FAULT_CUPOLA, F.AG_FAULT_FLOW, F.AG_FAULT_PORT, whole .AG_COUNT, whole
      .AG_EVENT] [] [.agents, .sent] s t ∧ OneAgent node s t) ∧
  (∀ (node : Nat) (m : ManifestP) (s t : State), exec (.manifest node m) s = .next t →
    Frame [F.AG_ACT_ROUND_ROUND, F.AG_INSTALL_INSTALL_ID, F.AG_INSTALL_KIND, F.AG_INSTALL_MAP_MAP, F.AG_INSTALL_REFUSAL,
      F.AG_INSTALL_SEGMENTS, F.AG_INSTALL_STATE, F.AG_INSTALL_TABLE, whole .AG_EVENT] [] [.agents, .sent] s t ∧ OneAgent node s
      t) ∧
  (∀ (node : Nat) (seg : Segment) (s t : State), exec (.tableSegment node seg) s = .next t →
    Frame [F.AG_INSTALL_MAP_MAP, F.AG_INSTALL_REFUSAL, F.AG_INSTALL_STATE, F.AG_INSTALL_TABLE, whole .AG_COUNT, whole
      .AG_EVENT] [] [.agents, .sent] s t ∧ OneAgent node s t) ∧
  (∀ (node : Nat) (a : ActivateP) (s t : State), exec (.activateDiscard node a) s = .next t →
    Frame [F.AG_INSTALL_STATE] [] [.agents] s t ∧ OneAgent node s t) ∧
  (∀ (node : Nat) (s t : State), exec (.bankSwitch node) s = .next t →
    Frame [F.AG_INSTALL_STATE, F.AG_NODE_EPOCH, F.AG_NODE_NODE, F.AG_PORT_CFG_DARK, F.AG_PORT_STATE, F.AG_STATUS_ROUND_CODE,
      whole .AG_COUNT, whole .AG_EVENT] [] [.agents, .sent] s t ∧ OneAgent node s t) ∧
  (∀ (node : Nat) (b : FailBcast) (s t : State), exec (.failureBroadcast node b) s = .next t →
    Frame [whole .AG_COUNT] [] [.agents, .sent] s t ∧ OneAgent node s t) ∧
  (∀ (node : Nat) (port : Nat) (c : ClaimF) (s t : State), exec (.claim node port c) s = .next t →
    Frame [F.AG_MANAGER_CLAIM_EPOCH, F.AG_MANAGER_LETTER, F.AG_MANAGER_PORT, F.AG_MANAGER_RELEASED, F.AG_MANAGER_VALID] []
      [.agents, .sent] s t ∧ OneAgent node s t) ∧
  (∀ (node : Nat) (slot : Nat) (s t : State), exec (.keyPromote node slot) s = .next t →
    Frame [F.AG_KEY_INFO_CUPOLA, F.AG_KEY_INFO_EPOCH, F.AG_KEY_INFO_LOADED] [] [.agents] s t ∧ OneAgent node s t) ∧
  (∀ (node : Nat) (port : Nat) (s t : State), exec (.hopRekey node port) s = .next t →
    Frame [F.AG_KEY_INFO_CUPOLA, F.AG_KEY_INFO_EPOCH, F.AG_KEY_INFO_LOADED, F.AG_MBX_FULL_OUT_FULL, F.AG_MBX_FULL_QUEUED,
      F.AG_PORT_CFG_FORCE_REKEY, F.KEY_EVENT_REKEY_STALL, whole .AG_EVENT, whole .AG_MBX_OUT] [] [.agents, .sent] s t ∧
      OneAgent node s t) ∧
  (∀ (node : Nat) (port : Nat) (s t : State), exec (.forceRekey node port) s = .next t →
    Frame [F.AG_KEY_INFO_CUPOLA, F.AG_KEY_INFO_EPOCH, F.AG_KEY_INFO_LOADED, F.AG_MBX_FULL_OUT_FULL, F.AG_MBX_FULL_QUEUED,
      F.AG_PORT_CFG_FORCE_REKEY, F.KEY_EVENT_REKEY_STALL, whole .AG_EVENT, whole .AG_MBX_OUT] [] [.agents, .sent] s t ∧
      OneAgent node s t) ∧
  (∀ (node : Nat) (afterFatal : Bool) (s t : State), exec (.computeInReset node afterFatal) s = .next t →
    Frame [F.AG_EPOCH_ELEMENT, F.AG_FAULT_CAUSE, F.AG_FAULT_COUNT, F.AG_FAULT_CUPOLA, F.AG_FAULT_FLOW, F.AG_FAULT_PORT,
      F.AG_MBX_FULL_IN_FULL, F.AG_MBX_FULL_OUT_FULL, F.AG_MBX_FULL_QUEUED, F.AG_STATUS_COMPUTE_RESET, F.AG_STATUS_COMPUTE_UP,
      whole .AG_MBX_OUT] [] [.agents, .sent] s t ∧ OneAgent node s t) ∧
  (∀ (node : Nat) (usable : Nat) (designed : Nat) (s t : State), exec (.computeUp node usable designed) s = .next t →
    Frame [F.AG_CENSUS_DESIGNED, F.AG_CENSUS_USABLE, F.AG_FAULT_CAUSE, F.AG_FAULT_COUNT, F.AG_FAULT_CUPOLA, F.AG_FAULT_FLOW,
      F.AG_FAULT_PORT, F.AG_STATUS_COMPUTE_RESET, F.AG_STATUS_COMPUTE_UP] [] [.agents, .sent] s t ∧ OneAgent node s t) ∧
  (∀ (node : Nat) (flow : Nat) (s t : State), exec (.agQuiesceFlow node flow) s = .next t →
    Frame [F.AG_STATUS_QUIESCED] [] [.agents] s t ∧ OneAgent node s t) ∧
  (∀ (node : Nat) (flow : Nat) (s t : State), exec (.agResumeFlow node flow) s = .next t →
    Frame [F.AG_STATUS_QUIESCED] [] [.agents] s t ∧ OneAgent node s t) ∧
  (∀ (node : Nat) (index : Nat) (value : Word) (s t : State), exec (.agMbxInWrite node index value) s = .next t →
    Frame [F.AG_MBX_FULL_IN_FULL] [] [.agents, .mbx, .twin, .answer, .sent] s t ∧ OneAgent node s t) ∧
  (∀ (node : Nat) (mask : Nat) (s t : State), exec (.agMbxOutTake node mask) s = .next t →
    Frame [F.AG_MBX_FULL_OUT_FULL, F.AG_MBX_FULL_QUEUED, whole .AG_MBX_OUT] [] [.agents, .answer] s t ∧ OneAgent node s t) ∧
  (∀ (node : Nat) (value : Word) (s t : State), exec (.agEpochWrite node value) s = .next t →
    Frame [F.AG_EPOCH_MANAGER, F.AG_MBX_FULL_IN_FULL, whole .MBX_COUNT] [] [.agents, .mbx, .twin, .sent] s t ∧ OneAgent node s
      t) ∧
  (∀ (node : Nat) (index : Nat) (value : Word) (s t : State), exec (.elementPost node index value) s = .next t →
    Frame [F.AG_MBX_FULL_OUT_FULL, whole .AG_MBX_OUT] [] [.answer] s t ∧ OneAgent node s t) ∧
  (∀ (node : Nat) (index : Nat) (s t : State), exec (.elementTake node index) s = .next t →
    Frame [F.AG_MBX_FULL_IN_FULL, whole .AG_COUNT, whole .AG_EVENT] [] [.agents, .answer, .sent] s t ∧ OneAgent node s t)


/-- What the commands of the plan store, discovery, the ports and the installs leave alone. -/
def Obligations.InstallFrames : Prop :=
  (∀ (s t : State), exec .loadBegin s = .next t →
    Frame [F.PLAN_EARLIEST_ROUND, F.PLAN_EPOCH_STAGED, F.PLAN_STATUS_STAGED_STATE, F.PLAN_STATUS_STANDBY_AGREE, whole
      .PLAN_ERR, whole .PLAN_ERR_OFFSET, whole .PLAN_RATE_EXCESS] [] [.plan, .answer] s t) ∧
  (∀ (s t : State), exec .verify s = .next t →
    Frame [F.CHK_BYTES_BYTES, F.CHK_CKPT_BYTES_BYTES, F.CHK_CKPT_VALUE_VALUE, F.CHK_VALUE_VALUE, F.PLAN_STATUS_STAGED_STATE] []
      [.answer] s t) ∧
  (∀ (s t : State), exec .abort s = .next t →
    Frame [F.BELL_ACT_ROUND_ROUND, F.BELL_EVENT_INSTALL_CANCELLED, F.BELL_STATUS_INSTALL_STATE, F.PLAN_EARLIEST_ROUND,
      F.PLAN_STATUS_STAGED_STATE, whole .BELL_COUNT] [] [.bell, .twin, .answer, .sent] s t) ∧
  (∀ (s t : State), exec .discard s = .next t →
    Frame [F.PLAN_EARLIEST_ROUND, F.PLAN_EPOCH_STAGED, F.PLAN_STATUS_STAGED_STATE, F.PLAN_STATUS_STANDBY_AGREE] [] [.plan,
      .answer] s t) ∧
  (∀ (node : Nat) (port : Nat) (slot : Nat) (s t : State), exec (.slotStart node port slot) s = .next t →
    Frame [F.AG_FAULT_CAUSE, F.AG_FAULT_COUNT, F.AG_FAULT_CUPOLA, F.AG_FAULT_FLOW, F.AG_FAULT_PORT, whole .AG_COUNT, whole
      .AG_EVENT] [] [.agents, .sent] s t) ∧
  (∀ (node : Nat) (port : Nat) (b : Beacon) (s t : State), exec (.beaconReceive node port b) s = .next t →
    Frame [F.AG_FAULT_CAUSE, F.AG_FAULT_COUNT, F.AG_FAULT_CUPOLA, F.AG_FAULT_FLOW, F.AG_FAULT_PORT, F.AG_PORT_BEACON_ERR,
      F.AG_PORT_FAR_ID, F.AG_PORT_FAR_KIND, F.AG_PORT_FAR_PORT, F.AG_PORT_INTERSPIRE, F.AG_PORT_LEVEL, F.AG_PORT_STATE,
      F.DISC_STATUS_INCREMENTAL, F.DISC_STATUS_STATE, F.TWIN_EVENT_LEVEL_MISMATCH, F.TWIN_STATUS_PARTNER_LEVEL,
      F.TWIN_STATUS_PARTNER_SEEN] [] [.disc, .agents, .sent] s t) ∧
  (∀ (s t : State), exec .settleEnd s = .next t →
    Frame [F.DISC_STATUS_STATE] [] [.disc, .sent] s t) ∧
  (∀ (s t : State), exec .walkComplete s = .next t →
    Frame [F.BELF_EVENT_FROZEN_FULL, F.BELF_EVENT_OVERFLOW, F.BELF_EVENT_SHED, F.BELF_OVERFLOW_LAST_SOURCE,
      F.BELF_OVERFLOW_RECORDS, F.DISC_EVENT_DUPLICATE_ID, F.DISC_STATUS_STATE, whole .BELF_SHED] [] [.disc, .belf, .sent] s t) ∧
  (∀ (s t : State), exec .rescan s = .next t →
    Frame [F.DISC_STATUS_STATE] [] [.disc, .rep, .twin, .answer, .sent] s t) ∧
  (∀ (node : Nat) (port : Nat) (s t : State), exec (.portTrained node port) s = .next t →
    Frame [F.AG_FAULT_CAUSE, F.AG_FAULT_COUNT, F.AG_FAULT_CUPOLA, F.AG_FAULT_FLOW, F.AG_FAULT_PORT, F.AG_PORT_STATE,
      F.AG_STATUS_PORTS_UP, F.CHK_CFG_MODE, F.CHK_CFG_POLY, F.CHK_CFG_TAP, F.CHK_STATE_STATE, F.DISC_STATUS_INCREMENTAL,
      F.DISC_STATUS_STATE, F.PORT_EVENT_RETRAINED, F.PORT_STATUS_LANES, F.PORT_STATUS_STATE] [] [.disc, .agents, .twin, .pwr,
      .sent] s t) ∧
  (∀ (node : Nat) (port : Nat) (s t : State), exec (.portLossOfLock node port) s = .next t →
    Frame [F.AG_FAULT_CAUSE, F.AG_FAULT_COUNT, F.AG_FAULT_CUPOLA, F.AG_FAULT_FLOW, F.AG_FAULT_PORT, F.AG_PORT_LEVEL,
      F.AG_PORT_STATE, F.AG_STATUS_PORTS_UP, F.CHK_CFG_MODE, F.CHK_CFG_POLY, F.CHK_CFG_TAP, F.CHK_STATE_STATE,
      F.DISC_STATUS_INCREMENTAL, F.DISC_STATUS_STATE, F.PORT_STATUS_LANES, F.PORT_STATUS_STATE] [] [.disc, .rep, .agents,
      .sent] s t) ∧
  (∀ (node : Nat) (flow : Nat) (cupola : Nat) (tag : Nat) (window : Nat) (payload : Bytes) (s t : State), exec (.itemInject
      node flow cupola tag window payload) s = .next t →
    Frame [F.AG_FAULT_CAUSE, F.AG_FAULT_COUNT, F.AG_FAULT_CUPOLA, F.AG_FAULT_FLOW, F.AG_FAULT_PORT, whole .AG_COUNT, whole
      .AG_EVENT] [] [.agents, .sent] s t) ∧
  (∀ (s t : State), exec .quiesceFlow s = .next t →
    Frame [F.BELL_QUIESCE_FLOW, F.BELL_QUIESCE_PENDING, F.BELL_QUIESCE_QUIESCED] [] [.bell, .twin, .answer, .sent] s t) ∧
  (∀ (s t : State), exec .resumeFlow s = .next t →
    Frame [F.BELL_QUIESCE_FLOW, F.BELL_QUIESCE_PENDING, F.BELL_QUIESCE_QUIESCED] [] [.bell, .twin, .answer, .sent] s t) ∧
  (∀ (s t : State), exec .retryHeld s = .next t →
    Frame [F.BELL_ACT_ROUND_ROUND, F.BELL_EST_DEPTH, F.BELL_EST_E, F.BELL_EST_GAP_US, F.BELL_EST_H, F.BELL_EST_LOAD,
      F.BELL_STATUS_EXPECTED, F.BELL_STATUS_INSTALL_ID, F.BELL_STATUS_INSTALL_STATE, F.BELL_STATUS_KIND, F.BELL_STATUS_PASS,
      F.BELL_STATUS_PREPARED, whole .BELL_AGENT, whole .BELL_COUNT] [] [.bell, .cup, .twin, .answer, .sent] s t) ∧
  (∀ (s t : State), exec .commitPoint s = .next t →
    Frame [F.BELL_ACT_ROUND_ROUND, F.BELL_EST_DEPTH, F.BELL_EST_E, F.BELL_EST_GAP_US, F.BELL_EST_H, F.BELL_EST_LOAD,
      F.BELL_EVENT_INSTALL_CANCELLED, F.BELL_EVENT_STRAGGLER, F.BELL_STATUS_EXPECTED, F.BELL_STATUS_INSTALL_ID,
      F.BELL_STATUS_INSTALL_STATE, F.BELL_STATUS_KIND, F.BELL_STATUS_PASS, F.BELL_STATUS_PREPARED, F.PLAN_ACT_ROUND_ROUND,
      F.PLAN_STATUS_CANCEL_REASON, F.PLAN_STATUS_STAGED_STATE, F.REP_STATUS_ENGINE, whole .BELL_AGENT, whole .BELL_COUNT] []
      [.bell, .cup, .rep, .twin, .sent] s t) ∧
  (∀ (s t : State), exec .installReportDeadline s = .next t →
    Frame [] [] [.bell, .twin, .sent] s t) ∧
  (∀ (s t : State), exec .completionInstallStart s = .next t →
    Frame [F.BELL_ACT_ROUND_ROUND, F.BELL_EST_DEPTH, F.BELL_EST_E, F.BELL_EST_GAP_US, F.BELL_EST_H, F.BELL_EST_LOAD,
      F.BELL_STATUS_EXPECTED, F.BELL_STATUS_INSTALL_ID, F.BELL_STATUS_INSTALL_STATE, F.BELL_STATUS_KIND, F.BELL_STATUS_PASS,
      F.BELL_STATUS_PREPARED, whole .BELL_AGENT, whole .BELL_COUNT] [] [.bell, .cup, .twin, .sent] s t) ∧
  (∀ (node : Nat) (s t : State), exec (.singleAgentInstallStart node) s = .next t →
    Frame [F.BELL_ACT_ROUND_ROUND, F.BELL_EST_DEPTH, F.BELL_EST_E, F.BELL_EST_GAP_US, F.BELL_EST_H, F.BELL_EST_LOAD,
      F.BELL_STATUS_EXPECTED, F.BELL_STATUS_INSTALL_ID, F.BELL_STATUS_INSTALL_STATE, F.BELL_STATUS_KIND, F.BELL_STATUS_PASS,
      F.BELL_STATUS_PREPARED, whole .BELL_AGENT, whole .BELL_COUNT] [] [.bell, .cup, .twin, .sent] s t) ∧
  (∀ (port : Nat) (s t : State), exec (.portDisable port) s = .next t →
    Frame [] [(F.PORT_STATUS_STATE, 0, port)] [.graph, .answer] s t) ∧
  (∀ (port : Nat) (s t : State), exec (.portEnable port) s = .next t →
    Frame [F.PORT_EVENT_ENABLED] [(F.PORT_STATUS_LANES, 0, port), (F.PORT_STATUS_STATE, 0, port)] [.answer, .sent] s t) ∧
  (∀ (port : Nat) (ok : Bool) (s t : State), exec (.portAutoRetrain port ok) s = .next t →
    Frame [F.AG_FAULT_CAUSE, F.AG_FAULT_COUNT, F.AG_FAULT_CUPOLA, F.AG_FAULT_FLOW, F.AG_FAULT_PORT, F.AG_PORT_STATE,
      F.AG_STATUS_PORTS_UP, F.CHK_CFG_MODE, F.CHK_CFG_POLY, F.CHK_CFG_TAP, F.CHK_STATE_STATE, F.DISC_STATUS_INCREMENTAL,
      F.DISC_STATUS_STATE, F.PORT_EVENT_FAILED, F.PORT_EVENT_RETRAINED, F.PORT_STATUS_LANES, F.PORT_STATUS_RETRAINS,
      F.PORT_STATUS_STATE] [] [.disc, .agents, .twin, .pwr, .sent] s t) ∧
  (∀ (value : Word) (s t : State), exec (.ethCfgWrite value) s = .next t →
    Frame [F.ETH_CFG_MACSEC, F.ETH_CFG_MTU, F.ETH_CFG_SCP_PORT, F.ETH_CFG_SPEED, F.ETH_EVENT_LINK_DOWN, F.ETH_EVENT_LINK_UP,
      F.ETH_STATUS_FALLBACK, F.ETH_STATUS_LINK] [] [.answer, .sent] s t) ∧
  (∀ (up : Bool) (s t : State), exec (.ethLinkChange up) s = .next t →
    Frame [F.ETH_EVENT_LINK_DOWN, F.ETH_EVENT_LINK_UP, F.ETH_STATUS_FALLBACK, F.ETH_STATUS_LINK] [] [.sent] s t) ∧
  (∀ (inserted : Bool) (watts : Nat) (s t : State), exec (.osfpModuleEvent inserted watts) s = .next t →
    Frame [F.BELF_EVENT_FROZEN_FULL, F.BELF_EVENT_OVERFLOW, F.BELF_EVENT_SHED, F.BELF_OVERFLOW_LAST_SOURCE,
      F.BELF_OVERFLOW_RECORDS, F.ETH_EVENT_LINK_DOWN, F.ETH_EVENT_LINK_UP, F.ETH_STATUS_FALLBACK, F.ETH_STATUS_LINK, whole
      .BELF_SHED] [] [.belf, .pwr, .sent] s t)


/-- What the commands of the cupolas and of the repair engine leave alone. -/
def Obligations.CupolaFrames : Prop :=
  (∀ (cupola : Nat) (job : Nat) (s t : State), exec (.carve cupola job) s = .next t →
    Frame [whole .CUP_ERR] [(F.CUP_ENTRY_STATE, 0, cupola), (F.CUP_JOB_JOB, 0, cupola), (F.CUP_JOB_TEMPLATE, 0, cupola)] [.cup,
      .key, .twin, .answer] s t) ∧
  (∀ (cupola : Nat) (s t : State), exec (.carveStart cupola) s = .next t →
    Frame [] [] [.cup] s t) ∧
  (∀ (cupola : Nat) (s t : State), exec (.carveWaitExpiry cupola) s = .next t →
    Frame [F.CUP_ERR_CODE, F.CUP_ERR_CUPOLA, F.CUP_EVENT_REFUSED, whole .KEY_COUNT] [(F.CUP_ENTRY_STATE, 0, cupola),
      (F.CUP_JOB_JOB, 0, cupola)] [.cup, .agents, .key, .twin, .sent] s t) ∧
  (∀ (cupola : Nat) (s t : State), exec (.carveFilterWrite cupola) s = .next t →
    Frame [whole .KEY_COUNT] [] [.cup, .agents, .twin, .sent] s t) ∧
  (∀ (cupola : Nat) (s t : State), exec (.carveRewrite cupola) s = .next t →
    Frame [whole .KEY_COUNT] [] [.cup, .agents, .twin, .sent] s t) ∧
  (∀ (cupola : Nat) (s t : State), exec (.carveConfirmDeadline cupola) s = .next t →
    Frame [F.CUP_ERR_CODE, F.CUP_ERR_CUPOLA, F.CUP_EVENT_REFUSED, whole .KEY_COUNT] [(F.CUP_ENTRY_STATE, 0, cupola),
      (F.CUP_JOB_JOB, 0, cupola)] [.cup, .agents, .key, .twin, .sent] s t) ∧
  (∀ (cupola : Nat) (s t : State), exec (.carveRound cupola) s = .next t →
    Frame [F.BELF_EVENT_FROZEN_FULL, F.BELF_EVENT_OVERFLOW, F.BELF_EVENT_SHED, F.BELF_OVERFLOW_LAST_SOURCE,
      F.BELF_OVERFLOW_RECORDS, F.CUP_EVENT_CARVED, F.GRD_EVENT_EXPOSED, F.GRD_GROUP_LANES, F.GRD_GROUP_LOST, F.GRD_GROUP_PHASE,
      F.GRD_GROUP_PROG_ENDS, F.GRD_GROUP_PROG_WATERMARK, F.GRD_GROUP_REASON, F.GRD_GROUP_STATE, F.GRD_SPILL_BYTES, whole
      .BELF_SHED, whole .KEY_COUNT] [(F.CUP_ENTRY_STATE, 0, cupola)] [.cup, .agents, .grd, .belf, .twin, .sent] s t) ∧
  (∀ (cupola : Nat) (job : Nat) (s t : State), exec (.retire cupola job) s = .next t →
    Frame [F.GRD_GROUP_REASON, F.GRD_GROUP_STATE, F.KEY_REMOVE_DISCARDED, F.KEY_REMOVE_START, F.KEY_STATUS_REMOVE_STEP, whole
      .CUP_ERR] [] [.cup, .grd, .key, .answer] s t) ∧
  (∀ (cupola : Nat) (s t : State), exec (.retireRound cupola) s = .next t →
    Frame [whole .KEY_COUNT] [] [.cup, .agents, .key, .twin, .sent] s t) ∧
  (∀ (cupola : Nat) (s t : State), exec (.retireVacant cupola) s = .next t →
    Frame [F.CUP_EVENT_RETIRED] [(F.CUP_ENTRY_STATE, 0, cupola), (F.CUP_JOB_JOB, 0, cupola)] [.cup, .agents, .twin, .sent] s t)
      ∧
  (∀ (n : Notice) (s t : State), exec (.faultNotice n) s = .next t →
    Frame [F.BELF_EVENT_FROZEN_FULL, F.BELF_EVENT_OVERFLOW, F.BELF_EVENT_SHED, F.BELF_OVERFLOW_LAST_SOURCE,
      F.BELF_OVERFLOW_RECORDS, F.BELL_EVENT_DRAIN_EXCEEDED, F.BELL_EVENT_RELAY_OVERFLOW, F.BELL_EVENT_UNKNOWN_FLOW,
      F.CUP_EVENT_ISOLATION, F.DISC_STATUS_INCREMENTAL, F.DISC_STATUS_STATE, F.REP_EVENT_FLAP_HOLD, F.REP_EVENT_UNWARNED_RESET,
      whole .BELF_SHED, whole .BELL_COUNT, whole .REP_COUNT] [] [.disc, .rep, .belf, .twin, .sent] s t) ∧
  (∀ (s t : State), exec .failureDetection s = .next t →
    Frame [F.CUP_ENTRY_STATE, F.CUP_EVENT_REPAIR_STARTED, F.REP_EVENT_FAULT, F.REP_LOG_HEAD_NEXT, F.REP_LOG_HEAD_WRAPS,
      F.REP_LOG_WORD, F.REP_STATUS_ENGINE, whole .REP_COUNT] [] [.rep, .twin, .sent] s t) ∧
  (∀ (s t : State), exec .installTreeRebuild s = .next t →
    Frame [] [] [.twin, .sent] s t) ∧
  (∀ (s t : State), exec .repairSelect s = .next t →
    Frame [F.BELL_ACT_ROUND_ROUND, F.BELL_EVENT_INSTALL_CANCELLED, F.BELL_STATUS_INSTALL_STATE, F.PLAN_STATUS_CANCEL_REASON,
      F.PLAN_STATUS_STAGED_STATE, F.REP_RESET_REASON, F.REP_RESET_STATE, F.REP_STATUS_ENGINE, whole .BELL_COUNT, whole
      .REP_LOG] [] [.bell, .rep, .twin, .sent] s t) ∧
  (∀ (s t : State), exec .repairInstallStart s = .next t →
    Frame [F.BELL_ACT_ROUND_ROUND, F.BELL_EST_DEPTH, F.BELL_EST_E, F.BELL_EST_GAP_US, F.BELL_EST_H, F.BELL_EST_LOAD,
      F.BELL_STATUS_EXPECTED, F.BELL_STATUS_INSTALL_ID, F.BELL_STATUS_INSTALL_STATE, F.BELL_STATUS_KIND, F.BELL_STATUS_PASS,
      F.BELL_STATUS_PREPARED, whole .BELL_AGENT, whole .BELL_COUNT] [] [.bell, .cup, .twin, .sent] s t) ∧
  (∀ (a : Option Assignment) (us : Nat) (s t : State), exec (.resolveComplete a us) s = .next t →
    Frame [F.CUP_ENTRY_STATE, F.CUP_EVENT_JOB_HELD, F.GRD_EVENT_HELD, F.GRD_GROUP_REASON, F.GRD_GROUP_STATE,
      F.REP_EST_RESOLVE_US, F.REP_EVENT_RESET_REFUSED, F.REP_EVENT_RESOLVE_FAILED, F.REP_EVENT_SPARES_EXHAUSTED,
      F.REP_RESET_REASON, F.REP_RESET_STATE, F.REP_STATUS_ENGINE, whole .REP_COUNT, whole .REP_LOG] [] [.rep, .grd, .twin,
      .sent] s t) ∧
  (∀ (logical : Nat) (s t : State), exec (.resetCompute logical) s = .next t →
    Frame [F.REP_EVENT_RESET_GRANTED, F.REP_EVENT_RESET_REFUSED, F.REP_RESET_FULL, F.REP_RESET_NODE, F.REP_RESET_REASON,
      F.REP_RESET_STATE, whole .REP_COUNT] [] [.twin, .answer, .sent] s t) ∧
  (∀ (logical : Nat) (s t : State), exec (.resetFull logical) s = .next t →
    Frame [F.REP_EVENT_RESET_REFUSED, F.REP_RESET_FULL, F.REP_RESET_NODE, F.REP_RESET_REASON, F.REP_RESET_STATE,
      F.REP_STATUS_ENGINE] [] [.rep, .answer, .sent] s t) ∧
  (∀ (s t : State), exec .resetGrant s = .next t →
    Frame [F.REP_EVENT_RESET_GRANTED, F.REP_RESET_STATE, whole .REP_COUNT] [] [.rep, .twin, .sent] s t) ∧
  (∀ (s t : State), exec .repCancelReset s = .next t →
    Frame [F.BELL_ACT_ROUND_ROUND, F.BELL_EVENT_INSTALL_CANCELLED, F.BELL_STATUS_INSTALL_STATE, F.REP_RESET_REASON,
      F.REP_RESET_STATE, F.REP_STATUS_ENGINE, whole .BELL_COUNT] [] [.bell, .rep, .twin, .answer, .sent] s t) ∧
  (∀ (s t : State), exec .flapHoldClear s = .next t →
    Frame [F.REP_EVENT_FLAP_HOLD] [] [.rep, .twin, .sent] s t)


/-- What the commands of the guardian and of the check channels leave alone: a command of one channel or group touches no
      other. -/
def Obligations.GuardianFrames : Prop :=
  (∀ (spire : Nat) (group : Nat) (lane : Nat) (region : Nat) (acc : Bytes) (s t : State), exec (.lendingInAccumulation spire
      group lane region acc) s = .next t →
    Frame [] [] [.grd, .twin, .sent] s t) ∧
  (∀ (spire : Nat) (group : Nat) (lane : Nat) (region : Nat) (s t : State), exec (.lentBlockRequest spire group lane region) s
      = .next t →
    Frame [] [] [.twin, .sent] s t) ∧
  (∀ (s t : State), exec .directFoldSwitch s = .next t →
    Frame [F.GRD_EVENT_DIRECT_FOLD, F.GRD_EVENT_HELD, F.GRD_GROUP_DIRECT, F.GRD_GROUP_REASON, F.GRD_GROUP_STATE] [] [.grd,
      .sent] s t) ∧
  (∀ (job : Nat) (step : Nat) (s t : State), exec (.sealRecord job step) s = .next t →
    Frame [F.AG_MBX_FULL_IN_FULL, F.GRD_EVENT_SEALED, F.GRD_GROUP_PHASE, F.GRD_GROUP_PROG_ENDS, F.GRD_GROUP_PROG_WATERMARK,
      F.GRD_GROUP_STEP_RECOVERY, F.GRD_SPILL_BYTES, whole .GRD_COUNT] [] [.agents, .grd, .mbx, .twin, .sent] s t) ∧
  (∀ (s t : State), exec .guardianWordRepost s = .next t →
    Frame [F.AG_MBX_FULL_IN_FULL] [] [.agents, .mbx, .twin, .sent] s t) ∧
  (∀ (group : Nat) (member : Nat) (type : Nat) (s t : State), exec (.ackTimeout group member type) s = .next t →
    Frame [F.GRD_EVENT_ACK_TIMEOUT] [] [.rep, .grd, .sent] s t) ∧
  (∀ (group : Nat) (s t : State), exec (.rollbackFoldStart group) s = .next t →
    Frame [F.AG_MBX_FULL_IN_FULL, F.GRD_EVENT_HELD, F.GRD_GROUP_PHASE, F.GRD_GROUP_PROG_ENDS, F.GRD_GROUP_PROG_WATERMARK,
      F.GRD_GROUP_REASON, F.GRD_GROUP_STATE, F.GRD_SPILL_BYTES] [] [.agents, .grd, .mbx, .twin, .sent] s t) ∧
  (∀ (group : Nat) (s t : State), exec (.disableGroup group) s = .next t →
    Frame [] [(F.GRD_GROUP_REASON, 0, group), (F.GRD_GROUP_STATE, 0, group)] [.grd, .answer] s t) ∧
  (∀ (group : Nat) (s t : State), exec (.enableGroup group) s = .next t →
    Frame [F.BELF_EVENT_FROZEN_FULL, F.BELF_EVENT_OVERFLOW, F.BELF_EVENT_SHED, F.BELF_OVERFLOW_LAST_SOURCE,
      F.BELF_OVERFLOW_RECORDS, F.GRD_EVENT_EXPOSED, F.GRD_GROUP_PROG_ENDS, F.GRD_GROUP_PROG_WATERMARK, F.GRD_SPILL_BYTES, whole
      .BELF_SHED] [(F.GRD_GROUP_LANES, 0, group), (F.GRD_GROUP_LOST, 0, group), (F.GRD_GROUP_PHASE, 0, group),
      (F.GRD_GROUP_REASON, 0, group), (F.GRD_GROUP_STATE, 0, group)] [.grd, .belf, .answer, .sent] s t) ∧
  (∀ (s t : State), exec .clearSuspect s = .next t →
    Frame [F.AG_MBX_FULL_IN_FULL, F.SEN_SUSPECT_MARK] [] [.agents, .grd, .mbx, .twin, .answer, .sent] s t) ∧
  (∀ (channel : Nat) (s t : State), exec (.attach channel) s = .next t →
    Frame [] [(F.CHK_BYTES_BYTES, 0, channel), (F.CHK_CKPT_BYTES_BYTES, 0, channel), (F.CHK_CKPT_VALUE_VALUE, 0, channel),
      (F.CHK_STATE_STATE, 0, channel), (F.CHK_VALUE_VALUE, 0, channel)] [.chk, .answer] s t) ∧
  (∀ (channel : Nat) (s t : State), exec (.suspend channel) s = .next t →
    Frame [] [(F.CHK_STATE_STATE, 0, channel)] [.answer] s t) ∧
  (∀ (channel : Nat) (s t : State), exec (.chkResume channel) s = .next t →
    Frame [] [(F.CHK_STATE_STATE, 0, channel)] [.answer] s t) ∧
  (∀ (channel : Nat) (s t : State), exec (.detach channel) s = .next t →
    Frame [] [(F.CHK_STATE_STATE, 0, channel)] [.chk, .answer] s t) ∧
  (∀ (channel : Nat) (s t : State), exec (.chkDisable channel) s = .next t →
    Frame [] [(F.CHK_STATE_STATE, 0, channel)] [.graph, .chk, .answer] s t) ∧
  (∀ (channel : Nat) (s t : State), exec (.chkEnable channel) s = .next t →
    Frame [] [(F.CHK_BYTES_BYTES, 0, channel), (F.CHK_CKPT_BYTES_BYTES, 0, channel), (F.CHK_CKPT_VALUE_VALUE, 0, channel),
      (F.CHK_STATE_STATE, 0, channel), (F.CHK_VALUE_VALUE, 0, channel)] [.chk, .answer] s t) ∧
  (∀ (bytesReg : Bool) (channel : Nat) (value : Word) (s t : State), exec (.chkValueWrite bytesReg channel value) s = .next t →
    Frame [] [(F.CHK_BYTES_BYTES, 0, channel), (F.CHK_VALUE_VALUE, 0, channel)] [.chk, .answer] s t)


/-- What the commands of the graph services, of the host port's sessions and of the mailboxes leave alone. -/
def Obligations.ServiceFrames : Prop :=
  (∀ (reason : Nat) (s t : State), exec (.scpDatagramDiscard reason) s = .next t →
    Frame [F.ETH_EVENT_DISCARD, whole .ETH_COUNT] [] [.sent] s t) ∧
  (∀ (sess : Nat) (tag : Nat) (s t : State), exec (.retryCacheExpiry sess tag) s = .next t →
    Frame [] [] [.eth] s t) ∧
  (∀ (slot : Nat) (s t : State), exec (.subscriptionLeaseExpiry slot) s = .next t →
    Frame [F.ETH_EVENT_SUB_EXPIRED] [(whole .ETH_SUB, 0, slot)] [.belf, .sent] s t) ∧
  (∀ (sess : Nat) (s t : State), exec (.admissionTimeout sess) s = .next t →
    Frame [F.KEY_EVENT_ADMISSION_FAILED] [] [.eth, .sent] s t) ∧
  (∀ (index : Nat) (s t : State), exec (.notifyRetry index) s = .next t →
    Frame [F.AG_MBX_FULL_IN_FULL, F.AG_MBX_FULL_OUT_FULL, F.MBX_HOUT_FULL_FULL, whole .MBX_HOUT] [] [.agents, .mbx, .twin,
      .sent] s t) ∧
  (∀ (s t : State), exec .disableExport s = .next t →
    Frame [F.GRAPH_STATUS_EXPORT] [] [.graph, .answer] s t) ∧
  (∀ (s t : State), exec .disableImport s = .next t →
    Frame [F.GRAPH_STATUS_IMPORT] [] [.graph, .answer] s t) ∧
  (∀ (value : Word) (s t : State), exec (.graphRingTailWrite value) s = .next t →
    Frame [F.GRAPH_RING_TAIL_TAIL] [] [.graph, .answer] s t) ∧
  (∀ (record : Bytes) (s t : State), exec (.forwardedRecord record) s = .next t →
    Frame [F.GRAPH_RING_HEAD_HEAD, whole .GRAPH_COUNT] [] [.graph] s t) ∧
  (∀ (qp : Nat) (psn : Nat) (s t : State), exec (.roceRnrNak qp psn) s = .next t →
    Frame [whole .GRAPH_COUNT] [] [.sent] s t) ∧
  (∀ (s t : State), exec .roceRequestDiscard s = .next t →
    Frame [F.ETH_EVENT_DISCARD, whole .ETH_COUNT] [] [.sent] s t) ∧
  (∀ (qp : Nat) (s t : State), exec (.congestionNotification qp) s = .next t →
    Frame [whole .ETH_QP_WORD, whole .GRAPH_COUNT] [] [.graph] s t) ∧
  (∀ (kind : Nat) (epoch : Nat) (s t : State), exec (.partnerResetNotice kind epoch) s = .next t →
    Frame [F.MBX_EPOCH_TWIN_EPOCH, F.MBX_EVENT_TWIN_RESET, whole .MBX_COUNT] [] [.mbx, .sent] s t)


/-- What the commands of the belfry leave alone. -/
def Obligations.RecorderFrames : Prop :=
  (∀ (source : Nat) (instance_ : Nat) (value : Int) (s t : State), exec (.belfryEvent source instance_ value) s = .next t →
    Frame [F.BELF_EVENT_FROZEN_FULL, F.BELF_EVENT_OVERFLOW, F.BELF_EVENT_SHED, F.BELF_OVERFLOW_LAST_SOURCE,
      F.BELF_OVERFLOW_RECORDS, whole .BELF_SHED] [(F.BELF_ALARM_COUNT, 0, source), (F.BELF_ALARM_FIRST, 0, source),
      (F.BELF_ALARM_LATCHED, 0, source)] [.belf, .sent] s t) ∧
  (∀ (source : Nat) (instance_ : Nat) (s t : State), exec (.cellClose source instance_) s = .next t →
    Frame [F.BELF_EVENT_FROZEN_FULL, F.BELF_EVENT_OVERFLOW, F.BELF_EVENT_SHED, F.BELF_OVERFLOW_LAST_SOURCE,
      F.BELF_OVERFLOW_RECORDS, F.BELF_STAMP_OP_TIME, F.BELF_USED_SLOTS, whole .BELF_SHED] [] [.belf, .sent] s t) ∧
  (∀ (s t : State), exec .flush s = .next t →
    Frame [F.BELF_EVENT_FROZEN_FULL, F.BELF_EVENT_OVERFLOW, F.BELF_EVENT_SHED, F.BELF_OVERFLOW_LAST_SOURCE,
      F.BELF_OVERFLOW_RECORDS, F.BELF_USED_SLOTS, whole .BELF_SHED] [] [.belf, .answer, .sent] s t) ∧
  (∀ (ok : Bool) (s t : State), exec (.recordFlashWrite ok) s = .next t →
    Frame [F.BELF_ALARM_COUNT, F.BELF_ALARM_FIRST, F.BELF_ALARM_LATCHED, F.BELF_EVENT_OVERFLOW, F.BELF_EVENT_SENTINEL,
      F.BELF_EVENT_SHED, F.BELF_OVERFLOW_LAST_SOURCE, F.BELF_OVERFLOW_RECORDS, F.BELF_STATUS_FLASH_READABLE,
      F.BELF_STATUS_STATE, F.BELF_USED_SLOTS, whole .BELF_SHED] [] [.belf, .sent, .free] s t) ∧
  (∀ (s t : State), exec .freeze s = .next t →
    Frame [F.BELF_FREEZE_START, F.BELF_STATUS_STATE] [] [.belf, .answer] s t) ∧
  (∀ (s t : State), exec .thaw s = .next t →
    Frame [F.BELF_STATUS_AUTO_THAWED, F.BELF_STATUS_STATE] [] [.belf, .answer] s t) ∧
  (∀ (s t : State), exec .autoThaw s = .next t →
    Frame [F.BELF_EVENT_AUTO_THAW, F.BELF_STAMP_OP_TIME, F.BELF_STATUS_AUTO_THAWED, F.BELF_STATUS_STATE] [] [.belf, .sent] s t)
      ∧
  (∀ (s t : State), exec .mergeDone s = .next t →
    Frame [F.BELF_STATUS_STATE] [] [] s t) ∧
  (∀ (cause : Nat) (s t : State), exec (.belfrySentinelEngage cause) s = .next t →
    Frame [F.BELF_ALARM_COUNT, F.BELF_ALARM_FIRST, F.BELF_ALARM_LATCHED, F.BELF_EVENT_SENTINEL, F.BELF_EVENT_SHED,
      F.BELF_STATUS_FLASH_READABLE, F.BELF_STATUS_STATE, whole .BELF_SHED] [] [.belf, .sent, .free] s t) ∧
  (∀ (index : Nat) (s t : State), exec (.belfSentRead index) s = .next t →
    Frame [F.BELF_EVENT_VOTE_CORRECTED] [] [.belf, .answer, .sent] s t) ∧
  (∀ (source : Nat) (value : Word) (s t : State), exec (.belfAlarmClear source value) s = .next t →
    Frame [] [(F.BELF_ALARM_ALARM, 0, source), (F.BELF_ALARM_LATCHED, 0, source), (F.BELF_ALARM_SEV, 0, source)] [.answer] s t)
      ∧
  (∀ (value : Word) (s t : State), exec (.belfReadSelWrite value) s = .next t →
    Frame [F.BELF_READ_SEL_WINDOW] [] [.belf, .answer] s t) ∧
  (∀ (s t : State), exec .belfReadWordAdvance s = .next t →
    Frame [F.BELF_READ_SEL_WINDOW] [] [.belf] s t) ∧
  (∀ (s t : State), exec .repeatBoundary s = .next t →
    Frame [F.BELF_EVENT_FROZEN_FULL, F.BELF_EVENT_OVERFLOW, F.BELF_EVENT_SHED, F.BELF_OVERFLOW_LAST_SOURCE,
      F.BELF_OVERFLOW_RECORDS, whole .BELF_SHED] [] [.belf, .sent] s t) ∧
  (∀ (s t : State), exec .tracePeriod s = .next t →
    Frame [F.BELF_EVENT_SHED, whole .BELF_SHED] [] [.agents, .belf, .sent] s t) ∧
  (∀ (sub : Nat) (cls : Nat) (s t : State), exec (.telemetrySend sub cls) s = .next t →
    Frame [whole .ETH_COUNT] [] [.belf, .sent] s t) ∧
  (∀ (sub : Nat) (cls : Nat) (s t : State), exec (.telemetryShed sub cls) s = .next t →
    Frame [F.BELF_EVENT_SHED, whole .BELF_SHED] [] [.belf, .sent] s t) ∧
  (∀ (s t : State), exec .agentShedRead s = .next t →
    Frame [F.BELF_EVENT_SHED, whole .BELF_SHED] [] [.belf, .sent] s t) ∧
  (∀ (s t : State), exec .operatingTimeWrite s = .next t →
    Frame [F.BELF_STAMP_OP_TIME] [] [.belf] s t)


/-- What the commands of the lantern and of the keystone leave alone. -/
def Obligations.TimeAndKeyFrames : Prop :=
  (∀ (node : Nat) (s t : State), exec (.filterActivation node) s = .next t →
    Frame [whole .AG_FILTER] [] [.agents] s t) ∧
  (∀ (node : Option Nat) (port : Nat) (s t : State), exec (.timeWordSend node port) s = .next t →
    Frame [] [] [.agents, .lant, .sent] s t) ∧
  (∀ (s t : State), exec .holdoverEntry s = .next t →
    Frame [F.AG_LANT_HOLDOVER, F.AG_LANT_STATE, F.LANT_EVENT_FREE, F.LANT_EVENT_HOLDOVER, F.LANT_EVENT_STATE_CHANGE,
      F.LANT_STATUS_STATE, whole .LANT_COUNT, whole .LANT_HOLDOVER] [] [.lant, .sent, .free] s t) ∧
  (∀ (s t : State), exec .holdoverLimit s = .next t →
    Frame [F.AG_LANT_STATE, F.LANT_EVENT_FREE, F.LANT_EVENT_HOLDOVER, F.LANT_EVENT_STATE_CHANGE, F.LANT_STATUS_STATE, whole
      .LANT_COUNT, whole .LANT_HOLDOVER] [] [.lant, .sent, .free] s t) ∧
  (∀ (floors : List Nat) (s t : State), exec (.referenceStart floors) s = .next t →
    Frame [F.BELF_EVENT_FROZEN_FULL, F.BELF_EVENT_OVERFLOW, F.BELF_EVENT_SHED, F.BELF_OVERFLOW_LAST_SOURCE,
      F.BELF_OVERFLOW_RECORDS, F.BELL_ROUND_ROUND, F.LANT_EVENT_FREE, F.LANT_EVENT_HOLDOVER, F.LANT_EVENT_STATE_CHANGE,
      F.LANT_STATUS_DEPTH, F.LANT_STATUS_STATE, F.LANT_STATUS_TOD_VALID, whole .BELF_SHED, whole .LANT_COUNT, whole
      .LANT_HOLDOVER] [] [.belf, .lant, .sent, .free] s t) ∧
  (∀ (ns : Nat) (s t : State), exec (.ppsInEdge ns) s = .next t →
    Frame [F.LANT_EVENT_PPS_IN_LOST, F.LANT_STATUS_PPS_IN, whole .LANT_COUNT] [] [.lant, .sent, .free] s t) ∧
  (∀ (s t : State), exec .ppsInLost s = .next t →
    Frame [F.LANT_EVENT_PPS_IN_LOST, F.LANT_STATUS_PPS_IN] [] [.lant, .sent] s t) ∧
  (∀ (mode : Nat) (session : Nat) (s t : State), exec (.setTod mode session) s = .next t →
    Frame [F.BELF_EVENT_FROZEN_FULL, F.BELF_EVENT_OVERFLOW, F.BELF_EVENT_SHED, F.BELF_OVERFLOW_LAST_SOURCE,
      F.BELF_OVERFLOW_RECORDS, F.LANT_EVENT_TOD_SET, F.LANT_OFFSET_OFFSET, F.LANT_OFFSET_TARGET_TARGET, F.LANT_STATUS_SLEWING,
      F.LANT_STATUS_TOD_VALID, whole .BELF_SHED, whole .LANT_COUNT] [] [.belf, .lant, .answer, .sent] s t) ∧
  (∀ (session : Nat) (s t : State), exec (.stopSlew session) s = .next t →
    Frame [F.BELF_EVENT_FROZEN_FULL, F.BELF_EVENT_OVERFLOW, F.BELF_EVENT_SHED, F.BELF_OVERFLOW_LAST_SOURCE,
      F.BELF_OVERFLOW_RECORDS, F.LANT_OFFSET_OFFSET, F.LANT_OFFSET_TARGET_TARGET, F.LANT_STATUS_SLEWING, whole .BELF_SHED] []
      [.belf, .lant, .answer, .sent] s t) ∧
  (∀ (s t : State), exec .slewComplete s = .next t →
    Frame [F.BELF_EVENT_FROZEN_FULL, F.BELF_EVENT_OVERFLOW, F.BELF_EVENT_SHED, F.BELF_OVERFLOW_LAST_SOURCE,
      F.BELF_OVERFLOW_RECORDS, F.LANT_EVENT_SLEW_DONE, F.LANT_OFFSET_OFFSET, F.LANT_STATUS_SLEWING, whole .BELF_SHED] []
      [.belf, .sent] s t) ∧
  (∀ (ns : Nat) (frac : Nat) (s t : State), exec (.lantNowNsRead ns frac) s = .next t →
    Frame [F.LANT_NOW_FRAC_FRAC, F.LANT_NOW_NS_NS, F.LANT_NOW_TOD_NS, F.LANT_OFFSET_OFFSET] [] [.lant] s t) ∧
  (∀ (s t : State), exec .ptpSync s = .next t →
    Frame [whole .LANT_COUNT] [] [.sent] s t) ∧
  (∀ (s t : State), exec .ptpAnnounce s = .next t →
    Frame [] [] [.sent] s t) ∧
  (∀ (supported : Bool) (s t : State), exec (.ptpDelayReq supported) s = .next t →
    Frame [whole .ETH_COUNT, whole .LANT_COUNT] [] [.sent] s t) ∧
  (∀ (s t : State), exec .enrol s = .next t →
    Frame [F.KEY_EVENT_ENROLLED, F.KEY_EVENT_ENROL_REFUSED, F.KEY_SLOT_DIGEST_WORD, F.KEY_SLOT_SEQ_SEQUENCE, whole
      .KEY_SLOT_INFO] [] [.mbx, .twin, .answer, .sent] s t) ∧
  (∀ (s t : State), exec .removeTenant s = .next t →
    Frame [F.GRD_GROUP_REASON, F.GRD_GROUP_STATE, F.KEY_REMOVE_DISCARDED, F.KEY_REMOVE_START, F.KEY_STATUS_REMOVE_STEP, whole
      .CUP_ERR] [] [.cup, .grd, .key, .answer] s t) ∧
  (∀ (node : Nat) (port : Nat) (direction : Nat) (epoch : Nat) (s t : State), exec (.rekeyDue node port direction epoch) s =
      .next t →
    Frame [whole .KEY_COUNT] [] [.agents, .key, .twin, .sent] s t) ∧
  (∀ (s t : State), exec .entropyFail s = .next t →
    Frame [F.KEY_EVENT_ENTROPY_FAIL, F.KEY_STATUS_ENTROPY_OK] [] [.key, .sent] s t) ∧
  (∀ (job : Nat) (s t : State), exec (.keyRotationLoad job) s = .next t →
    Frame [whole .KEY_COUNT] [] [.agents, .key, .twin, .sent] s t) ∧
  (∀ (job : Nat) (s t : State), exec (.keyRotationCheck job) s = .next t →
    Frame [whole .KEY_COUNT] [] [.rep, .agents, .key, .twin, .sent] s t) ∧
  (∀ (s t : State), exec .removalKeyErase s = .next t →
    Frame [F.KEY_STATUS_REMOVE_STEP, whole .KEY_COUNT] [] [.agents, .key, .twin, .sent] s t) ∧
  (∀ (node : Nat) (port : Nat) (s t : State), exec (.forcedRekeyConfirm node port) s = .next t →
    Frame [whole .KEY_COUNT] [] [.agents, .key, .twin, .sent] s t) ∧
  (∀ (spire : Nat) (node : Nat) (port : Nat) (s t : State), exec (.peerForceRekeyRequest spire node port) s = .next t →
    Frame [whole .KEY_COUNT] [] [.agents, .key, .twin, .sent] s t) ∧
  (∀ (node : Nat) (s t : State), exec (.keyRetireTimeout node) s = .next t →
    Frame [] [] [.rep, .key, .twin, .sent] s t) ∧
  (∀ (s t : State), exec .ringWaitEnd s = .next t →
    Frame [F.ETH_STATUS_ADMITTED, F.ETH_STATUS_SECURED, F.GRD_GROUP_LANES, F.KEY_MEM_GENERATION, F.KEY_MEM_SCRUBBING,
      F.KEY_MEM_SCRUB_GIB, F.KEY_REMOVE_DISCARDED, F.KEY_STATUS_REMOVE_STEP, whole .GRAPH_RING_TAIL] [] [.grd, .graph, .key,
      .twin] s t) ∧
  (∀ (s t : State), exec .scrubComplete s = .next t →
    Frame [F.BELF_ALARM_COUNT, F.BELF_ALARM_FIRST, F.BELF_ALARM_LATCHED, F.BELF_EVENT_OVERFLOW, F.BELF_EVENT_SENTINEL,
      F.BELF_EVENT_SHED, F.BELF_OVERFLOW_LAST_SOURCE, F.BELF_OVERFLOW_RECORDS, F.BELF_STATUS_FLASH_READABLE,
      F.BELF_STATUS_STATE, F.BELF_USED_SLOTS, F.KEY_MEM_SCRUBBING, F.KEY_MEM_SCRUB_GIB, F.KEY_STATUS_REMOVE_STEP, whole
      .BELF_SHED, whole .KEY_COUNT] [] [.grd, .graph, .sen, .belf, .sent, .free] s t) ∧
  (∀ (s t : State), exec .removalDone s = .next t →
    Frame [F.KEY_EVENT_KEY_LATE, F.KEY_EVENT_REMOVAL_DONE, F.KEY_STATUS_REMOVE_STEP, F.KEY_STATUS_TENANT_BOUND,
      F.KEY_TENANT_EPOCH, F.KEY_TENANT_TAG, whole .KEY_COUNT] [] [.key, .sent] s t) ∧
  (∀ (node : Nat) (word : Word) (s t : State), exec (.keySlotWrite node word) s = .next t →
    Frame [F.AG_KEY_INFO_CUPOLA, F.AG_KEY_INFO_EPOCH, F.AG_KEY_INFO_LOADED, F.AG_MBX_FULL_IN_FULL, F.AG_MBX_FULL_OUT_FULL,
      F.AG_MBX_FULL_QUEUED, F.AG_PORT_CFG_FORCE_REKEY, F.KEY_EVENT_REKEY_STALL, whole .AG_COUNT, whole .AG_EVENT, whole
      .AG_MBX_OUT] [] [.agents, .answer, .sent] s t) ∧
  (∀ (s t : State), exec .mkaSecured s = .next t →
    Frame [F.ETH_STATUS_SECURED, whole .ETH_QP_WORD] [] [.graph, .eth, .sent] s t)


/-- What the commands of the twin pair, of the supplies, of resets and of updates leave alone. -/
def Obligations.TwinAndPowerFrames : Prop :=
  (∀ (counts : List Nat) (s t : State), exec (.paceWindow counts) s = .next t →
    Frame [F.PWR_STATUS_CORE_MV] [(F.PWR_RAIL_MV, 0, 4)] [.pwr] s t) ∧
  (∀ (deciC : Nat) (s t : State), exec (.junctionTemperatureThreshold deciC) s = .next t →
    Frame [F.PWR_STATUS_CORE_MV, F.PWR_STATUS_TJ_MAX] [(F.PWR_RAIL_MV, 0, 4)] [] s t) ∧
  (∀ (engine : Nat) (s t : State), exec (.paceDeficit engine) s = .next t →
    Frame [F.BELF_EVENT_FROZEN_FULL, F.BELF_EVENT_OVERFLOW, F.BELF_EVENT_SHED, F.BELF_OVERFLOW_LAST_SOURCE,
      F.BELF_OVERFLOW_RECORDS, F.PWR_EVENT_DEFICIT, F.PWR_STATUS_DEFICIT, whole .BELF_SHED] [(F.PWR_PACE_DEFICIT, 0, engine),
      (F.PWR_PACE_DEFICITS, 0, engine)] [.belf, .pwr, .sent, .free] s t) ∧
  (∀ (physical : Nat) (s t : State), exec (.gfLaneRetire physical) s = .next t →
    Frame [F.BELF_EVENT_FROZEN_FULL, F.BELF_EVENT_OVERFLOW, F.BELF_EVENT_SHED, F.BELF_OVERFLOW_LAST_SOURCE,
      F.BELF_OVERFLOW_RECORDS, F.IDENT_INTERNAL_GF_LANES, F.IDENT_INTERNAL_GF_SPARES, F.PWR_EVENT_GF_RETIRED, whole .BELF_SHED]
      [] [.belf, .pwr, .sent] s t) ∧
  (∀ (s t : State), exec .syncReq s = .next t →
    Frame [F.ETH_STATUS_SPIRE_ADDR, F.IDENT_LIC_PAIR_FEATURES, F.LANT_EVENT_FREE, F.LANT_EVENT_HOLDOVER,
      F.LANT_EVENT_STATE_CHANGE, F.LANT_STATUS_DEPTH, F.LANT_STATUS_PARENT_SPIRE, F.LANT_STATUS_PARENT_TWIN,
      F.LANT_STATUS_PPS_IN, F.LANT_STATUS_STATE, F.TWIN_STATUS_HANDOVER, F.TWIN_STATUS_STATE, F.TWIN_STATUS_SWITCH_PENDING,
      whole .LANT_COUNT, whole .LANT_HOLDOVER] [] [.lant, .twin, .sent, .free] s t) ∧
  (∀ (round : Nat) (s t : State), exec (.syncDone round) s = .next t →
    Frame [F.DISC_STATUS_STATE, F.ETH_STATUS_SPIRE_ADDR, F.IDENT_LIC_PAIR_FEATURES, F.LANT_EVENT_FREE, F.LANT_EVENT_HOLDOVER,
      F.LANT_EVENT_STATE_CHANGE, F.LANT_STATUS_DEPTH, F.LANT_STATUS_PARENT_SPIRE, F.LANT_STATUS_PARENT_TWIN,
      F.LANT_STATUS_PPS_IN, F.LANT_STATUS_STATE, F.TWIN_STATUS_PARTNER_STATE, F.TWIN_STATUS_STATE, whole .LANT_COUNT, whole
      .LANT_HOLDOVER] [] [.disc, .lant, .pwr, .sent, .free] s t) ∧
  (∀ (round : Nat) (s t : State), exec (.mismatch round) s = .next t →
    Frame [F.BELL_ACT_ROUND_ROUND, F.BELL_EVENT_INSTALL_CANCELLED, F.BELL_STATUS_INSTALL_STATE, F.TWIN_CAP_INFO_OVERFLOW,
      F.TWIN_CAP_INFO_ROUND, F.TWIN_CAP_INFO_VALID, F.TWIN_EVENT_CAPTURE_LOST, F.TWIN_EVENT_MISMATCH, whole .BELL_COUNT, whole
      .TWIN_COUNT] [] [.bell, .twin, .sent, .free] s t) ∧
  (∀ (drill : Bool) (hard : Bool) (s t : State), exec (.switchReq drill hard) s = .next t →
    Frame [F.TWIN_HANDOVER_COPIED_MIB, F.TWIN_HANDOVER_DIRTY, F.TWIN_STATUS_HANDOVER] [] [.mbx, .twin, .sent] s t) ∧
  (∀ (reason : Nat) (s t : State), exec (.switchRefuse reason) s = .next t →
    Frame [F.TWIN_EVENT_DRILL_FAILED, F.TWIN_EVENT_SWITCH_REFUSED, F.TWIN_STATUS_DRILL, F.TWIN_STATUS_HANDOVER,
      F.TWIN_STATUS_SWITCH_PENDING] [] [.twin, .sent] s t) ∧
  (∀ (seq : Nat) (s t : State), exec (.mirrorNak seq) s = .next t →
    Frame [F.ETH_STATUS_SPIRE_ADDR, F.IDENT_LIC_PAIR_FEATURES, F.LANT_EVENT_FREE, F.LANT_EVENT_HOLDOVER,
      F.LANT_EVENT_STATE_CHANGE, F.LANT_STATUS_DEPTH, F.LANT_STATUS_PARENT_SPIRE, F.LANT_STATUS_PARENT_TWIN,
      F.LANT_STATUS_PPS_IN, F.LANT_STATUS_STATE, F.TWIN_EVENT_MIRROR_LOSS, F.TWIN_STATUS_HANDOVER, F.TWIN_STATUS_STATE,
      F.TWIN_STATUS_SWITCH_PENDING, whole .LANT_COUNT, whole .LANT_HOLDOVER, whole .TWIN_COUNT] [] [.lant, .twin, .sent, .free]
      s t) ∧
  (∀ (regions : Nat) (s t : State), exec (.handoverDone regions) s = .next t →
    Frame [F.TWIN_STATUS_HANDOVER, F.TWIN_STATUS_SWITCH_PENDING] [] [.mbx, .twin, .sent] s t) ∧
  (∀ (round : Nat) (s t : State), exec (.activeSilence round) s = .next t →
    Frame [F.ETH_STATUS_SPIRE_ADDR, F.IDENT_LIC_PAIR_FEATURES, F.LANT_EVENT_FREE, F.LANT_EVENT_HOLDOVER,
      F.LANT_EVENT_STATE_CHANGE, F.LANT_STATUS_DEPTH, F.LANT_STATUS_PARENT_SPIRE, F.LANT_STATUS_PARENT_TWIN,
      F.LANT_STATUS_PPS_IN, F.LANT_STATUS_STATE, F.TWIN_EVENT_DRILL_FAILED, F.TWIN_STATUS_CLAIM_EPOCH, F.TWIN_STATUS_DRILL,
      F.TWIN_STATUS_STATE, whole .LANT_COUNT, whole .LANT_HOLDOVER] [] [.lant, .twin, .sent, .free] s t) ∧
  (∀ (s t : State), exec .claimRetry s = .next t →
    Frame [F.ETH_STATUS_SPIRE_ADDR, F.IDENT_LIC_PAIR_FEATURES, F.LANT_EVENT_FREE, F.LANT_EVENT_HOLDOVER,
      F.LANT_EVENT_STATE_CHANGE, F.LANT_STATUS_DEPTH, F.LANT_STATUS_PARENT_SPIRE, F.LANT_STATUS_PARENT_TWIN,
      F.LANT_STATUS_PPS_IN, F.LANT_STATUS_STATE, F.TWIN_EVENT_DRILL_FAILED, F.TWIN_STATUS_CLAIM_EPOCH, F.TWIN_STATUS_DRILL,
      F.TWIN_STATUS_STATE, whole .LANT_COUNT, whole .LANT_HOLDOVER] [] [.lant, .twin, .sent, .free] s t) ∧
  (∀ (s t : State), exec .startingTimeout s = .next t →
    Frame [F.TWIN_STATUS_CLAIM_EPOCH] [] [.twin, .sent] s t) ∧
  (∀ (s t : State), exec .switch s = .next t →
    Frame [F.TWIN_HANDOVER_COPIED_MIB, F.TWIN_HANDOVER_DIRTY, F.TWIN_STATUS_HANDOVER] [] [.twin, .answer] s t) ∧
  (∀ (hard : Bool) (s t : State), exec (.drill hard) s = .next t →
    Frame [F.TWIN_HANDOVER_COPIED_MIB, F.TWIN_HANDOVER_DIRTY, F.TWIN_STATUS_DRILL, F.TWIN_STATUS_HANDOVER, whole .TWIN_COUNT]
      [] [.twin, .answer] s t) ∧
  (∀ (s t : State), exec .twinCancel s = .next t →
    Frame [F.TWIN_STATUS_DRILL, F.TWIN_STATUS_HANDOVER, F.TWIN_STATUS_SWITCH_PENDING] [] [.mbx, .twin, .answer, .sent] s t) ∧
  (∀ (s t : State), exec .clearCapture s = .next t →
    Frame [whole .TWIN_CAP_INFO] [] [.twin, .answer] s t) ∧
  (∀ (s t : State), exec .autoReturn s = .next t →
    Frame [] [] [.mbx, .twin, .sent] s t) ∧
  (∀ (s t : State), exec .switchRoundTimeout s = .next t →
    Frame [F.TWIN_EVENT_DRILL_FAILED, F.TWIN_EVENT_SWITCH_REFUSED, F.TWIN_STATUS_DRILL, F.TWIN_STATUS_HANDOVER,
      F.TWIN_STATUS_SWITCH_PENDING] [] [.mbx, .twin, .sent] s t) ∧
  (∀ (s t : State), exec .drillReturn s = .next t →
    Frame [] [] [.mbx, .twin, .sent] s t) ∧
  (∀ (feed : Nat) (mv : Nat) (s t : State), exec (.feedStateChange feed mv) s = .next t → s.pwr.enable = false ∨ s.pwr.started
      = true →
    Frame [F.BELF_EVENT_FROZEN_FULL, F.BELF_EVENT_OVERFLOW, F.BELF_EVENT_SHED, F.BELF_OVERFLOW_LAST_SOURCE,
      F.BELF_OVERFLOW_RECORDS, F.TWIN_EVENT_FEED_CHANGE, whole .BELF_SHED] [(F.TWIN_FEED_MA, 0, feed), (F.TWIN_FEED_MV, 0,
      feed), (F.TWIN_FEED_STATE, 0, feed)] [.mbx, .belf, .sent] s t) ∧
  (∀ (ma : Nat) (s t : State), exec (.feedCurrentLimit ma) s = .next t → s.pwr.feedEconomy = false ∨ 600 < s.g
      F.PWR_STATUS_CORE_MV →
    Frame [F.PWR_STATUS_CORE_MV] [(F.PWR_RAIL_MV, 0, 4)] [.pwr] s t) ∧
  (∀ (s t : State), exec .enableAssert s = .next t →
    Frame [F.AG_MBX_FULL_IN_FULL, F.AG_MBX_FULL_OUT_FULL, F.AG_MBX_FULL_QUEUED, F.BELF_OVERFLOW_LAST_SOURCE,
      F.BELF_OVERFLOW_RECORDS, F.KEY_MEM_GENERATION, F.MBX_EPOCH_EPOCH, F.MBX_HOUT_FULL_FULL, F.PWR_RAIL_MA, F.PWR_RAIL_MV,
      F.PWR_RAIL_STATE, F.PWR_STATUS_STAGE, F.PWR_STATUS_STAGE_FAIL, whole .AG_MBX_OUT, whole .MBX_COUNT, whole .MBX_HOUT] []
      [.agents, .mbx, .belf, .twin, .pwr, .sent, .free] s t) ∧
  (∀ (s t : State), exec .resetWaitExpiry s = .next t →
    Frame [F.PWR_EVENT_RESET_REFUSED, F.PWR_STATUS_RESET] [] [.graph, .pwr, .sent] s t) ∧
  (∀ (s t : State), exec .fwVerify s = .next t →
    Frame [F.IDENT_FW_OTHER_VALID, F.PWR_EVENT_FW_REFUSED, F.PWR_EVENT_FW_VERIFIED, F.PWR_FW_STATUS_ERR, F.PWR_FW_STATUS_STATE]
      [] [.pwr, .answer, .sent] s t) ∧
  (∀ (s t : State), exec .fwCommit s = .next t →
    Frame [F.IDENT_FW_COMMITTED, F.PWR_EVENT_FW_COMMITTED, F.PWR_FW_STATUS_STATE] [] [.pwr, .sent] s t) ∧
  (∀ (s t : State), exec .licInstall s = .next t →
    Frame [F.PORT_STATUS_STATE, F.PWR_EVENT_LIC_INSTALLED, F.PWR_EVENT_LIC_REFUSED, F.PWR_LIC_STATUS_COUNT,
      F.PWR_LIC_STATUS_ERR, whole .IDENT_LIC] [] [.twin, .pwr, .answer, .sent] s t) ∧
  (∀ (value : Word) (s t : State), exec (.pwrStageSelWrite value) s = .next t →
    Frame [F.IDENT_FW_OTHER_VALID, F.PWR_FW_STATUS_LENGTH_KIB, F.PWR_FW_STATUS_STATE, F.PWR_STAGE_SEL_OFFSET,
      F.PWR_STAGE_SEL_TARGET] [] [.pwr, .answer] s t)
end

