-- ==== Sys2Proof/Laws/Store.lean ====
section
/-! SUPPORT. The two sparse stores: what a read after a write gives, and that every write keeps the canonical form. -/
namespace Sys2Proof.Machine

theorem Reg.ctorIdx_inj {a b : Reg} (h : a.ctorIdx = b.ctorIdx) : a = b := by
  have ha := Reg.ofNat_ctorIdx a
  have hb := Reg.ofNat_ctorIdx b
  rw [← ha, ← hb, h]

theorem keyOf_eq_iff {r r' : Reg} {n n' i i' : Nat} :
    keyOf r n i = keyOf r' n' i' ↔ r = r' ∧ n = n' ∧ i = i' := by
  constructor
  · intro h
    simp only [keyOf, Key.mk.injEq] at h
    exact ⟨Reg.ctorIdx_inj h.1, h.2.1, h.2.2⟩
  · rintro ⟨rfl, rfl, rfl⟩
    rfl

theorem RegMap.find_insert_same (m : RegMap) (x : Key) (v : Word) : (m.insert x v).find x = some v := by
  induction m with
  | nil => simp [RegMap.insert, RegMap.find]
  | cons e m ih =>
    obtain ⟨k, w⟩ := e
    unfold RegMap.insert
    split
    · simp [RegMap.find]
    · split
      · simp [RegMap.find]
      · next hk _ => simp [RegMap.find, hk, ih]

theorem RegMap.find_insert_ne (m : RegMap) {x y : Key} (v : Word) (h : x ≠ y) : (m.insert x v).find y = m.find y := by
  induction m with
  | nil => simp [RegMap.insert, RegMap.find, h]
  | cons e m ih =>
    obtain ⟨k, w⟩ := e
    unfold RegMap.insert
    split
    · next hk => subst hk; simp [RegMap.find, h]
    · split
      · simp [RegMap.find, h]
      · simp only [RegMap.find]; split <;> simp_all

theorem RegMap.find_erase_same (m : RegMap) (x : Key) : (m.erase x).find x = none := by
  induction m with
  | nil => rfl
  | cons e m ih =>
    obtain ⟨k, w⟩ := e
    simp only [RegMap.erase, List.filter_cons] at ih ⊢
    split
    · next h => simp at h; simpa [RegMap.find, h] using ih
    · exact ih

theorem RegMap.find_erase_ne (m : RegMap) {x y : Key} (h : x ≠ y) : (m.erase x).find y = m.find y := by
  induction m with
  | nil => rfl
  | cons e m ih =>
    obtain ⟨k, w⟩ := e
    simp only [RegMap.erase, List.filter_cons] at ih ⊢
    split
    · simp only [RegMap.find]; split <;> simp_all
    · next hk =>
      simp at hk; subst hk
      simpa [RegMap.find, h] using ih

/-- A read after a write of the same key. -/
theorem RegMap.find_put_same (m : RegMap) (x : Key) (d v : Word) : ((m.put x d v).find x).getD d = v := by
  unfold RegMap.put
  split
  · next h => simp [RegMap.find_erase_same, h]
  · simp [RegMap.find_insert_same]

/-- A write leaves every other key alone. -/
theorem RegMap.find_put_ne (m : RegMap) {x y : Key} (d v : Word) (h : x ≠ y) : (m.put x d v).find y = m.find y := by
  unfold RegMap.put
  split
  · exact RegMap.find_erase_ne m h
  · exact RegMap.find_insert_ne m v h

/-- The canonical form: keys strictly rising. -/
theorem RegMap.sorted_iff (m : RegMap) : m.sorted = true ↔ m.Pairwise (fun a b => a.1.lt b.1 = true) := by
  have trans : ∀ a b c : Key, a.lt b = true → b.lt c = true → a.lt c = true := by
    intro a b c h1 h2
    simp only [Key.lt, Bool.or_eq_true, decide_eq_true_eq, Bool.and_eq_true, beq_iff_eq] at *
    omega
  induction m with
  | nil => simp [RegMap.sorted]
  | cons e m ih =>
    cases m with
    | nil => simp [RegMap.sorted]
    | cons f m =>
      simp only [RegMap.sorted, Bool.and_eq_true, ih, List.pairwise_cons]
      constructor
      · rintro ⟨h, hf, hm⟩
        refine ⟨?_, hf, hm⟩
        intro g hg
        rcases List.mem_cons.mp hg with rfl | hg
        · exact h
        · exact trans _ _ _ h (hf g hg)
      · rintro ⟨h, hf, hm⟩
        exact ⟨h f (by simp), hf, hm⟩

theorem RegMap.insert_mem {m : RegMap} {x : Key} {v : Word} {e : Key × Word} (h : e ∈ m.insert x v) :
    e = (x, v) ∨ e ∈ m := by
  induction m with
  | nil => simp [RegMap.insert] at h; exact .inl h
  | cons f m ih =>
    obtain ⟨k, w⟩ := f
    unfold RegMap.insert at h
    split at h
    · rcases List.mem_cons.mp h with h | h
      · exact .inl h
      · exact .inr (List.mem_cons_of_mem _ h)
    · split at h
      · rcases List.mem_cons.mp h with h | h
        · exact .inl h
        · exact .inr h
      · rcases List.mem_cons.mp h with h | h
        · exact .inr (by simp [h])
        · rcases ih h with h | h
          · exact .inl h
          · exact .inr (List.mem_cons_of_mem _ h)

/-- A write keeps the register map in canonical form. -/
theorem RegMap.put_sorted {m : RegMap} (h : m.sorted = true) (x : Key) (d v : Word) : (m.put x d v).sorted = true := by
  have trans : ∀ a b c : Key, a.lt b = true → b.lt c = true → a.lt c = true := by
    intro a b c h1 h2
    simp only [Key.lt, Bool.or_eq_true, decide_eq_true_eq, Bool.and_eq_true, beq_iff_eq] at *
    omega
  have total : ∀ a b : Key, a ≠ b → b.lt a = false → a.lt b = true := by
    intro a b hn h1
    cases a; cases b
    simp only [Key.lt, Bool.or_eq_true, decide_eq_true_eq, Bool.and_eq_true, beq_iff_eq, Bool.or_eq_false_iff,
      decide_eq_false_iff_not, Bool.and_eq_false_imp, ne_eq, Key.mk.injEq] at *
    omega
  rw [RegMap.sorted_iff] at h ⊢
  unfold RegMap.put
  split
  · exact h.filter _
  · induction m with
    | nil => simp [RegMap.insert]
    | cons e m ih =>
      obtain ⟨k, w⟩ := e
      rw [List.pairwise_cons] at h
      unfold RegMap.insert
      split
      · next hk => subst hk; exact List.pairwise_cons.mpr h
      · next hk =>
        split
        · next hx =>
          refine List.pairwise_cons.mpr ⟨?_, List.pairwise_cons.mpr h⟩
          intro g hg
          rcases List.mem_cons.mp hg with rfl | hg
          · exact hx
          · exact trans _ _ _ hx (h.1 g hg)
        · next hx =>
          refine List.pairwise_cons.mpr ⟨?_, ih h.2⟩
          intro g hg
          rcases RegMap.insert_mem hg with rfl | hg
          · exact total _ _ hk (by simpa using hx)
          · exact h.1 g hg

theorem ByteMap.find_put_same (m : ByteMap) (x : Nat) (v : Byte) : (m.put x v).find x = some v := by
  induction m with
  | nil => simp [ByteMap.put, ByteMap.find]
  | cons e m ih =>
    obtain ⟨k, w⟩ := e
    unfold ByteMap.put
    split
    · simp [ByteMap.find]
    · split
      · simp [ByteMap.find]
      · next hk _ => simp [ByteMap.find, hk, ih]

theorem ByteMap.find_put_ne (m : ByteMap) {x y : Nat} (v : Byte) (h : x ≠ y) : (m.put x v).find y = m.find y := by
  induction m with
  | nil => simp [ByteMap.put, ByteMap.find, h]
  | cons e m ih =>
    obtain ⟨k, w⟩ := e
    unfold ByteMap.put
    split
    · next hk => subst hk; simp [ByteMap.find, h]
    · split
      · simp [ByteMap.find, h]
      · simp only [ByteMap.find]; split <;> simp_all

theorem ByteMap.wf_iff (m : ByteMap) : m.wf = true ↔ m.Pairwise (fun a b => a.1 < b.1) := by
  induction m with
  | nil => simp [ByteMap.wf]
  | cons e m ih =>
    cases m with
    | nil => simp [ByteMap.wf]
    | cons f m =>
      simp only [ByteMap.wf, Bool.and_eq_true, decide_eq_true_eq, ih, List.pairwise_cons]
      constructor
      · rintro ⟨h, hf, hm⟩
        refine ⟨?_, hf, hm⟩
        intro g hg
        rcases List.mem_cons.mp hg with rfl | hg
        · exact h
        · exact Nat.lt_trans h (hf g hg)
      · rintro ⟨h, hf, hm⟩
        exact ⟨h f (by simp), hf, hm⟩

theorem ByteMap.put_mem {m : ByteMap} {x : Nat} {v : Byte} {e : Host.Cell} (h : e ∈ m.put x v) : e = (x, v) ∨ e ∈ m := by
  induction m with
  | nil => simp [ByteMap.put] at h; exact .inl h
  | cons f m ih =>
    obtain ⟨k, w⟩ := f
    unfold ByteMap.put at h
    split at h
    · rcases List.mem_cons.mp h with h | h
      · exact .inl h
      · exact .inr (List.mem_cons_of_mem _ h)
    · split at h
      · rcases List.mem_cons.mp h with h | h
        · exact .inl h
        · exact .inr h
      · rcases List.mem_cons.mp h with h | h
        · exact .inr (by simp [h])
        · rcases ih h with h | h
          · exact .inl h
          · exact .inr (List.mem_cons_of_mem _ h)

/-- A byte write keeps the canonical form. -/
theorem ByteMap.put_wf {m : ByteMap} (h : m.wf = true) (x : Nat) (v : Byte) : (m.put x v).wf = true := by
  rw [ByteMap.wf_iff] at h ⊢
  induction m with
  | nil => simp [ByteMap.put]
  | cons e m ih =>
    obtain ⟨k, w⟩ := e
    rw [List.pairwise_cons] at h
    unfold ByteMap.put
    split
    · next hk => subst hk; exact List.pairwise_cons.mpr h
    · next hk =>
      split
      · next hx =>
        refine List.pairwise_cons.mpr ⟨?_, List.pairwise_cons.mpr h⟩
        intro g hg
        rcases List.mem_cons.mp hg with rfl | hg
        · exact hx
        · exact Nat.lt_trans hx (h.1 g hg)
      · refine List.pairwise_cons.mpr ⟨?_, ih h.2⟩
        intro g hg
        rcases ByteMap.put_mem hg with rfl | hg
        · show k < x
          omega
        · exact h.1 g hg

/-- Writing bytes keeps the canonical form. -/
theorem ByteMap.write_wf (bs : Bytes) {m : ByteMap} (h : m.wf = true) (off : Nat) : (m.write off bs).wf = true := by
  induction bs generalizing m off with
  | nil => exact h
  | cons b bs ih => exact ih (ByteMap.put_wf h off b) (off + 1)

end Sys2Proof.Machine
end

