-- ==== Sys2Proof/Laws/Registers.lean ====
section
/-! SUPPORT. Register words and fields: a read after a write, what a write leaves alone, and the status fields after a
command. -/
namespace Sys2Proof.Machine

theorem getBits_lt (w : Word) (lo len : Nat) : getBits w lo len < 2 ^ len := Nat.mod_lt _ (Nat.two_pow_pos _)

theorem getBits_putBits_same (w : Word) {lo len : Nat} (v : Nat) (h : lo + len ≤ 64) :
    getBits (putBits w lo len v) lo len = v % 2 ^ len := by
  have hw := w.isLt
  have hp : (2:Nat) ^ (lo + len) = 2 ^ lo * 2 ^ len := Nat.pow_add 2 lo len
  have e64 : (2:Nat) ^ 64 = 2 ^ (lo + len) * 2 ^ (64 - (lo + len)) := by rw [← Nat.pow_add]; congr 1; omega
  have a1 : w.toNat % 2 ^ lo < 2 ^ lo := Nat.mod_lt _ (Nat.two_pow_pos _)
  have a2 : v % 2 ^ len < 2 ^ len := Nat.mod_lt _ (Nat.two_pow_pos _)
  have dvd : (w.toNat % 2 ^ lo + v % 2 ^ len * 2 ^ lo + w.toNat / 2 ^ (lo + len) * 2 ^ (lo + len)) % 2 ^ 64 % 2 ^ (lo + len)
      = w.toNat % 2 ^ lo + v % 2 ^ len * 2 ^ lo := by
    rw [e64, Nat.mod_mul_right_mod, Nat.add_mul_mod_self_right, Nat.mod_eq_of_lt]
    have : v % 2 ^ len * 2 ^ lo + 2 ^ lo ≤ 2 ^ len * 2 ^ lo := by
      rw [← Nat.succ_mul]; exact Nat.mul_le_mul_right _ a2
    rw [hp, Nat.mul_comm (2 ^ lo)]; omega
  unfold getBits putBits
  rw [BitVec.toNat_ofNat, ← Nat.mod_mul_right_div_self, ← hp, dvd, Nat.add_mul_div_right _ _ (Nat.two_pow_pos _),
    Nat.div_eq_of_lt a1, Nat.zero_add]

theorem getBits_testBit (w : Word) (lo len j : Nat) : (getBits w lo len).testBit j = (decide (j < len) && w.toNat.testBit (lo + j)) := by
  unfold getBits
  rw [Nat.testBit_mod_two_pow, Nat.testBit_div_two_pow, Nat.add_comm]

theorem putBits_testBit_out (w : Word) {lo len : Nat} (v j : Nat) (h : lo + len ≤ 64) (hj : j < lo ∨ lo + len ≤ j) :
    (putBits w lo len v).toNat.testBit j = w.toNat.testBit j := by
  have hp : (2:Nat) ^ (lo + len) = 2 ^ lo * 2 ^ len := Nat.pow_add 2 lo len
  have a1 : w.toNat % 2 ^ lo < 2 ^ lo := Nat.mod_lt _ (Nat.two_pow_pos _)
  have a2 : v % 2 ^ len < 2 ^ len := Nat.mod_lt _ (Nat.two_pow_pos _)
  have lowlt : w.toNat % 2 ^ lo + v % 2 ^ len * 2 ^ lo < 2 ^ (lo + len) := by
    have : v % 2 ^ len * 2 ^ lo + 2 ^ lo ≤ 2 ^ len * 2 ^ lo := by
      rw [← Nat.succ_mul]; exact Nat.mul_le_mul_right _ a2
    rw [hp, Nat.mul_comm (2 ^ lo)]; omega
  have hw := w.isLt
  have e64 : (2:Nat) ^ 64 = 2 ^ (lo + len) * 2 ^ (64 - (lo + len)) := by rw [← Nat.pow_add]; congr 1; omega
  have hq : w.toNat / 2 ^ (lo + len) < 2 ^ (64 - (lo + len)) := by
    rw [Nat.div_lt_iff_lt_mul (Nat.two_pow_pos _), Nat.mul_comm, ← e64]; exact hw
  have tot : w.toNat % 2 ^ lo + v % 2 ^ len * 2 ^ lo + w.toNat / 2 ^ (lo + len) * 2 ^ (lo + len) < 2 ^ 64 := by
    have : w.toNat / 2 ^ (lo + len) * 2 ^ (lo + len) + 2 ^ (lo + len) ≤ 2 ^ (64 - (lo + len)) * 2 ^ (lo + len) := by
      rw [← Nat.succ_mul]; exact Nat.mul_le_mul_right _ hq
    rw [e64, Nat.mul_comm (2 ^ (lo + len))]; omega
  unfold putBits
  rw [BitVec.toNat_ofNat, Nat.mod_eq_of_lt tot]
  rcases hj with hj | hj
  · have e1 : (w.toNat % 2 ^ lo + v % 2 ^ len * 2 ^ lo + w.toNat / 2 ^ (lo + len) * 2 ^ (lo + len)) % 2 ^ lo = w.toNat % 2 ^ lo := by
      rw [hp, show w.toNat / (2 ^ lo * 2 ^ len) * (2 ^ lo * 2 ^ len) = w.toNat / (2 ^ lo * 2 ^ len) * 2 ^ len * 2 ^ lo by
        rw [Nat.mul_assoc, Nat.mul_comm (2 ^ len)], Nat.add_mul_mod_self_right, Nat.add_mul_mod_self_right, Nat.mod_mod]
    have t1 := Nat.testBit_mod_two_pow (w.toNat % 2 ^ lo + v % 2 ^ len * 2 ^ lo + w.toNat / 2 ^ (lo + len) * 2 ^ (lo + len)) lo j
    have t2 := Nat.testBit_mod_two_pow w.toNat lo j
    rw [e1, t2] at t1
    simpa [hj] using t1.symm
  · have e1 : (w.toNat % 2 ^ lo + v % 2 ^ len * 2 ^ lo + w.toNat / 2 ^ (lo + len) * 2 ^ (lo + len)) / 2 ^ (lo + len) = w.toNat / 2 ^ (lo + len) := by
      rw [Nat.add_mul_div_right _ _ (Nat.two_pow_pos _), Nat.div_eq_of_lt lowlt, Nat.zero_add]
    have t1 := Nat.testBit_div_two_pow (n := lo + len) (w.toNat % 2 ^ lo + v % 2 ^ len * 2 ^ lo + w.toNat / 2 ^ (lo + len) * 2 ^ (lo + len)) (j - (lo + len))
    have t2 := Nat.testBit_div_two_pow (n := lo + len) w.toNat (j - (lo + len))
    rw [e1] at t1
    rw [show j - (lo + len) + (lo + len) = j by omega] at t1 t2
    rw [← t1, ← t2]

theorem getBits_putBits_other (w : Word) {lo len lo' len' : Nat} (v : Nat) (h : lo + len ≤ 64)
    (hd : lo + len ≤ lo' ∨ lo' + len' ≤ lo) : getBits (putBits w lo len v) lo' len' = getBits w lo' len' := by
  apply Nat.eq_of_testBit_eq
  intro j
  rw [getBits_testBit, getBits_testBit]
  by_cases hj : j < len'
  · rw [putBits_testBit_out w v _ h (by omega)]
  · simp [hj]

namespace State

theorem rd_eq (s : State) (r : Reg) (n i : Nat) : s.rd r n i = (s.regs.find (keyOf r n i)).getD (resetOf r n i) := by
  unfold rd; split <;> simp [*]

theorem rd_of_regs {s t : State} (h : t.regs = s.regs) (r : Reg) (n i : Nat) : t.rd r n i = s.rd r n i := by
  rw [rd_eq, rd_eq, h]

@[simp] theorem rd_wr_same (s : State) (r : Reg) (n i : Nat) (w : Word) : (s.wr r n i w).rd r n i = w := by
  rw [rd_eq]; exact RegMap.find_put_same _ _ _ _

theorem rd_wr_key (s : State) {r r' : Reg} {n i n' i' : Nat} (w : Word) (h : keyOf r n i ≠ keyOf r' n' i') :
    (s.wr r n i w).rd r' n' i' = s.rd r' n' i' := by
  rw [rd_eq, rd_eq]; simp only [wr]; rw [RegMap.find_put_ne _ _ _ h]

@[simp] theorem rd_wr_reg (s : State) {r r' : Reg} (n i n' i' : Nat) (w : Word) (h : r ≠ r') :
    (s.wr r n i w).rd r' n' i' = s.rd r' n' i' :=
  rd_wr_key s w (fun e => h (keyOf_eq_iff.mp e).1)

theorem ga_of_regs {s t : State} (h : t.regs = s.regs) (f : Fld) (n i : Nat) : t.ga f n i = s.ga f n i := by
  simp only [ga, rd_of_regs h]

theorem ga_lt (s : State) (f : Fld) (n i : Nat) : s.ga f n i < 2 ^ f.len := getBits_lt _ _ _

/-- A field reads back the value written, cut to its width. -/
@[simp] theorem ga_pa_same (s : State) (f : Fld) (n i v : Nat) (h : f.lo + f.len ≤ 64) :
    (s.pa f n i v).ga f n i = v % 2 ^ f.len := by
  simp only [ga, pa, rd_wr_same]; exact getBits_putBits_same _ _ h

/-- A field write leaves every other field alone, in its own word and in every other. -/
@[simp] theorem ga_pa_apart (s : State) (f f' : Fld) (n i n' i' v : Nat) (h : f.apart f' = true) :
    (s.pa f n i v).ga f' n' i' = s.ga f' n' i' := by
  simp only [Fld.apart, Bool.or_eq_true, bne_iff_ne, ne_eq, Bool.and_eq_true, decide_eq_true_eq] at h
  simp only [ga, pa]
  by_cases hk : keyOf f.reg n i = keyOf f'.reg n' i'
  · obtain ⟨hr, rfl, rfl⟩ := keyOf_eq_iff.mp hk
    rcases h with h | ⟨h1, h2⟩
    · exact absurd hr h
    · rw [← hr, rd_wr_same]; exact getBits_putBits_other _ _ h1 h2
  · rw [rd_wr_key _ _ hk]

theorem ga_pa_key (s : State) (f f' : Fld) {n i n' i' : Nat} (v : Nat) (h : n ≠ n' ∨ i ≠ i') :
    (s.pa f n i v).ga f' n' i' = s.ga f' n' i' := by
  simp only [ga, pa]
  rw [rd_wr_key]
  intro e
  obtain ⟨_, hn, hi⟩ := keyOf_eq_iff.mp e
  rcases h with h | h
  · exact h hn
  · exact h hi

/-- A field write leaves every other register alone. -/
@[simp] theorem rd_pa_reg (s : State) (f : Fld) {r : Reg} (n i n' i' v : Nat) (h : f.reg ≠ r) :
    (s.pa f n i v).rd r n' i' = s.rd r n' i' := by
  simp only [pa]; exact rd_wr_reg _ _ _ _ _ _ h

@[simp] theorem ga_wr_reg (s : State) (f : Fld) {r : Reg} (n i n' i' : Nat) (w : Word) (h : r ≠ f.reg) :
    (s.wr r n i w).ga f n' i' = s.ga f n' i' := by
  simp only [ga, rd_wr_reg _ _ _ _ _ _ h]

@[simp] theorem ga_wr_same (s : State) (f : Fld) (n i : Nat) (w : Word) :
    (s.wr f.reg n i w).ga f n i = getBits w f.lo f.len := by
  simp only [ga, rd_wr_same]

end State

/-- No status field that follows the state lies in this register. -/
def Reg.settled (r : Reg) : Bool := statusFields.all (fun e => e.reg != r)

theorem foldl_p_ga (l : List (Fld × (State → Nat))) (s t : State) (f : Fld) (n i : Nat)
    (h : (l.map Prod.fst).all (fun e => e.apart f) = true) :
    (l.foldl (fun t e => t.p e.1 (e.2 s)) t).ga f n i = t.ga f n i := by
  induction l generalizing t with
  | nil => rfl
  | cons e l ih =>
    simp only [List.map_cons, List.all_cons, Bool.and_eq_true] at h
    simp only [List.foldl_cons]
    rw [ih _ h.2]
    exact State.ga_pa_apart _ _ _ _ _ _ _ _ h.1

theorem foldl_p_rd (l : List (Fld × (State → Nat))) (s t : State) (r : Reg) (n i : Nat)
    (h : (l.map Prod.fst).all (fun e => e.reg != r) = true) :
    (l.foldl (fun t e => t.p e.1 (e.2 s)) t).rd r n i = t.rd r n i := by
  induction l generalizing t with
  | nil => rfl
  | cons e l ih =>
    simp only [List.map_cons, List.all_cons, Bool.and_eq_true] at h
    simp only [List.foldl_cons]
    rw [ih _ h.2]
    exact State.rd_pa_reg _ _ _ _ _ _ _ (by simpa using h.1)

theorem foldl_p_key (l : List (Fld × (State → Nat))) (s t : State) (r : Reg) (n i : Nat) (h : n ≠ 0 ∨ i ≠ 0) :
    (l.foldl (fun t e => t.p e.1 (e.2 s)) t).rd r n i = t.rd r n i := by
  induction l generalizing t with
  | nil => rfl
  | cons e l ih =>
    simp only [List.foldl_cons]
    rw [ih]
    simp only [State.p, State.pa]
    apply State.rd_wr_key
    intro e
    obtain ⟨_, hn, hi⟩ := keyOf_eq_iff.mp e
    omega

namespace State

theorem settle_regs (s : State) : s.settle.regs = s.refresh.regs := by rw [settle]

/-- The end of a command leaves every field alone that no derived status field shares a bit with. -/
@[simp] theorem settle_ga (s : State) (f : Fld) (n i : Nat) (h : f.settled = true) : s.settle.ga f n i = s.ga f n i := by
  rw [ga_of_regs s.settle_regs, refresh]
  exact foldl_p_ga derived s s f n i h

@[simp] theorem settle_rd (s : State) (r : Reg) (n i : Nat) (h : r.settled = true) : s.settle.rd r n i = s.rd r n i := by
  rw [rd_of_regs s.settle_regs, refresh]
  exact foldl_p_rd derived s s r n i h

/-- Agent registers and the elements of arrays beyond the first are no status fields. -/
theorem settle_rd_key (s : State) (r : Reg) {n i : Nat} (h : n ≠ 0 ∨ i ≠ 0) : s.settle.rd r n i = s.rd r n i := by
  rw [rd_of_regs s.settle_regs, refresh]
  exact foldl_p_key derived s s r n i h

theorem settle_ga_key (s : State) (f : Fld) {n i : Nat} (h : n ≠ 0 ∨ i ≠ 0) : s.settle.ga f n i = s.ga f n i := by
  simp only [ga, settle_rd_key s _ h]

end State

end Sys2Proof.Machine
end

