-- ==== Sys2Proof/Laws/State.lean ====
section
/-! SUPPORT. What each named operation does to each field of the state: one lemma for each field and operation. -/
namespace Sys2Proof.Machine

theorem foldl_p_eq (l : List (Fld × (State → Nat))) (s t : State) :
    l.foldl (fun t e => t.p e.1 (e.2 s)) t = { t with regs := (l.foldl (fun t e => t.p e.1 (e.2 s)) t).regs } := by
  induction l generalizing t with
  | nil => rfl
  | cons e l ih =>
    rw [List.foldl_cons, ih]
    rfl

namespace State

/-- Reading by the short names is reading a field of a word. -/
@[simp] theorem g_eq (s : State) (f : Fld) : s.g f = s.ga f 0 0 := id rfl
@[simp] theorem gi_eq (s : State) (f : Fld) (i : Nat) : s.gi f i = s.ga f 0 i := id rfl
@[simp] theorem b_eq (s : State) (f : Fld) : s.b f = (s.ga f 0 0 == 1) := id rfl
@[simp] theorem bn_eq (s : State) (f : Fld) (n : Nat) : s.bn f n = (s.ga f n 0 == 1) := id rfl
@[simp] theorem p_eq (s : State) (f : Fld) (v : Nat) : s.p f v = s.pa f 0 0 v := id rfl
@[simp] theorem pi_eq (s : State) (f : Fld) (i v : Nat) : s.pi f i v = s.pa f 0 i v := id rfl
@[simp] theorem pn_eq (s : State) (f : Fld) (n v : Nat) : s.pn f n v = s.pa f n 0 v := id rfl

/-- The end of a command changes register words and output pins, and nothing else. -/
theorem settle_eq (s : State) : s.settle = { s with regs := s.refresh.regs, pins := s.pinsNow } := by
  rw [settle, refresh, foldl_p_eq]

@[simp] theorem wr_plan (s : State) (r : Reg) (n i : Nat) (w : Word) : (s.wr r n i w).plan = s.plan := id rfl
@[simp] theorem pa_plan (s : State) (f : Fld) (n i v : Nat) : (s.pa f n i v).plan = s.plan := id rfl
@[simp] theorem settle_plan (s : State) : s.settle.plan = s.plan := by rw [settle_eq]
@[simp] theorem wr_disc (s : State) (r : Reg) (n i : Nat) (w : Word) : (s.wr r n i w).disc = s.disc := id rfl
@[simp] theorem pa_disc (s : State) (f : Fld) (n i v : Nat) : (s.pa f n i v).disc = s.disc := id rfl
@[simp] theorem settle_disc (s : State) : s.settle.disc = s.disc := by rw [settle_eq]
@[simp] theorem wr_bell (s : State) (r : Reg) (n i : Nat) (w : Word) : (s.wr r n i w).bell = s.bell := id rfl
@[simp] theorem pa_bell (s : State) (f : Fld) (n i v : Nat) : (s.pa f n i v).bell = s.bell := id rfl
@[simp] theorem settle_bell (s : State) : s.settle.bell = s.bell := by rw [settle_eq]
@[simp] theorem wr_cup (s : State) (r : Reg) (n i : Nat) (w : Word) : (s.wr r n i w).cup = s.cup := id rfl
@[simp] theorem pa_cup (s : State) (f : Fld) (n i v : Nat) : (s.pa f n i v).cup = s.cup := id rfl
@[simp] theorem settle_cup (s : State) : s.settle.cup = s.cup := by rw [settle_eq]
@[simp] theorem wr_rep (s : State) (r : Reg) (n i : Nat) (w : Word) : (s.wr r n i w).rep = s.rep := id rfl
@[simp] theorem pa_rep (s : State) (f : Fld) (n i v : Nat) : (s.pa f n i v).rep = s.rep := id rfl
@[simp] theorem settle_rep (s : State) : s.settle.rep = s.rep := by rw [settle_eq]
@[simp] theorem wr_agents (s : State) (r : Reg) (n i : Nat) (w : Word) : (s.wr r n i w).agents = s.agents := id rfl
@[simp] theorem pa_agents (s : State) (f : Fld) (n i v : Nat) : (s.pa f n i v).agents = s.agents := id rfl
@[simp] theorem settle_agents (s : State) : s.settle.agents = s.agents := by rw [settle_eq]
@[simp] theorem wr_grd (s : State) (r : Reg) (n i : Nat) (w : Word) : (s.wr r n i w).grd = s.grd := id rfl
@[simp] theorem pa_grd (s : State) (f : Fld) (n i v : Nat) : (s.pa f n i v).grd = s.grd := id rfl
@[simp] theorem settle_grd (s : State) : s.settle.grd = s.grd := by rw [settle_eq]
@[simp] theorem wr_graph (s : State) (r : Reg) (n i : Nat) (w : Word) : (s.wr r n i w).graph = s.graph := id rfl
@[simp] theorem pa_graph (s : State) (f : Fld) (n i v : Nat) : (s.pa f n i v).graph = s.graph := id rfl
@[simp] theorem settle_graph (s : State) : s.settle.graph = s.graph := by rw [settle_eq]
@[simp] theorem wr_sen (s : State) (r : Reg) (n i : Nat) (w : Word) : (s.wr r n i w).sen = s.sen := id rfl
@[simp] theorem pa_sen (s : State) (f : Fld) (n i v : Nat) : (s.pa f n i v).sen = s.sen := id rfl
@[simp] theorem settle_sen (s : State) : s.settle.sen = s.sen := by rw [settle_eq]
@[simp] theorem wr_chk (s : State) (r : Reg) (n i : Nat) (w : Word) : (s.wr r n i w).chk = s.chk := id rfl
@[simp] theorem pa_chk (s : State) (f : Fld) (n i v : Nat) : (s.pa f n i v).chk = s.chk := id rfl
@[simp] theorem settle_chk (s : State) : s.settle.chk = s.chk := by rw [settle_eq]
@[simp] theorem wr_mbx (s : State) (r : Reg) (n i : Nat) (w : Word) : (s.wr r n i w).mbx = s.mbx := id rfl
@[simp] theorem pa_mbx (s : State) (f : Fld) (n i v : Nat) : (s.pa f n i v).mbx = s.mbx := id rfl
@[simp] theorem settle_mbx (s : State) : s.settle.mbx = s.mbx := by rw [settle_eq]
@[simp] theorem wr_eth (s : State) (r : Reg) (n i : Nat) (w : Word) : (s.wr r n i w).eth = s.eth := id rfl
@[simp] theorem pa_eth (s : State) (f : Fld) (n i v : Nat) : (s.pa f n i v).eth = s.eth := id rfl
@[simp] theorem settle_eth (s : State) : s.settle.eth = s.eth := by rw [settle_eq]
@[simp] theorem wr_belf (s : State) (r : Reg) (n i : Nat) (w : Word) : (s.wr r n i w).belf = s.belf := id rfl
@[simp] theorem pa_belf (s : State) (f : Fld) (n i v : Nat) : (s.pa f n i v).belf = s.belf := id rfl
@[simp] theorem settle_belf (s : State) : s.settle.belf = s.belf := by rw [settle_eq]
@[simp] theorem wr_lant (s : State) (r : Reg) (n i : Nat) (w : Word) : (s.wr r n i w).lant = s.lant := id rfl
@[simp] theorem pa_lant (s : State) (f : Fld) (n i v : Nat) : (s.pa f n i v).lant = s.lant := id rfl
@[simp] theorem settle_lant (s : State) : s.settle.lant = s.lant := by rw [settle_eq]
@[simp] theorem wr_key (s : State) (r : Reg) (n i : Nat) (w : Word) : (s.wr r n i w).key = s.key := id rfl
@[simp] theorem pa_key (s : State) (f : Fld) (n i v : Nat) : (s.pa f n i v).key = s.key := id rfl
@[simp] theorem settle_key (s : State) : s.settle.key = s.key := by rw [settle_eq]
@[simp] theorem wr_twin (s : State) (r : Reg) (n i : Nat) (w : Word) : (s.wr r n i w).twin = s.twin := id rfl
@[simp] theorem pa_twin (s : State) (f : Fld) (n i v : Nat) : (s.pa f n i v).twin = s.twin := id rfl
@[simp] theorem settle_twin (s : State) : s.settle.twin = s.twin := by rw [settle_eq]
@[simp] theorem wr_pwr (s : State) (r : Reg) (n i : Nat) (w : Word) : (s.wr r n i w).pwr = s.pwr := id rfl
@[simp] theorem pa_pwr (s : State) (f : Fld) (n i v : Nat) : (s.pa f n i v).pwr = s.pwr := id rfl
@[simp] theorem settle_pwr (s : State) : s.settle.pwr = s.pwr := by rw [settle_eq]
@[simp] theorem wr_pins (s : State) (r : Reg) (n i : Nat) (w : Word) : (s.wr r n i w).pins = s.pins := id rfl
@[simp] theorem pa_pins (s : State) (f : Fld) (n i v : Nat) : (s.pa f n i v).pins = s.pins := id rfl
@[simp] theorem wr_answer (s : State) (r : Reg) (n i : Nat) (w : Word) : (s.wr r n i w).answer = s.answer := id rfl
@[simp] theorem pa_answer (s : State) (f : Fld) (n i v : Nat) : (s.pa f n i v).answer = s.answer := id rfl
@[simp] theorem settle_answer (s : State) : s.settle.answer = s.answer := by rw [settle_eq]
@[simp] theorem wr_sent (s : State) (r : Reg) (n i : Nat) (w : Word) : (s.wr r n i w).sent = s.sent := id rfl
@[simp] theorem pa_sent (s : State) (f : Fld) (n i v : Nat) : (s.pa f n i v).sent = s.sent := id rfl
@[simp] theorem settle_sent (s : State) : s.settle.sent = s.sent := by rw [settle_eq]
@[simp] theorem wr_free (s : State) (r : Reg) (n i : Nat) (w : Word) : (s.wr r n i w).free = s.free := id rfl
@[simp] theorem pa_free (s : State) (f : Fld) (n i v : Nat) : (s.pa f n i v).free = s.free := id rfl
@[simp] theorem settle_free (s : State) : s.settle.free = s.free := by rw [settle_eq]
@[simp] theorem wr_pending (s : State) (r : Reg) (n i : Nat) (w : Word) : (s.wr r n i w).pending = s.pending := id rfl
@[simp] theorem pa_pending (s : State) (f : Fld) (n i v : Nat) : (s.pa f n i v).pending = s.pending := id rfl
@[simp] theorem settle_pending (s : State) : s.settle.pending = s.pending := by rw [settle_eq]
@[simp] theorem settle_pins (s : State) : s.settle.pins = s.pinsNow := by rw [settle_eq]

-- What leaves the block
@[simp] theorem emit_regs (s : State) (k : Sent) (a b : Nat) (d : List Nat) (y : Bytes) : (s.emit k a b d y).regs = s.regs := by
  unfold emit; dsimp only [decision]; repeat (first | rfl | split)
@[simp] theorem send_regs (s : State) (k : Sent) (a b : Nat) (d : List Nat) : (s.send k a b d).regs = s.regs := emit_regs s k a b d []
@[simp] theorem emit_plan (s : State) (k : Sent) (a b : Nat) (d : List Nat) (y : Bytes) : (s.emit k a b d y).plan = s.plan := by
  unfold emit; dsimp only [decision]; repeat (first | rfl | split)
@[simp] theorem send_plan (s : State) (k : Sent) (a b : Nat) (d : List Nat) : (s.send k a b d).plan = s.plan := emit_plan s k a b d []
@[simp] theorem raise_plan (s : State) (f : Fld) (i : Nat) (v : Int) : (s.raise f i v).plan = s.plan := by
  rw [raise, send_plan]; rfl
@[simp] theorem emit_disc (s : State) (k : Sent) (a b : Nat) (d : List Nat) (y : Bytes) : (s.emit k a b d y).disc = s.disc := by
  unfold emit; dsimp only [decision]; repeat (first | rfl | split)
@[simp] theorem send_disc (s : State) (k : Sent) (a b : Nat) (d : List Nat) : (s.send k a b d).disc = s.disc := emit_disc s k a b d []
@[simp] theorem raise_disc (s : State) (f : Fld) (i : Nat) (v : Int) : (s.raise f i v).disc = s.disc := by
  rw [raise, send_disc]; rfl
@[simp] theorem emit_bell (s : State) (k : Sent) (a b : Nat) (d : List Nat) (y : Bytes) : (s.emit k a b d y).bell = s.bell := by
  unfold emit; dsimp only [decision]; repeat (first | rfl | split)
@[simp] theorem send_bell (s : State) (k : Sent) (a b : Nat) (d : List Nat) : (s.send k a b d).bell = s.bell := emit_bell s k a b d []
@[simp] theorem raise_bell (s : State) (f : Fld) (i : Nat) (v : Int) : (s.raise f i v).bell = s.bell := by
  rw [raise, send_bell]; rfl
@[simp] theorem emit_cup (s : State) (k : Sent) (a b : Nat) (d : List Nat) (y : Bytes) : (s.emit k a b d y).cup = s.cup := by
  unfold emit; dsimp only [decision]; repeat (first | rfl | split)
@[simp] theorem send_cup (s : State) (k : Sent) (a b : Nat) (d : List Nat) : (s.send k a b d).cup = s.cup := emit_cup s k a b d []
@[simp] theorem raise_cup (s : State) (f : Fld) (i : Nat) (v : Int) : (s.raise f i v).cup = s.cup := by
  rw [raise, send_cup]; rfl
@[simp] theorem emit_rep (s : State) (k : Sent) (a b : Nat) (d : List Nat) (y : Bytes) : (s.emit k a b d y).rep = s.rep := by
  unfold emit; dsimp only [decision]; repeat (first | rfl | split)
@[simp] theorem send_rep (s : State) (k : Sent) (a b : Nat) (d : List Nat) : (s.send k a b d).rep = s.rep := emit_rep s k a b d []
@[simp] theorem raise_rep (s : State) (f : Fld) (i : Nat) (v : Int) : (s.raise f i v).rep = s.rep := by
  rw [raise, send_rep]; rfl
@[simp] theorem emit_agents (s : State) (k : Sent) (a b : Nat) (d : List Nat) (y : Bytes) : (s.emit k a b d y).agents = s.agents := by
  unfold emit; dsimp only [decision]; repeat (first | rfl | split)
@[simp] theorem send_agents (s : State) (k : Sent) (a b : Nat) (d : List Nat) : (s.send k a b d).agents = s.agents := emit_agents s k a b d []
@[simp] theorem raise_agents (s : State) (f : Fld) (i : Nat) (v : Int) : (s.raise f i v).agents = s.agents := by
  rw [raise, send_agents]; rfl
@[simp] theorem emit_grd (s : State) (k : Sent) (a b : Nat) (d : List Nat) (y : Bytes) : (s.emit k a b d y).grd = s.grd := by
  unfold emit; dsimp only [decision]; repeat (first | rfl | split)
@[simp] theorem send_grd (s : State) (k : Sent) (a b : Nat) (d : List Nat) : (s.send k a b d).grd = s.grd := emit_grd s k a b d []
@[simp] theorem raise_grd (s : State) (f : Fld) (i : Nat) (v : Int) : (s.raise f i v).grd = s.grd := by
  rw [raise, send_grd]; rfl
@[simp] theorem emit_graph (s : State) (k : Sent) (a b : Nat) (d : List Nat) (y : Bytes) : (s.emit k a b d y).graph = s.graph := by
  unfold emit; dsimp only [decision]; repeat (first | rfl | split)
@[simp] theorem send_graph (s : State) (k : Sent) (a b : Nat) (d : List Nat) : (s.send k a b d).graph = s.graph := emit_graph s k a b d []
@[simp] theorem raise_graph (s : State) (f : Fld) (i : Nat) (v : Int) : (s.raise f i v).graph = s.graph := by
  rw [raise, send_graph]; rfl
@[simp] theorem emit_sen (s : State) (k : Sent) (a b : Nat) (d : List Nat) (y : Bytes) : (s.emit k a b d y).sen = s.sen := by
  unfold emit; dsimp only [decision]; repeat (first | rfl | split)
@[simp] theorem send_sen (s : State) (k : Sent) (a b : Nat) (d : List Nat) : (s.send k a b d).sen = s.sen := emit_sen s k a b d []
@[simp] theorem raise_sen (s : State) (f : Fld) (i : Nat) (v : Int) : (s.raise f i v).sen = s.sen := by
  rw [raise, send_sen]; rfl
@[simp] theorem emit_chk (s : State) (k : Sent) (a b : Nat) (d : List Nat) (y : Bytes) : (s.emit k a b d y).chk = s.chk := by
  unfold emit; dsimp only [decision]; repeat (first | rfl | split)
@[simp] theorem send_chk (s : State) (k : Sent) (a b : Nat) (d : List Nat) : (s.send k a b d).chk = s.chk := emit_chk s k a b d []
@[simp] theorem raise_chk (s : State) (f : Fld) (i : Nat) (v : Int) : (s.raise f i v).chk = s.chk := by
  rw [raise, send_chk]; rfl
@[simp] theorem emit_mbx (s : State) (k : Sent) (a b : Nat) (d : List Nat) (y : Bytes) : (s.emit k a b d y).mbx = s.mbx := by
  unfold emit; dsimp only [decision]; repeat (first | rfl | split)
@[simp] theorem send_mbx (s : State) (k : Sent) (a b : Nat) (d : List Nat) : (s.send k a b d).mbx = s.mbx := emit_mbx s k a b d []
@[simp] theorem raise_mbx (s : State) (f : Fld) (i : Nat) (v : Int) : (s.raise f i v).mbx = s.mbx := by
  rw [raise, send_mbx]; rfl
@[simp] theorem emit_eth (s : State) (k : Sent) (a b : Nat) (d : List Nat) (y : Bytes) : (s.emit k a b d y).eth = s.eth := by
  unfold emit; dsimp only [decision]; repeat (first | rfl | split)
@[simp] theorem send_eth (s : State) (k : Sent) (a b : Nat) (d : List Nat) : (s.send k a b d).eth = s.eth := emit_eth s k a b d []
@[simp] theorem raise_eth (s : State) (f : Fld) (i : Nat) (v : Int) : (s.raise f i v).eth = s.eth := by
  rw [raise, send_eth]; rfl
@[simp] theorem emit_belf (s : State) (k : Sent) (a b : Nat) (d : List Nat) (y : Bytes) : (s.emit k a b d y).belf = s.belf := by
  unfold emit; dsimp only [decision]; repeat (first | rfl | split)
@[simp] theorem send_belf (s : State) (k : Sent) (a b : Nat) (d : List Nat) : (s.send k a b d).belf = s.belf := emit_belf s k a b d []
@[simp] theorem raise_belf (s : State) (f : Fld) (i : Nat) (v : Int) : (s.raise f i v).belf = s.belf := by
  rw [raise, send_belf]; rfl
@[simp] theorem emit_lant (s : State) (k : Sent) (a b : Nat) (d : List Nat) (y : Bytes) : (s.emit k a b d y).lant = s.lant := by
  unfold emit; dsimp only [decision]; repeat (first | rfl | split)
@[simp] theorem send_lant (s : State) (k : Sent) (a b : Nat) (d : List Nat) : (s.send k a b d).lant = s.lant := emit_lant s k a b d []
@[simp] theorem raise_lant (s : State) (f : Fld) (i : Nat) (v : Int) : (s.raise f i v).lant = s.lant := by
  rw [raise, send_lant]; rfl
@[simp] theorem emit_key (s : State) (k : Sent) (a b : Nat) (d : List Nat) (y : Bytes) : (s.emit k a b d y).key = s.key := by
  unfold emit; dsimp only [decision]; repeat (first | rfl | split)
@[simp] theorem send_key (s : State) (k : Sent) (a b : Nat) (d : List Nat) : (s.send k a b d).key = s.key := emit_key s k a b d []
@[simp] theorem raise_key (s : State) (f : Fld) (i : Nat) (v : Int) : (s.raise f i v).key = s.key := by
  rw [raise, send_key]; rfl
@[simp] theorem emit_pwr (s : State) (k : Sent) (a b : Nat) (d : List Nat) (y : Bytes) : (s.emit k a b d y).pwr = s.pwr := by
  unfold emit; dsimp only [decision]; repeat (first | rfl | split)
@[simp] theorem send_pwr (s : State) (k : Sent) (a b : Nat) (d : List Nat) : (s.send k a b d).pwr = s.pwr := emit_pwr s k a b d []
@[simp] theorem raise_pwr (s : State) (f : Fld) (i : Nat) (v : Int) : (s.raise f i v).pwr = s.pwr := by
  rw [raise, send_pwr]; rfl
@[simp] theorem emit_pins (s : State) (k : Sent) (a b : Nat) (d : List Nat) (y : Bytes) : (s.emit k a b d y).pins = s.pins := by
  unfold emit; dsimp only [decision]; repeat (first | rfl | split)
@[simp] theorem send_pins (s : State) (k : Sent) (a b : Nat) (d : List Nat) : (s.send k a b d).pins = s.pins := emit_pins s k a b d []
@[simp] theorem raise_pins (s : State) (f : Fld) (i : Nat) (v : Int) : (s.raise f i v).pins = s.pins := by
  rw [raise, send_pins]; rfl
@[simp] theorem emit_answer (s : State) (k : Sent) (a b : Nat) (d : List Nat) (y : Bytes) : (s.emit k a b d y).answer = s.answer := by
  unfold emit; dsimp only [decision]; repeat (first | rfl | split)
@[simp] theorem send_answer (s : State) (k : Sent) (a b : Nat) (d : List Nat) : (s.send k a b d).answer = s.answer := emit_answer s k a b d []
@[simp] theorem raise_answer (s : State) (f : Fld) (i : Nat) (v : Int) : (s.raise f i v).answer = s.answer := by
  rw [raise, send_answer]; rfl
@[simp] theorem emit_free (s : State) (k : Sent) (a b : Nat) (d : List Nat) (y : Bytes) : (s.emit k a b d y).free = s.free := by
  unfold emit; dsimp only [decision]; repeat (first | rfl | split)
@[simp] theorem send_free (s : State) (k : Sent) (a b : Nat) (d : List Nat) : (s.send k a b d).free = s.free := emit_free s k a b d []
@[simp] theorem raise_free (s : State) (f : Fld) (i : Nat) (v : Int) : (s.raise f i v).free = s.free := by
  rw [raise, send_free]; rfl
@[simp] theorem emit_pending (s : State) (k : Sent) (a b : Nat) (d : List Nat) (y : Bytes) : (s.emit k a b d y).pending = s.pending := by
  unfold emit; dsimp only [decision]; repeat (first | rfl | split)
@[simp] theorem send_pending (s : State) (k : Sent) (a b : Nat) (d : List Nat) : (s.send k a b d).pending = s.pending := emit_pending s k a b d []
@[simp] theorem raise_pending (s : State) (f : Fld) (i : Nat) (v : Int) : (s.raise f i v).pending = s.pending := by
  rw [raise, send_pending]; rfl

@[simp] theorem emit_rd (s : State) (k : Sent) (a b : Nat) (d : List Nat) (y : Bytes) (r : Reg) (n i : Nat) :
    (s.emit k a b d y).rd r n i = s.rd r n i := rd_of_regs (emit_regs s k a b d y) r n i
@[simp] theorem send_rd (s : State) (k : Sent) (a b : Nat) (d : List Nat) (r : Reg) (n i : Nat) :
    (s.send k a b d).rd r n i = s.rd r n i := rd_of_regs (send_regs s k a b d) r n i
@[simp] theorem emit_ga (s : State) (k : Sent) (a b : Nat) (d : List Nat) (y : Bytes) (f : Fld) (n i : Nat) :
    (s.emit k a b d y).ga f n i = s.ga f n i := ga_of_regs (emit_regs s k a b d y) f n i
@[simp] theorem send_ga (s : State) (k : Sent) (a b : Nat) (d : List Nat) (f : Fld) (n i : Nat) :
    (s.send k a b d).ga f n i = s.ga f n i := ga_of_regs (send_regs s k a b d) f n i

/-- Nothing but a frame to agents or peers, or a key-slot write, is a control decision (R364). -/
theorem emit_plain (s : State) (k : Sent) (a b : Nat) (d : List Nat) (y : Bytes) (h : isControl k = false) :
    s.emit k a b d y = { s with sent := s.sent ++ [⟨k, a, b, d, y⟩] } := by
  unfold emit; simp [h]

@[simp] theorem emit_plain_sent (s : State) (k : Sent) (a b : Nat) (d : List Nat) (y : Bytes) (h : isControl k = false) :
    (s.emit k a b d y).sent = s.sent ++ [⟨k, a, b, d, y⟩] := by rw [emit_plain s k a b d y h]
@[simp] theorem emit_plain_twin (s : State) (k : Sent) (a b : Nat) (d : List Nat) (y : Bytes) (h : isControl k = false) :
    (s.emit k a b d y).twin = s.twin := by rw [emit_plain s k a b d y h]
@[simp] theorem send_plain_sent (s : State) (k : Sent) (a b : Nat) (d : List Nat) (h : isControl k = false) :
    (s.send k a b d).sent = s.sent ++ [⟨k, a, b, d, []⟩] := emit_plain_sent s k a b d [] h
@[simp] theorem send_plain_twin (s : State) (k : Sent) (a b : Nat) (d : List Nat) (h : isControl k = false) :
    (s.send k a b d).twin = s.twin := emit_plain_twin s k a b d [] h

/-- A control frame of a module that recomputes in shadow does not leave it; any other leaves it. -/
theorem emit_control_sent (s : State) (k : Sent) (a b : Nat) (d : List Nat) (y : Bytes) (h : isControl k = true) :
    (s.emit k a b d y).sent = if s.shadowing then s.sent else s.sent ++ [⟨k, a, b, d, y⟩] := by
  unfold emit; simp only [h, if_true]; dsimp only [decision]; split <;> rfl

-- An event sets its bit and is handed to the belfry (R16, R306)
theorem raise_eq (s : State) (f : Fld) (i : Nat) (v : Int) :
    s.raise f i v = { s.pa f 0 0 1 with sent := s.sent ++ [⟨.event, sourceOf f, i, [toField 64 v], []⟩] } := by
  rw [raise, send, emit_plain _ _ _ _ _ _ rfl]; rfl
@[simp] theorem raise_sent (s : State) (f : Fld) (i : Nat) (v : Int) :
    (s.raise f i v).sent = s.sent ++ [⟨.event, sourceOf f, i, [toField 64 v], []⟩] := by rw [raise_eq]
@[simp] theorem raise_twin (s : State) (f : Fld) (i : Nat) (v : Int) : (s.raise f i v).twin = s.twin := by
  rw [raise_eq]; rfl
theorem raise_regs (s : State) (f : Fld) (i : Nat) (v : Int) : (s.raise f i v).regs = (s.pa f 0 0 1).regs := by
  rw [raise_eq]
@[simp] theorem raise_rd (s : State) (f : Fld) (i : Nat) (v : Int) (r : Reg) (n j : Nat) (h : f.reg ≠ r) :
    (s.raise f i v).rd r n j = s.rd r n j := by
  rw [rd_of_regs (raise_regs s f i v)]; exact rd_pa_reg _ _ _ _ _ _ _ h
@[simp] theorem raise_ga_same (s : State) (f : Fld) (i : Nat) (v : Int) (h : f.lo + f.len ≤ 64) :
    (s.raise f i v).ga f 0 0 = 1 % 2 ^ f.len := by
  rw [ga_of_regs (raise_regs s f i v)]; exact ga_pa_same _ _ _ _ _ h
@[simp] theorem raise_ga_apart (s : State) (f f' : Fld) (i : Nat) (v : Int) (n j : Nat) (h : f.apart f' = true) :
    (s.raise f i v).ga f' n j = s.ga f' n j := by
  rw [ga_of_regs (raise_regs s f i v)]; exact ga_pa_apart _ _ _ _ _ _ _ _ h

-- Counters (R17)

@[simp] theorem bump_plan (s : State) (r : Reg) (n i k : Nat) : (s.bump r n i k).plan = s.plan := id rfl
@[simp] theorem bump_disc (s : State) (r : Reg) (n i k : Nat) : (s.bump r n i k).disc = s.disc := id rfl
@[simp] theorem bump_bell (s : State) (r : Reg) (n i k : Nat) : (s.bump r n i k).bell = s.bell := id rfl
@[simp] theorem bump_cup (s : State) (r : Reg) (n i k : Nat) : (s.bump r n i k).cup = s.cup := id rfl
@[simp] theorem bump_rep (s : State) (r : Reg) (n i k : Nat) : (s.bump r n i k).rep = s.rep := id rfl
@[simp] theorem bump_agents (s : State) (r : Reg) (n i k : Nat) : (s.bump r n i k).agents = s.agents := id rfl
@[simp] theorem bump_grd (s : State) (r : Reg) (n i k : Nat) : (s.bump r n i k).grd = s.grd := id rfl
@[simp] theorem bump_graph (s : State) (r : Reg) (n i k : Nat) : (s.bump r n i k).graph = s.graph := id rfl
@[simp] theorem bump_sen (s : State) (r : Reg) (n i k : Nat) : (s.bump r n i k).sen = s.sen := id rfl
@[simp] theorem bump_chk (s : State) (r : Reg) (n i k : Nat) : (s.bump r n i k).chk = s.chk := id rfl
@[simp] theorem bump_mbx (s : State) (r : Reg) (n i k : Nat) : (s.bump r n i k).mbx = s.mbx := id rfl
@[simp] theorem bump_eth (s : State) (r : Reg) (n i k : Nat) : (s.bump r n i k).eth = s.eth := id rfl
@[simp] theorem bump_belf (s : State) (r : Reg) (n i k : Nat) : (s.bump r n i k).belf = s.belf := id rfl
@[simp] theorem bump_lant (s : State) (r : Reg) (n i k : Nat) : (s.bump r n i k).lant = s.lant := id rfl
@[simp] theorem bump_key (s : State) (r : Reg) (n i k : Nat) : (s.bump r n i k).key = s.key := id rfl
@[simp] theorem bump_twin (s : State) (r : Reg) (n i k : Nat) : (s.bump r n i k).twin = s.twin := id rfl
@[simp] theorem bump_pwr (s : State) (r : Reg) (n i k : Nat) : (s.bump r n i k).pwr = s.pwr := id rfl
@[simp] theorem bump_pins (s : State) (r : Reg) (n i k : Nat) : (s.bump r n i k).pins = s.pins := id rfl
@[simp] theorem bump_answer (s : State) (r : Reg) (n i k : Nat) : (s.bump r n i k).answer = s.answer := id rfl
@[simp] theorem bump_sent (s : State) (r : Reg) (n i k : Nat) : (s.bump r n i k).sent = s.sent := id rfl
@[simp] theorem bump_free (s : State) (r : Reg) (n i k : Nat) : (s.bump r n i k).free = s.free := id rfl
@[simp] theorem bump_pending (s : State) (r : Reg) (n i k : Nat) : (s.bump r n i k).pending = s.pending := id rfl
@[simp] theorem bump_rd_same (s : State) (r : Reg) (n i k : Nat) :
    (s.bump r n i k).rd r n i = BitVec.ofNat 64 (sat 64 ((s.rd r n i).toNat + k)) := rd_wr_same _ _ _ _ _
@[simp] theorem bump_rd_reg (s : State) (r r' : Reg) (n i k n' i' : Nat) (h : r ≠ r') :
    (s.bump r n i k).rd r' n' i' = s.rd r' n' i' := rd_wr_reg _ _ _ _ _ _ h
@[simp] theorem bump_ga (s : State) (r : Reg) (f : Fld) (n i k n' i' : Nat) (h : r ≠ f.reg) :
    (s.bump r n i k).ga f n' i' = s.ga f n' i' := ga_wr_reg _ _ _ _ _ _ _ h
@[simp] theorem count_eq (s : State) (r : Reg) (i : Nat) : s.count r i = s.bump r 0 i 1 := id rfl
@[simp] theorem countAg_eq (s : State) (n i : Nat) : s.countAg n i = s.bump .AG_COUNT n i 1 := id rfl

-- Answers, free values, alarms

@[simp] theorem err_regs (s : State) (x d : Nat) : (s.err x d).regs = s.regs := id rfl
@[simp] theorem err_plan (s : State) (x d : Nat) : (s.err x d).plan = s.plan := id rfl
@[simp] theorem err_disc (s : State) (x d : Nat) : (s.err x d).disc = s.disc := id rfl
@[simp] theorem err_bell (s : State) (x d : Nat) : (s.err x d).bell = s.bell := id rfl
@[simp] theorem err_cup (s : State) (x d : Nat) : (s.err x d).cup = s.cup := id rfl
@[simp] theorem err_rep (s : State) (x d : Nat) : (s.err x d).rep = s.rep := id rfl
@[simp] theorem err_agents (s : State) (x d : Nat) : (s.err x d).agents = s.agents := id rfl
@[simp] theorem err_grd (s : State) (x d : Nat) : (s.err x d).grd = s.grd := id rfl
@[simp] theorem err_graph (s : State) (x d : Nat) : (s.err x d).graph = s.graph := id rfl
@[simp] theorem err_sen (s : State) (x d : Nat) : (s.err x d).sen = s.sen := id rfl
@[simp] theorem err_chk (s : State) (x d : Nat) : (s.err x d).chk = s.chk := id rfl
@[simp] theorem err_mbx (s : State) (x d : Nat) : (s.err x d).mbx = s.mbx := id rfl
@[simp] theorem err_eth (s : State) (x d : Nat) : (s.err x d).eth = s.eth := id rfl
@[simp] theorem err_belf (s : State) (x d : Nat) : (s.err x d).belf = s.belf := id rfl
@[simp] theorem err_lant (s : State) (x d : Nat) : (s.err x d).lant = s.lant := id rfl
@[simp] theorem err_key (s : State) (x d : Nat) : (s.err x d).key = s.key := id rfl
@[simp] theorem err_twin (s : State) (x d : Nat) : (s.err x d).twin = s.twin := id rfl
@[simp] theorem err_pwr (s : State) (x d : Nat) : (s.err x d).pwr = s.pwr := id rfl
@[simp] theorem err_pins (s : State) (x d : Nat) : (s.err x d).pins = s.pins := id rfl
@[simp] theorem err_sent (s : State) (x d : Nat) : (s.err x d).sent = s.sent := id rfl
@[simp] theorem err_free (s : State) (x d : Nat) : (s.err x d).free = s.free := id rfl
@[simp] theorem err_pending (s : State) (x d : Nat) : (s.err x d).pending = s.pending := id rfl
@[simp] theorem err_status (s : State) (x d : Nat) : (s.err x d).answer.status = x := id rfl
@[simp] theorem err_detail (s : State) (x d : Nat) : (s.err x d).answer.detail = d := id rfl
@[simp] theorem err_ga (s : State) (x d : Nat) (f : Fld) (n i : Nat) : (s.err x d).ga f n i = s.ga f n i := ga_of_regs (s := s) rfl f n i
@[simp] theorem err_rd (s : State) (x d : Nat) (r : Reg) (n i : Nat) : (s.err x d).rd r n i = s.rd r n i := rd_of_regs (s := s) rfl r n i
@[simp] theorem ok_eq (s : State) : s.ok = s.err Status.ok 0 := id rfl
@[simp] theorem done_eq (s : State) : s.done = s.err Status.ok 0 := id rfl
@[simp] theorem draw_fst (s : State) : s.draw.1 = s.free := id rfl
@[simp] theorem draw_snd (s : State) : s.draw.2 = { s with free := s.free + 1 } := id rfl
@[simp] theorem alarm_eq (s : State) (sev i : Nat) : s.alarm sev i = s.send .alarm sev i [] := id rfl
@[simp] theorem service_eq (s : State) (i : Nat) : s.service i = s.send .serviceRequest i 0 [] := id rfl
@[simp] theorem rst_eq (s : State) (r : Reg) (n i : Nat) : s.rst r n i = s.wr r n i (resetOf r n i) := id rfl

-- A register read of a state whose other fields changed

@[simp] theorem rd_mk (s : State) (x0 x1 x2 x3 x4 x5 x6 x7 x8 x9 x10 x11 x12 x13 x14 x15 x16 x17 x18 x19 x20 x21) (r : Reg) (n i : Nat) :
    rd (State.mk s.regs x0 x1 x2 x3 x4 x5 x6 x7 x8 x9 x10 x11 x12 x13 x14 x15 x16 x17 x18 x19 x20 x21) r n i = s.rd r n i := rd_of_regs (s := s) rfl r n i
@[simp] theorem ga_mk (s : State) (x0 x1 x2 x3 x4 x5 x6 x7 x8 x9 x10 x11 x12 x13 x14 x15 x16 x17 x18 x19 x20 x21) (f : Fld) (n i : Nat) :
    ga (State.mk s.regs x0 x1 x2 x3 x4 x5 x6 x7 x8 x9 x10 x11 x12 x13 x14 x15 x16 x17 x18 x19 x20 x21) f n i = s.ga f n i := ga_of_regs (s := s) rfl f n i

-- Agents
theorem setAg_eq (s : State) (a : Agent) :
    s.setAg a = { s with agents := (s.agents.filter (fun x => x.node != a.node)) ++ [a] } := id rfl

@[simp] theorem setAg_regs (s : State) (a : Agent) : (s.setAg a).regs = s.regs := id rfl
@[simp] theorem updAg_regs (s : State) (n : Nat) (f : Agent → Agent) : (s.updAg n f).regs = s.regs := id rfl
@[simp] theorem setAg_plan (s : State) (a : Agent) : (s.setAg a).plan = s.plan := id rfl
@[simp] theorem updAg_plan (s : State) (n : Nat) (f : Agent → Agent) : (s.updAg n f).plan = s.plan := id rfl
@[simp] theorem setAg_disc (s : State) (a : Agent) : (s.setAg a).disc = s.disc := id rfl
@[simp] theorem updAg_disc (s : State) (n : Nat) (f : Agent → Agent) : (s.updAg n f).disc = s.disc := id rfl
@[simp] theorem setAg_bell (s : State) (a : Agent) : (s.setAg a).bell = s.bell := id rfl
@[simp] theorem updAg_bell (s : State) (n : Nat) (f : Agent → Agent) : (s.updAg n f).bell = s.bell := id rfl
@[simp] theorem setAg_cup (s : State) (a : Agent) : (s.setAg a).cup = s.cup := id rfl
@[simp] theorem updAg_cup (s : State) (n : Nat) (f : Agent → Agent) : (s.updAg n f).cup = s.cup := id rfl
@[simp] theorem setAg_rep (s : State) (a : Agent) : (s.setAg a).rep = s.rep := id rfl
@[simp] theorem updAg_rep (s : State) (n : Nat) (f : Agent → Agent) : (s.updAg n f).rep = s.rep := id rfl
@[simp] theorem setAg_grd (s : State) (a : Agent) : (s.setAg a).grd = s.grd := id rfl
@[simp] theorem updAg_grd (s : State) (n : Nat) (f : Agent → Agent) : (s.updAg n f).grd = s.grd := id rfl
@[simp] theorem setAg_graph (s : State) (a : Agent) : (s.setAg a).graph = s.graph := id rfl
@[simp] theorem updAg_graph (s : State) (n : Nat) (f : Agent → Agent) : (s.updAg n f).graph = s.graph := id rfl
@[simp] theorem setAg_sen (s : State) (a : Agent) : (s.setAg a).sen = s.sen := id rfl
@[simp] theorem updAg_sen (s : State) (n : Nat) (f : Agent → Agent) : (s.updAg n f).sen = s.sen := id rfl
@[simp] theorem setAg_chk (s : State) (a : Agent) : (s.setAg a).chk = s.chk := id rfl
@[simp] theorem updAg_chk (s : State) (n : Nat) (f : Agent → Agent) : (s.updAg n f).chk = s.chk := id rfl
@[simp] theorem setAg_mbx (s : State) (a : Agent) : (s.setAg a).mbx = s.mbx := id rfl
@[simp] theorem updAg_mbx (s : State) (n : Nat) (f : Agent → Agent) : (s.updAg n f).mbx = s.mbx := id rfl
@[simp] theorem setAg_eth (s : State) (a : Agent) : (s.setAg a).eth = s.eth := id rfl
@[simp] theorem updAg_eth (s : State) (n : Nat) (f : Agent → Agent) : (s.updAg n f).eth = s.eth := id rfl
@[simp] theorem setAg_belf (s : State) (a : Agent) : (s.setAg a).belf = s.belf := id rfl
@[simp] theorem updAg_belf (s : State) (n : Nat) (f : Agent → Agent) : (s.updAg n f).belf = s.belf := id rfl
@[simp] theorem setAg_lant (s : State) (a : Agent) : (s.setAg a).lant = s.lant := id rfl
@[simp] theorem updAg_lant (s : State) (n : Nat) (f : Agent → Agent) : (s.updAg n f).lant = s.lant := id rfl
@[simp] theorem setAg_key (s : State) (a : Agent) : (s.setAg a).key = s.key := id rfl
@[simp] theorem updAg_key (s : State) (n : Nat) (f : Agent → Agent) : (s.updAg n f).key = s.key := id rfl
@[simp] theorem setAg_twin (s : State) (a : Agent) : (s.setAg a).twin = s.twin := id rfl
@[simp] theorem updAg_twin (s : State) (n : Nat) (f : Agent → Agent) : (s.updAg n f).twin = s.twin := id rfl
@[simp] theorem setAg_pwr (s : State) (a : Agent) : (s.setAg a).pwr = s.pwr := id rfl
@[simp] theorem updAg_pwr (s : State) (n : Nat) (f : Agent → Agent) : (s.updAg n f).pwr = s.pwr := id rfl
@[simp] theorem setAg_pins (s : State) (a : Agent) : (s.setAg a).pins = s.pins := id rfl
@[simp] theorem updAg_pins (s : State) (n : Nat) (f : Agent → Agent) : (s.updAg n f).pins = s.pins := id rfl
@[simp] theorem setAg_answer (s : State) (a : Agent) : (s.setAg a).answer = s.answer := id rfl
@[simp] theorem updAg_answer (s : State) (n : Nat) (f : Agent → Agent) : (s.updAg n f).answer = s.answer := id rfl
@[simp] theorem setAg_sent (s : State) (a : Agent) : (s.setAg a).sent = s.sent := id rfl
@[simp] theorem updAg_sent (s : State) (n : Nat) (f : Agent → Agent) : (s.updAg n f).sent = s.sent := id rfl
@[simp] theorem setAg_free (s : State) (a : Agent) : (s.setAg a).free = s.free := id rfl
@[simp] theorem updAg_free (s : State) (n : Nat) (f : Agent → Agent) : (s.updAg n f).free = s.free := id rfl
@[simp] theorem setAg_pending (s : State) (a : Agent) : (s.setAg a).pending = s.pending := id rfl
@[simp] theorem updAg_pending (s : State) (n : Nat) (f : Agent → Agent) : (s.updAg n f).pending = s.pending := id rfl
@[simp] theorem setAg_rd (s : State) (a : Agent) (r : Reg) (n i : Nat) : (s.setAg a).rd r n i = s.rd r n i := rd_of_regs (s := s) rfl r n i
@[simp] theorem setAg_ga (s : State) (a : Agent) (f : Fld) (n i : Nat) : (s.setAg a).ga f n i = s.ga f n i := ga_of_regs (s := s) rfl f n i
@[simp] theorem updAg_rd (s : State) (k : Nat) (h : Agent → Agent) (r : Reg) (n i : Nat) :
    (s.updAg k h).rd r n i = s.rd r n i := rd_of_regs (s := s) rfl r n i
@[simp] theorem updAg_ga (s : State) (k : Nat) (h : Agent → Agent) (f : Fld) (n i : Nat) :
    (s.updAg k h).ga f n i = s.ga f n i := ga_of_regs (s := s) rfl f n i

/-- The agent that was put is the agent that is found. -/
@[simp] theorem ag_setAg_same (s : State) (a : Agent) : (s.setAg a).ag a.node = a := by
  have h : (s.agents.filter (fun x => x.node != a.node)).find? (fun x => x.node == a.node) = none := by
    simp [List.find?_eq_none]
  simp [ag, setAg, List.find?_append, h]

/-- Putting one agent leaves the others alone. -/
theorem ag_setAg_ne (s : State) (a : Agent) {n : Nat} (h : a.node ≠ n) : (s.setAg a).ag n = s.ag n := by
  have h1 : (s.agents.filter (fun x => x.node != a.node)).find? (fun x => x.node == n) = s.agents.find? (fun x => x.node == n) := by
    induction s.agents with
    | nil => rfl
    | cons x xs ih =>
      rw [List.filter_cons, List.find?_cons]
      cases hx : x.node == n
      · split
        · rw [List.find?_cons, hx]; exact ih
        · exact ih
      · have e2 : (x.node != a.node) = true := by
          rw [bne_iff_ne]; intro e; exact h (e.symm.trans (by simpa using hx))
        rw [if_pos e2, List.find?_cons, hx]
  have h2 : [a].find? (fun x => x.node == n) = none := by simp [h]
  simp only [ag, setAg, List.find?_append, h1, h2, Option.or_none]

@[simp] theorem ag_node (s : State) (n : Nat) : (s.ag n).node = n := by
  unfold ag
  split
  · next a h => simpa using List.find?_some h
  · rfl

/-- The agent of a node after a change of it. -/
theorem ag_updAg_same (s : State) (n : Nat) (f : Agent → Agent) (h : (f (s.ag n)).node = n) :
    (s.updAg n f).ag n = f (s.ag n) := by
  have := ag_setAg_same s (f (s.ag n))
  rw [h] at this
  exact this

theorem ag_of_agents' {s t : State} (h : t.agents = s.agents) (n : Nat) : t.ag n = s.ag n := by
  unfold ag; rw [h]
@[simp] theorem ag_mk (s : State) (y0 y1 y2 y3 y4 y5 y7 y8 y9 y10 y11 y12 y13 y14 y15 y16 y17 y18 y19 y20 y21 y22) (n : Nat) : ag (State.mk y0 y1 y2 y3 y4 y5 s.agents y7 y8 y9 y10 y11 y12 y13 y14 y15 y16 y17 y18 y19 y20 y21 y22) n = s.ag n := ag_of_agents' (s := s) rfl n
@[simp] theorem ag_pa (s : State) (f : Fld) (n i v : Nat) (m : Nat) : (s.pa f n i v).ag m = s.ag m := ag_of_agents' (by simp) m
@[simp] theorem ag_wr (s : State) (r : Reg) (n i : Nat) (w : Word) (m : Nat) : (s.wr r n i w).ag m = s.ag m := ag_of_agents' (by simp) m
@[simp] theorem ag_bump (s : State) (r : Reg) (n i k : Nat) (m : Nat) : (s.bump r n i k).ag m = s.ag m := ag_of_agents' (by simp) m
@[simp] theorem ag_err (s : State) (x d : Nat) (m : Nat) : (s.err x d).ag m = s.ag m := ag_of_agents' (by simp) m
@[simp] theorem ag_settle (s : State)  (m : Nat) : (s.settle).ag m = s.ag m := ag_of_agents' (by simp) m
@[simp] theorem ag_emit (s : State) (k : Sent) (a b : Nat) (d : List Nat) (y : Bytes) (m : Nat) : (s.emit k a b d y).ag m = s.ag m := ag_of_agents' (by simp) m
@[simp] theorem ag_send (s : State) (k : Sent) (a b : Nat) (d : List Nat) (m : Nat) : (s.send k a b d).ag m = s.ag m := ag_of_agents' (by simp) m
@[simp] theorem ag_raise (s : State) (f : Fld) (i : Nat) (v : Int) (m : Nat) : (s.raise f i v).ag m = s.ag m := ag_of_agents' (by simp) m

/-- The agent of a node after a change of it. -/
@[simp] theorem ag_setAg (s : State) (a : Agent) {n : Nat} (h : a.node = n) : (s.setAg a).ag n = a := by
  rw [← h]; exact ag_setAg_same s a
theorem ag_updAg (s : State) {n : Nat} {f : Agent → Agent} (h : (f (s.ag n)).node = n) :
    (s.updAg n f).ag n = f (s.ag n) := ag_updAg_same s n f h

theorem ag_of_agents {s t : State} (h : t.agents = s.agents) (n : Nat) : t.ag n = s.ag n := by
  unfold ag; rw [h]

end State

/-- A command that ends in `finish` answers a next state. -/
@[simp] theorem finish_eq (s : State) : finish s = .next s.settle := id rfl

end Sys2Proof.Machine
end

