-- ==== Sys2Proof/Laws/Frame.lean ====
section
/-! SUPPORT. Frames step by step: what lies within a set of fields, places and parts stays within it under each named
operation, so that a meaning's frame is read off its text. -/
namespace Sys2Proof.Machine

/-- One field holds all bits of another, within the word. -/
def Fld.covers (e f : Fld) : Bool :=
  e.reg == f.reg && decide (e.lo ≤ f.lo) && decide (f.lo + f.len ≤ e.lo + e.len) && decide (e.lo + e.len ≤ 64)

theorem Fld.apart_of_covers {e f g : Fld} (hc : e.covers f = true) (ha : e.apart g = true) : f.apart g = true := by
  simp only [Fld.covers, Bool.and_eq_true, beq_iff_eq, decide_eq_true_eq] at hc
  simp only [Fld.apart, Bool.or_eq_true, bne_iff_ne, ne_eq, Bool.and_eq_true, decide_eq_true_eq] at ha ⊢
  obtain ⟨⟨⟨hr, h1⟩, h2⟩, h3⟩ := hc
  rcases ha with ha | ⟨h4, h5⟩
  · exact .inl (by rw [← hr]; exact ha)
  · exact .inr ⟨by omega, by omega⟩

/-- The change from `s` to `t` lies within the fields `fs`, the places `ps` and the parts `parts` (before the status fields
that follow the state are brought up to date). -/
def Within (fs : List Fld) (ps : List (Fld × Nat × Nat)) (parts : List Part) (s t : State) : Prop :=
  (∀ (f : Fld) (node idx : Nat), (∀ e ∈ fs, e.apart f = true) →
    (∀ e ∈ ps, e.1.apart f = true ∨ e.2 ≠ (node, idx)) → t.ga f node idx = s.ga f node idx) ∧
  ∀ p : Part, p ∉ parts → p.same s t

variable {fs : List Fld} {ps : List (Fld × Nat × Nat)} {parts : List Part} {s y : State}

theorem Part.same_refl (p : Part) (s : State) : p.same s s := by cases p <;> rfl

theorem Part.same_trans {p : Part} {a b c : State} (h1 : p.same a b) (h2 : p.same b c) : p.same a c := by
  cases p <;> exact Eq.trans h2 h1

theorem Part.same_wr (p : Part) (s : State) (r : Reg) (n i : Nat) (w : Word) : p.same s (s.wr r n i w) := by
  cases p <;> rfl

theorem Part.same_settle (p : Part) (s : State) : p.same s s.settle := by
  cases p <;> simp [Part.same]

theorem Within.refl : Within fs ps parts s s := ⟨fun _ _ _ _ _ => rfl, fun p _ => p.same_refl s⟩

theorem Within.trans {t : State} (h1 : Within fs ps parts s y) (h2 : Within fs ps parts y t) : Within fs ps parts s t :=
  ⟨fun f n i a b => (h2.1 f n i a b).trans (h1.1 f n i a b), fun p hp => Part.same_trans (h1.2 p hp) (h2.2 p hp)⟩

/-- The frame of a command from what its effect stays within. -/
theorem Within.frame (h : Within fs ps parts s y) : Frame fs ps parts s y.settle :=
  ⟨fun f n i hf a b => (State.settle_ga y f n i hf).trans (h.1 f n i a b),
   fun p hp => Part.same_trans (h.2 p hp) (p.same_settle y)⟩

/-- A write of a listed field. -/
theorem Within.pa (f : Fld) (n i v : Nat) (hc : fs.any (fun e => e.covers f) = true) (h : Within fs ps parts s y) :
    Within fs ps parts s (y.pa f n i v) := by
  refine ⟨fun g n' i' a b => ?_, fun p hp => Part.same_trans (h.2 p hp) (p.same_wr y _ _ _ _)⟩
  obtain ⟨e, he, hcov⟩ := List.any_eq_true.mp hc
  rw [State.ga_pa_apart _ _ _ _ _ _ _ _ (Fld.apart_of_covers hcov (a e he))]
  exact h.1 g n' i' a b

/-- A write of a listed field at its listed place. -/
theorem Within.paAt (f : Fld) (n i v : Nat) (hm : (f, n, i) ∈ ps) (h : Within fs ps parts s y) :
    Within fs ps parts s (y.pa f n i v) := by
  refine ⟨fun g n' i' a b => ?_, fun p hp => Part.same_trans (h.2 p hp) (p.same_wr y _ _ _ _)⟩
  rw [← h.1 g n' i' a b]
  rcases b _ hm with hb | hb
  · exact State.ga_pa_apart _ _ _ _ _ _ _ _ hb
  · refine State.ga_pa_key _ _ _ _ ?_
    by_cases hn : n = n'
    · exact .inr (fun hi => hb (by rw [hn, hi]))
    · exact .inl hn

theorem getBits_above (w : Word) {lo : Nat} (len : Nat) (h : 64 ≤ lo) : getBits w lo len = 0 := by
  unfold getBits
  rw [Nat.div_eq_of_lt (Nat.lt_of_lt_of_le w.isLt (Nat.pow_le_pow_right (by decide) h)), Nat.zero_mod]

/-- A field apart from a whole register lies in another register or holds no bit of the word. -/
theorem whole_apart {r : Reg} {g : Fld} (h : (whole r).apart g = true) : r ≠ g.reg ∨ ∀ (s : State) (n i : Nat), s.ga g n i = 0 := by
  simp only [Fld.apart, Bool.or_eq_true, bne_iff_ne, ne_eq, Bool.and_eq_true, decide_eq_true_eq] at h
  simp only [whole] at h
  rcases h with h | ⟨_, h⟩
  · exact .inl h
  · refine .inr (fun s n i => ?_)
    rcases h with h | h
    · exact getBits_above _ _ (by omega)
    · have : g.len = 0 := by omega
      simp [State.ga, getBits, this, Nat.mod_one]

/-- A write of a word of a listed register. -/
theorem Within.wr (r : Reg) (n i : Nat) (w : Word) (hc : fs.any (fun e => e.covers (whole r)) = true)
    (h : Within fs ps parts s y) : Within fs ps parts s (y.wr r n i w) := by
  refine ⟨fun g n' i' a b => ?_, fun p hp => Part.same_trans (h.2 p hp) (p.same_wr y _ _ _ _)⟩
  obtain ⟨e, he, hcov⟩ := List.any_eq_true.mp hc
  have ha := Fld.apart_of_covers hcov (a e he)
  rw [← h.1 g n' i' a b]
  rcases whole_apart ha with hr | hz
  · exact State.ga_wr_reg _ _ _ _ _ _ _ hr
  · rw [hz, hz]

/-- A write of a word at its listed place. -/
theorem Within.wrAt (r : Reg) (n i : Nat) (w : Word) (hm : (whole r, n, i) ∈ ps)
    (h : Within fs ps parts s y) : Within fs ps parts s (y.wr r n i w) := by
  refine ⟨fun g n' i' a b => ?_, fun p hp => Part.same_trans (h.2 p hp) (p.same_wr y _ _ _ _)⟩
  rw [← h.1 g n' i' a b]
  rcases b _ hm with ha | ha
  · rcases whole_apart ha with hr | hz
    · exact State.ga_wr_reg _ _ _ _ _ _ _ hr
    · rw [hz, hz]
  · simp only [State.ga]
    rw [State.rd_wr_key]
    intro e
    obtain ⟨_, hn, hi⟩ := keyOf_eq_iff.mp e
    exact ha (by simp [hn, hi])

theorem Within.bump (r : Reg) (n i k : Nat) (hc : fs.any (fun e => e.covers (whole r)) = true)
    (h : Within fs ps parts s y) : Within fs ps parts s (y.bump r n i k) := Within.wr r n i _ hc h

theorem Within.bumpAt (r : Reg) (n i k : Nat) (hm : (whole r, n, i) ∈ ps)
    (h : Within fs ps parts s y) : Within fs ps parts s (y.bump r n i k) := Within.wrAt r n i _ hm h

/-- Changes of listed parts. -/
theorem Within.mk {x0} {x1} {x2} {x3} {x4} {x5} {x6} {x7} {x8} {x9} {x10} {x11} {x12} {x13} {x14} {x15} {x16} {x17} {x18} {x19} {x20} {x21}
    (hx0 : Part.plan ∈ parts ∨ x0 = y.plan)
    (hx1 : Part.disc ∈ parts ∨ x1 = y.disc)
    (hx2 : Part.bell ∈ parts ∨ x2 = y.bell)
    (hx3 : Part.cup ∈ parts ∨ x3 = y.cup)
    (hx4 : Part.rep ∈ parts ∨ x4 = y.rep)
    (hx5 : Part.agents ∈ parts ∨ x5 = y.agents)
    (hx6 : Part.grd ∈ parts ∨ x6 = y.grd)
    (hx7 : Part.graph ∈ parts ∨ x7 = y.graph)
    (hx8 : Part.sen ∈ parts ∨ x8 = y.sen)
    (hx9 : Part.chk ∈ parts ∨ x9 = y.chk)
    (hx10 : Part.mbx ∈ parts ∨ x10 = y.mbx)
    (hx11 : Part.eth ∈ parts ∨ x11 = y.eth)
    (hx12 : Part.belf ∈ parts ∨ x12 = y.belf)
    (hx13 : Part.lant ∈ parts ∨ x13 = y.lant)
    (hx14 : Part.key ∈ parts ∨ x14 = y.key)
    (hx15 : Part.twin ∈ parts ∨ x15 = y.twin)
    (hx16 : Part.pwr ∈ parts ∨ x16 = y.pwr)
    (hx18 : Part.answer ∈ parts ∨ x18 = y.answer)
    (hx19 : Part.sent ∈ parts ∨ x19 = y.sent)
    (hx20 : Part.free ∈ parts ∨ x20 = y.free)
    (hx21 : Part.pending ∈ parts ∨ x21 = y.pending)
    (h : Within fs ps parts s y) : Within fs ps parts s (State.mk y.regs x0 x1 x2 x3 x4 x5 x6 x7 x8 x9 x10 x11 x12 x13 x14 x15 x16 x17 x18 x19 x20 x21) := by
  refine ⟨fun f n i a b => h.1 f n i a b, fun p hp => ?_⟩
  have := h.2 p hp
  cases p <;> (simp only [Part.same] at this ⊢; simp_all)

/-- What leaves the block. -/
theorem Within.emit (k : Sent) (a b : Nat) (d : List Nat) (z : Bytes) (hs : Part.sent ∈ parts)
    (ht : State.isControl k = false ∨ Part.twin ∈ parts) (h : Within fs ps parts s y) :
    Within fs ps parts s (y.emit k a b d z) := by
  refine ⟨fun f n i hf hp => (State.emit_ga y k a b d z f n i).trans (h.1 f n i hf hp), fun p hp => ?_⟩
  have hn := h.2 p hp
  rcases ht with ht | ht
  · rw [State.emit_plain _ _ _ _ _ _ ht]
    cases p <;> first | exact hn | exact absurd hs hp
  · cases p <;> first | exact absurd hs hp | exact absurd ht hp | (simp only [Part.same] at hn ⊢; simp [hn])

theorem Within.send (k : Sent) (a b : Nat) (d : List Nat) (hs : Part.sent ∈ parts)
    (ht : State.isControl k = false ∨ Part.twin ∈ parts) (h : Within fs ps parts s y) :
    Within fs ps parts s (y.send k a b d) := Within.emit k a b d [] hs ht h

/-- An event. -/
theorem Within.raise (f : Fld) (i : Nat) (v : Int) (hc : fs.any (fun e => e.covers f) = true) (hs : Part.sent ∈ parts)
    (h : Within fs ps parts s y) : Within fs ps parts s (y.raise f i v) :=
  Within.send _ _ _ _ hs (.inl rfl) (Within.pa f 0 0 1 hc h)

theorem Within.err (x d : Nat) (ha : Part.answer ∈ parts) (h : Within fs ps parts s y) :
    Within fs ps parts s (y.err x d) := by
  refine ⟨fun f n i hf hp => h.1 f n i hf hp, fun p hp => ?_⟩
  have hn := h.2 p hp
  cases p <;> first | exact hn | exact absurd ha hp

theorem Within.setAg (a : Agent) (ha : Part.agents ∈ parts) (h : Within fs ps parts s y) :
    Within fs ps parts s (y.setAg a) := by
  refine ⟨fun f n i hf hp => h.1 f n i hf hp, fun p hp => ?_⟩
  have hn := h.2 p hp
  cases p <;> first | exact hn | exact absurd ha hp

theorem Within.updAg (n : Nat) (f : Agent → Agent) (ha : Part.agents ∈ parts) (h : Within fs ps parts s y) :
    Within fs ps parts s (y.updAg n f) := Within.setAg _ ha h

/-- A state named on the way. -/
theorem Within.letS {v : State} {g : State → State} (h : Within fs ps parts s v)
    (hg : ∀ z, Within fs ps parts s z → Within fs ps parts s (g z)) : Within fs ps parts s (have z := v; g z) := hg v h

/-- A value named on the way. -/
theorem Within.letV {α : Type} {v : α} {g : α → State} (hg : ∀ z, Within fs ps parts s (g z)) :
    Within fs ps parts s (have z := v; g z) := hg v

/-- A choice. -/
theorem Within.ite {c : Prop} [Decidable c] {a b : State} (ha : c → Within fs ps parts s a)
    (hb : ¬c → Within fs ps parts s b) : Within fs ps parts s (if c then a else b) := by
  split
  · exact ha ‹_›
  · exact hb ‹_›

/-- A loop whose body stays within. -/
theorem Within.foldl {α : Type} (g : State → α → State) (l : List α)
    (hg : ∀ x a, Within fs ps parts s x → Within fs ps parts s (g x a)) (h : Within fs ps parts s y) :
    Within fs ps parts s (l.foldl g y) := by
  induction l generalizing y with
  | nil => exact h
  | cons a l ih => exact ih (hg y a h)

/-- The words of a register go back to their reset words. -/
theorem Within.rstAll (r : Reg) (hc : fs.any (fun e => e.covers (whole r)) = true) (h : Within fs ps parts s y) :
    Within fs ps parts s (y.rstAll r) := by
  refine ⟨fun g n i a b => ?_, fun p hp => Part.same_trans (h.2 p hp) (by cases p <;> rfl)⟩
  obtain ⟨e, he, hcov⟩ := List.any_eq_true.mp hc
  have ha := Fld.apart_of_covers hcov (a e he)
  rw [← h.1 g n i a b]
  rcases whole_apart ha with hr | hz
  · simp only [State.ga, State.rd_eq, State.rstAll]
    congr 2
    have hne : ∀ m : RegMap, RegMap.find (m.filter (fun e => e.1.r != r.ctorIdx)) (keyOf g.reg n i) = m.find (keyOf g.reg n i) := by
      intro m
      induction m with
      | nil => rfl
      | cons e m ih =>
        obtain ⟨k, w⟩ := e
        rw [List.filter_cons]
        split
        · simp only [RegMap.find]; split <;> simp_all
        · next hk =>
          have hk' : k ≠ keyOf g.reg n i := by
            intro e
            subst e
            simp only [keyOf, bne_iff_ne, ne_eq, Decidable.not_not] at hk
            exact hr (Reg.ctorIdx_inj hk).symm
          simp only [RegMap.find, hk', if_false]
          exact ih
    rw [hne]
  · rw [hz, hz]

end Sys2Proof.Machine
end

