-- ==== Sys2Proof/Tests/Slice0.lean ====
section
/-! SUPPORT. The model's own tests: an ill-formed command for each check, single steps with results taken from the spec, and
for every statement with hypotheses a state and operands that meet them together (`wit_…`, clause by clause). -/
namespace Sys2Proof.Tests
open Sys2Proof Sys2Proof.Machine State
-- One theorem after the other: many at once take more memory than the check gives.
set_option Elab.async false

/-- The state after reset. -/
def z : State := State.reset
/-- A request header with the arguments `a` and `b`. -/
def hdr (a b : Nat) : ScpHdr := ⟨1, 1, false, false, a, b, false⟩
/-- A plan of one spire that holds nothing. -/
def pl : Plan := ⟨1, 0, [], [], 0, 5, 0, 64, 0, 0, 0, 0, 0, 0, [], [], [], ⟨10, 1, [], [], []⟩, [], [], 0, 0, 0, 0, 0, 0, 0,
  0, [],
  1, 0, [], [], [], []⟩
/-- A template of mode 0. -/
def tpl : TplRec := ⟨1, 0, 0, 0, 0, 0, 0, 0, 1, 0, 0, 0, 0, 0, 0⟩
/-- A guard record of three members, one region of 8 bytes and one lane. -/
def grc : GuardRec := ⟨0, 3, 1, 8, 1, 0, 0, 16, 0, 8, [1], [1, 2, 3]⟩
/-- Group 0 of job 1 in cupola 1. -/
def grp : Group := ⟨0, grc, true, 1, 1, [0], [], [], [], [], [], [], [], [], none, false, [], [], [], [], [], 0, 0, none,
  false,
  false, false, none, 0, none, false, [], none, 0⟩
/-- A running task of index 0 with a descriptor of zeros but for its kind. -/
def tsk (kind : Nat) : Task := ⟨0, BitVec.ofNat 8 kind :: List.replicate 127 0, 0, 0, 0, 0, 0, [], [], false, 3, none, 0, 0,
  [], 0, 0,
  0, [], 0, 0, 0, 0, 0, none, 0⟩
def frm : DataFrame := ⟨0x100, 0, false, true, true, false, 0, 0, 0, [1], false, 0, 0, none⟩
def bcn : Beacon := ⟨1, 1, 2, 8, 0, 7, 1, 0, 1, 1, 0, 1, 0, true⟩
/-- An item with the header check that its type asks for. -/
def headed (type : Nat) (it : GItem) : GItem := { it with hdrCheck := headerCheck type it }
def itm : GItem := ⟨false, false, 0, 0, 0, 0, 1, 0, 0, 0, 0, [], 0, 0⟩
def ses : Session := ⟨1, 0, [], none, [], none⟩
def shk : Handshake := ⟨1, 0, [], [], List.replicate 32 0, []⟩
def ins : Install := ⟨1, 0, 0, 0, 0, 0, 0, [0], [⟨0, [0]⟩], ⟨0, 0, [], [], []⟩, [], false, [], [], false, 0⟩
def opn : RdmaOp := ⟨0, 0, 0, 0, 0, 0, 0, 0, 0, true, [], true⟩
def flr : Failure := ⟨0, 255, 0, 0, 0, 0⟩
def crv : Carve := ⟨1, 1, 0, 0, none, 0, [], [], false⟩
def ret : Retire := ⟨1, 0, 2, 0, false, false, false⟩
def cel : Cell := ⟨0, 0, 0, 0, 0, 0, 1, false, 0, 0, 0, []⟩
def rec_ : Record := ⟨1, 5, 0, 0, 0, 0, 0, 0, 0, 0, 0, 1, []⟩
def sub_ : Subscr := ⟨0, 1, [0, 0, 0], [0, 0, 0], [], [], []⟩
def mir : MirrorF := ⟨true, 0, 0, 1, [], true⟩
def tmw : TimeW := ⟨1, 2, 0, 0, 0, 0, 0, true⟩
def clm : ClaimF := ⟨true, false, 0, 0, 0, true⟩
def jky : JobKey := ⟨1, 1, 1, 1, 0, none, 0, [], 0⟩
def ntc : Notice := ⟨0, 0, 0, 0, 0, 0, 1, 0⟩
def hbt : Heartbeat := ⟨0, true, false, 0, 0, 0, 1, 0, true⟩
def rcp : Receipt := ⟨1, 0, 2, 0, 0, 0, 0, true⟩
def sgm : Segment := ⟨0, 0, 0, [], 0, [], true⟩
def actv : ActivateP := ⟨0, false, 2, [], []⟩
def man : ManifestP := ⟨1, 0, 10, 1, 2, 0, 1, false, []⟩
def psd : Posted := ⟨0, 0, 0, 0x0080000000000000, 0, false, none⟩
def dsb : Disable := ⟨4, 0, 0, 2, false, false⟩
def prb : ProbeOut := ⟨[1], 0, 0, 7⟩

/-- Each check refuses a command. -/
theorem test_wellFormed_refuses1 :
    Instr.problems (.registerWrite 0 0x1000000000000 0) = [.address] ∧
    Instr.problems (.junctionTemperatureThreshold 0x10000) = [.analog] ∧
    Instr.problems (.computeUp 0 0x100000000 0) = [.census] ∧
    Instr.problems (.attach 0x80) = [.channel] ∧
    Instr.problems (.checkUnit 0 [] 0x10000000000000000 none false false) = [.checkValue] ∧
    Instr.problems (.itemInject 0 0 0x1000 0 0 []) = [.cupola] ∧
    Instr.problems (.paceDeficit 6) = [.engine] ∧
    Instr.problems (.hello 0 0 0 0x100000000) = [.epoch] ∧
    Instr.problems (.feedStateChange 2 0) = [.feed] ∧
    Instr.problems (.itemInject 0 0x10000 0 0 0 []) = [.flow] ∧
    Instr.problems (.lantNowNsRead 0 0x10000) = [.fraction] ∧
    Instr.problems (.regionWritten 0x100 0) = [.group] ∧
    Instr.problems (.i3cEntdaa 0x80) = [.i3c] ∧
    Instr.problems (.sramUncorrectable 0 5 []) = [.index] := by
  decide +kernel

theorem test_wellFormed_refuses2 :
    Instr.problems (.belfryEvent 0 0x100000000 0) = [.instanceNo] ∧
    Instr.problems (.carve 0 0x100000000) = [.job] ∧
    Instr.problems (.ackTimeout 0 0 0x100) = [.kind] ∧
    Instr.problems (.lentAck 0 3 0) = [.lane] ∧
    Instr.problems (.hello 0 2 0 0) = [.letter] ∧
    Instr.problems (.hello 0x10 0 0 0) = [.level] ∧
    Instr.problems (.resetCompute 0x100000000) = [.logical] ∧
    Instr.problems (.hostWordTake 32) = [.mailbox] ∧
    Instr.problems (.scalarResult 0 [] 0x10000) = [.mask] ∧
    Instr.problems (.ackTimeout 0 0x10000 0) = [.member] ∧
    Instr.problems (.memRetrain 0x200 false) = [.memory] ∧
    Instr.problems (.slotStart 0x200 0 0) = [.node] ∧
    Instr.problems (.mailboxStall 4 0 0) = [.party] ∧
    Instr.problems (.pfcFrame 0x10000) = [.pause] := by
  decide +kernel

theorem test_wellFormed_refuses3 :
    Instr.problems (.slotStart 0 0x100 0) = [.port] ∧
    Instr.problems (.roceAck 0 0x1000000) = [.psn] ∧
    Instr.problems (.roceAck 0x40 0) = [.qp] ∧
    Instr.problems (.railFault 16 0) = [.rail] ∧
    Instr.problems (.scpDatagramDiscard 3) = [.reason] ∧
    Instr.problems (.regionWritten 0 0x100000000) = [.region] ∧
    Instr.problems (.itemInject 0 0 0 0 0x1000000000000 []) = [.round] ∧
    Instr.problems (.mirrorNak 0x100000000) = [.sequence] ∧
    Instr.problems (.slotStart 0 0 0x1000) = [.slot] ∧
    Instr.problems (.standbyRailUp 0x10000 0) = [.slotId] ∧
    Instr.problems (.belfryEvent 0x10000 0 0) = [.source] ∧
    Instr.problems (.lendingInAccumulation 0x80 0 0 0 []) = [.spire] ∧
    Instr.problems (.functionAdmissionStop 2 0) = [.state] ∧
    Instr.problems (.remoteAccessReply 0 0 0x100 []) = [.status] := by
  decide +kernel

theorem test_wellFormed_refuses4 :
    Instr.problems (.foldedReport 0 0 0x1000000000000 [] false) = [.step] ∧
    Instr.problems (.installPeerReport 0 false 0x200 []) = [.stragglers] ∧
    Instr.problems (.subscriptionLeaseExpiry 8) = [.sub] ∧
    Instr.problems (.retryCacheExpiry 0 0x100000000) = [.tag] ∧
    Instr.problems (.telemetrySend 0 3) = [.telemetry] ∧
    Instr.problems (.ppsInEdge 0x10000000000000000) = [.time] ∧
    Instr.problems (.bankGroupMigrate 0x100) = [.unit] ∧
    Instr.problems (.scpRead (hdr 0 0x100000000)) = [.count] ∧
    Instr.problems (.timeWord none 0 { tmw with depth := 0x100 }) = [.depth] ∧
    Instr.problems (.beaconReceive 0 0 { bcn with elementId := 2 ^ 128 }) = [.element] ∧
    Instr.problems (.bindingResolveComplete ⟨[2 ^ 64], [], [], [], none⟩) = [.entry] ∧
    Instr.problems (.receipt { rcp with installId := 0x10000 }) = [.install] ∧
    Instr.problems (.scpWrite (hdr 0 1) (List.replicate 1025 0)) = [.length] ∧
    Instr.problems (.beaconReceive 0 0 { bcn with reserved := 2 ^ 144 }) = [.reserved] := by
  decide +kernel

/-- Does a command answer a next state of which `q` holds? -/
def next (o : Host.Outcome State Fault Refusal) (q : State → Bool) : Bool :=
  match o with
  | .next t => q t
  | _ => false

-- Results that the spec's tables and worked examples give

/-- The digits 1 to 9 in ASCII, over which Table 9.1 gives its check values. -/
def digits : Bytes := (List.range 9).map (fun i => BitVec.ofNat 8 (0x31 + i))

/-- Table 9.1: the check values of the three polynomials. -/
theorem test_check_values : Poly.crc32c.check digits = 0xE3069283 ∧ Poly.crc64xz.check digits = 0x995DC9BBDF1939FA ∧
    Poly.crc16.check digits = 0xD0DB := by decide +kernel

/-- R251: a stream split at a byte boundary has the check value of the unbroken stream. -/
theorem test_check_split : Poly.crc32c.finish (Poly.crc32c.run (Poly.crc32c.run Poly.crc32c.init (digits.take 4))
  (digits.drop 4)) =
    0xE3069283 := by decide +kernel

/-- Table 6.3: the first and the last coefficient of each lane. -/
theorem test_coefficients : coef 0 0 = 0xF4 ∧ coef 0 15 = 0xC0 ∧ coef 1 0 = 0x8E ∧ coef 1 15 = 0x58 ∧ coef 2 0 = 0x01 ∧
    coef 2 15 = 0xD8 := by decide +kernel

/-- Chapter 6, three members and two lanes: the fold of 0x09 into member 1, and members 1 and 2 from their syndromes. -/
theorem test_fold_and_decode : gfScale (coef 0 1) [0x09] = [0x45] ∧ gfScale (coef 1 1) [0x09] = [0xF6] ∧
    gfDecode [0, 1] [1, 2] [[0x3F], [0x6C]] = [[0x0B], [0x03]] ∧ gfDecode [0] [1] [[0xCB]] = [[0x0B]] := by decide +kernel

/-- Chapter 1, a spare standing in: logical node 0x0659 is local node 89 of spire 3. -/
theorem test_logical_node : localOf 0x0659 = 89 ∧ 0x0659 / 512 = 3 := by decide

/-- Chapter 16, a hop rekey: 2^20 frames under epoch 6 on port 2 of local node 89, epoch 7 in its next role. -/
def rekeyState : State :=
  ((((((z.updAg 89 (fun a => { a with txCount := [(2, 2 ^ 20)] })).pa F.AG_PORT_CFG_KEYED 89 2 1).pa
    F.AG_PORT_CFG_REKEY_EXP 89 2 20).setKeyInfo 89 72 1 0 6).setKeyInfo 89 73 1 0 7).pn F.AG_EPOCH_ELEMENT 89 3)

/-- Table 16.5: slot 73 is promoted into 72 and empty, and REKEY_DUE stands in outbound mailbox 0. -/
theorem test_hop_rekey : next (exec (.hopRekey 89 2) rekeyState) (fun t =>
    t.keyEpoch 89 72 == 7 && !t.keyLoaded 89 73 && t.rd .AG_MBX_OUT 89 0 == 0x0338000000000802) = true := by
  decide +kernel

/-- Chapter 16: the address of AG_KEY_INFO[73] of node 89, once the node is bound. -/
theorem test_agent_window : ({ z with disc := { z.disc with placed := [(89, 1)] } }).placeOf 0x105908C8 = .agent 89 0x8C8 := by
  decide +kernel

/-- Table 10.4: a READ of an offset that holds no register answers ADDRESS (2). -/
theorem test_read_hole : next (exec (.scpRead (hdr 4 1)) z) (fun t =>
    t.sent.any (fun e => e.kind == .response && e.data.headD 9 == Status.address)) = true := by decide +kernel

/-- R16: a bit of an event register is cleared by writing 1 to it. -/
theorem test_write_one_clears :
    next (exec (.registerWrite 1 Reg.GRD_EVENT.base 1) (z.wr .GRD_EVENT 0 0 3))
      (fun t => t.rd .GRD_EVENT 0 0 == 2) = true := by
  decide +kernel

/-- R61: LOAD_BEGIN with the full 256 MiB opens the slot; one byte more is refused with VALUE. -/
theorem test_load_begin : next (exec .loadBegin (z.p F.PLAN_LOAD_LEN_LEN 268435456))
  (fun t => t.slotState == Slot.loading) = true ∧
    next (exec .loadBegin (z.p F.PLAN_LOAD_LEN_LEN 268435457)) (fun t => t.answer.status == Status.value) = true := by
  decide +kernel

/-- The block idles on an empty queue, and takes the first of two commands. -/
theorem test_queue : step z = .next z ∧
    next (step { z with pending := [.loadBegin, .discard] })
      (fun t => t.pending.length == 1 && t.slotState == Slot.loading) = true :=
  ⟨rfl, by decide +kernel⟩


-- What the hypotheses of the statements admit

theorem off_grid (a : Nat) (h : a % 8 ≠ 0) :
    ∀ (r : Reg) (i : Nat), r.isAgent = false → r.first ≤ i → i ≤ r.last → a ≠ r.base + 8 * i := by
  intro r i _ _ _ he
  have hb : r.base % 8 = 0 := by cases r <;> decide
  omega

theorem wit_StepRunsFront :
    (∃ (s : State), s.pending = []) :=
  ⟨z, by decide +kernel⟩

theorem wit_FirstStart :
    (∃ (s : State), s.pwr.started = true ∧ s.g F.PWR_STATUS_STAGE = 9 ∧ s.plan.cur = none ∧ s.pwr.retained = none) :=
  ⟨({ z with pwr := { z.pwr with started := true } }).p F.PWR_STATUS_STAGE 9, by decide +kernel⟩

theorem wit_RegisterMap :
    (∃ (r : Reg), r.isAgent = false) ∧
    (∃ (r : Reg) (i : Nat), r.isAgent = false ∧ r.first ≤ i ∧ i ≤ r.last) ∧
    (∃ (addr : Nat), addr < 2 ^ 47 ∧ (addr < agentBase ∨ agentEnd ≤ addr) ∧ (∀ (r : Reg) (i : Nat),
      r.isAgent = false → r.first ≤ i → i ≤ r.last → addr ≠ r.base + 8 * i)) ∧
    (∃ (h : ScpHdr) (s : State), s.serves ⟨.read, h, [], []⟩ = true ∧ 1 ≤ h.b ∧ h.b ≤ 1024 ∧ h.a < 2 ^ 47 ∧
      (h.a < agentBase ∨ agentEnd ≤ h.a) ∧ (∀ (r : Reg) (i : Nat),
      r.isAgent = false → r.first ≤ i → i ≤ r.last → h.a ≠ r.base + 8 * i)) :=
  ⟨⟨.GRAPH_ARG, by decide +kernel⟩,
   ⟨.PORT_STATUS, 47, by decide +kernel⟩,
   ⟨1, by decide, by decide, off_grid 1 (by decide)⟩,
   ⟨hdr 4 1024, z, by decide +kernel, by decide, by decide, by decide, by decide, off_grid 4 (by decide)⟩⟩

theorem wit_PlanSegments :
    (∃ (s : State), s.slotState ≠ Slot.verifying ∧ s.slotState ≠ Slot.armed ∧ s.g F.PLAN_LOAD_LEN_LEN ≤ 268435456) ∧
    (∃ (h : ScpHdr) (bs : Bytes) (s : State), s.serves ⟨.segment, h, [], bs⟩ = true ∧ bs ≠ [] ∧ s.slotState = Slot.loading ∧
      h.a + bs.length ≤ s.plan.len) ∧
    (∃ (h : ScpHdr) (bs : Bytes) (s : State), s.serves ⟨.segment, h, [], bs⟩ = true ∧ bs ≠ [] ∧
      (s.slotState ≠ Slot.loading ∨ s.plan.len < h.a + bs.length)) :=
  ⟨⟨z.p F.PLAN_LOAD_LEN_LEN 268435456, by decide +kernel⟩,
   ⟨hdr 0 0, [1, 2], ({ z with plan := { z.plan with len := 2 } }).p F.PLAN_STATUS_STAGED_STATE 1, by decide +kernel⟩,
   ⟨hdr 1 0, [1, 2], ({ z with plan := { z.plan with len := 2 } }).p F.PLAN_STATUS_STAGED_STATE 1, by decide +kernel⟩⟩

theorem wit_RetryNotExecuted :
    (∃ (c : Instr) (h : ScpHdr) (ws : List Word) (bs : Bytes) (x : Session) (s : State), c ∈ [Instr.scpRead h,
      .scpWrite h ws, .mbxPost h ws, .mbxFetch h, .planSegment h bs, .graphSubmit h bs, .ringFetch h, .telemSubscribe h bs,
      .attest h bs, .graphIds h, .admissionHello h bs, .admissionFetch h, .admissionFinish h bs] ∧ h.retry = true ∧
      8 * ws.length + bs.length ≤ s.maxPayload ∧
      (s.macsec = true → s.b F.ETH_STATUS_SECURED = true → h.protectedFrame = true) ∧ s.sessionOf h.sess = some x ∧
      x.remote = none) :=
  ⟨.scpRead { hdr 0 1 with retry := true }, { hdr 0 1 with retry := true }, [], [], ses,
    { z with eth := { z.eth with sessions := [ses] } }, by decide +kernel⟩

theorem wit_RegisterAccessComplete :
    (∃ (h : ScpHdr) (r : Reg) (i : Nat) (s : State), s.serves ⟨.read, h, [], []⟩ = true ∧ h.b = 1 ∧ s.placeOf h.a = .own r i ∧
      s.confidential = false ∧ s.inRecovery = false ∧ [Reg.GRAPH_TASK_WORD, .SEN_STAT, .BELF_READ_WORD, .BELF_SENT,
      .TWIN_CAP_WORD, .ETH_QP_WORD, .LANT_NOW_NS, .ETH_COUNT, .ETH_STATUS].contains r = false) ∧
    (∃ (h : ScpHdr) (w : Word) (s : State), s.serves ⟨.write, h, [w], []⟩ = true ∧ h.b = 1 ∧
      s.placeOf h.a = .own .GRAPH_ARG 0 ∧ s.passive = false ∧ s.inRecovery = false) ∧
    (∃ (addr : Nat) (s : State), s.placeOf (addr % 2 ^ 48) = .own .GRAPH_ARG 0) ∧
    (∃ (addr : Nat) (s : State), s.placeOf (addr % 2 ^ 48) = .own .GRD_EVENT 0) ∧
    (∃ (addr : Nat) (s : State), s.placeOf (addr % 2 ^ 48) = .own .GRAPH_STATUS 0) ∧
    (∃ (addr : Nat), agentBase ≤ addr ∧ addr < agentEnd ∧ addr % 8 = 0) ∧
    (∃ (h : ScpHdr) (s : State), s.serves ⟨.read, h, [], []⟩ = true ∧ 1 ≤ h.b ∧ h.b ≤ 1024 ∧
      (s.placeOf h.a).inModule = true) ∧
    (∃ (h : ScpHdr) (spire : Nat) (off : Nat) (s : State), s.serves ⟨.read, h, [], []⟩ = true ∧ 1 ≤ h.b ∧ h.b ≤ 1024 ∧
      s.placeOf h.a = .far spire off) ∧
    (∃ (h : ScpHdr) (ws : List Word) (s : State), s.serves ⟨.write, h, ws, []⟩ = true ∧ ws ≠ [] ∧ ws.length ≤ 1024 ∧
      h.b = ws.length ∧ (s.placeOf h.a).isFar = false) ∧
    (∃ (h : ScpHdr) (ws : List Word) (spire : Nat) (off : Nat) (s : State), s.serves ⟨.write, h, ws, []⟩ = true ∧ ws ≠ [] ∧
      ws.length ≤ 1024 ∧ h.b = ws.length ∧ s.placeOf h.a = .far spire off) ∧
    (∃ (addr : Nat) (r : Reg) (i : Nat) (s : State), s.placeOf (addr % 2 ^ 48) = .own r i) ∧
    (∃ (sess : Nat) (addr : Nat) (r : Reg) (i : Nat) (w : Word) (s : State), s.placeOf (addr % 2 ^ 48) = .own r i ∧
      s.ok.commandWrite sess r i w = none ∧ (r.rwMask ≠ 0 ∨ r.w1cMask ≠ 0) ∧ (r ≠ .ETH_ADDR ∨ i ≠ 11) ∧
      (r = .CHK_CFG → 96 ≤ i ∧ s.chkState i = Chan.idle) ∧ (r = .PWR_SITE → s.plan.cur = none) ∧ s.legalWrite r i w = true) :=
  ⟨⟨hdr Reg.GRAPH_ARG.base 1, .GRAPH_ARG, 0, z, by decide +kernel⟩,
   ⟨hdr Reg.GRAPH_ARG.base 1, 5, z, by decide +kernel⟩,
   ⟨Reg.GRAPH_ARG.base, z, by decide +kernel⟩,
   ⟨Reg.GRD_EVENT.base, z, by decide +kernel⟩,
   ⟨Reg.GRAPH_STATUS.base, z, by decide +kernel⟩,
   ⟨agentBase, by decide +kernel⟩,
   ⟨hdr Reg.GRAPH_ARG.base 2, z, by decide +kernel⟩,
   ⟨hdr (2 ^ 47 + 2 ^ 40) 1, 1, 0, ({ z with plan := { z.plan with cur := some { pl with flags := 255, spires := 2 } } }).p F.TWIN_STATUS_STATE 1, by decide +kernel⟩,
   ⟨hdr Reg.GRAPH_ARG.base 2, [5, 6], z, by decide +kernel⟩,
   ⟨hdr (2 ^ 47 + 2 ^ 40) 1, [5], 1, 0, ({ z with plan := { z.plan with cur := some { pl with flags := 255, spires := 2 } } }).p F.TWIN_STATUS_STATE 1, by decide +kernel⟩,
   ⟨Reg.GRD_CTRL.base, .GRD_CTRL, 0, z, by decide +kernel⟩,
   ⟨0, Reg.GRD_ARG.base, .GRD_ARG, 0, 5, z, by decide +kernel⟩⟩

theorem wit_OperationsComplete :
    (∃ (h : ScpHdr) (w : Word) (s : State), s.serves ⟨.post, h, [w], []⟩ = true ∧ h.a < 32 ∧ (∀ e ∈ s.mbx.hin, e.1 ≠ h.a)) ∧
    (∃ (h : ScpHdr) (s : State), s.serves ⟨.fetch, h, [], []⟩ = true ∧ (∀ x ∈ s.mbx.waiting, x.party ≠ Party.host) ∧
      (∀ x ∈ s.mbx.posted, x.item = none)) ∧
    (∃ (h : ScpHdr) (bs : Bytes) (s : State), s.serves ⟨.segment, h, [], bs⟩ = true ∧ bs ≠ [] ∧ s.slotState = Slot.loading ∧
      h.a + bs.length ≤ s.plan.len) ∧
    (∃ (h : ScpHdr) (bs : Bytes) (s : State), s.serves ⟨.submit, h, [], bs⟩ = true ∧ h.more = true ∧ h.a = 0 ∧
      bs.length < h.b ∧ s.sessionOf h.sess = none) ∧
    (∃ (h : ScpHdr) (s : State), s.serves ⟨.ring, h, [], []⟩ = true ∧ 1 ≤ h.b ∧ h.b ≤ 256 ∧
      h.a % 2 ^ 32 = s.g F.GRAPH_RING_TAIL_TAIL) ∧
    (∃ (h : ScpHdr) (bs : Bytes) (i : Nat) (s : State), s.serves ⟨.subscribe, h, [], bs⟩ = true ∧ bs.length = 16 ∧
      field bs 0 1 % 8 ≠ 0 ∧ 1024 ≤ field bs 4 4 ∧ field bs 4 4 ≤ 1048576 ∧ (∀ u ∈ s.belf.subs, u.sess ≠ h.sess) ∧ i < 8 ∧
      (∀ j < i, ∃ u ∈ s.belf.subs, u.slot = j) ∧ (∀ u ∈ s.belf.subs, u.slot ≠ i)) ∧
    (∃ (h : ScpHdr) (nonce : Bytes) (s : State), s.serves ⟨.attest, h, [], nonce⟩ = true ∧ h.a = 0 ∧ nonce.length = 32 ∧
      s.key.entropyFailed = false ∧ s.key.signing = []) ∧
    (∃ (h : ScpHdr) (items : List Nat) (s : State), s.serves ⟨.ids, h, [], []⟩ = true ∧ s.graph.graphs.find?
      (fun g => g.1 == h.a % 2 ^ 32) = some (h.a % 2 ^ 32, items) ∧ h.b ≤ items.length) ∧
    (∃ (h : ScpHdr) (bs : Bytes) (s : State), s.serves ⟨.hello, h, [], bs⟩ = true ∧ bs.length = 1664 ∧
      s.g F.KEY_STATUS_REMOVE_STEP < 2 ∧ s.key.entropyFailed = false) ∧
    (∃ (h : ScpHdr) (x : Handshake) (s : State), s.serves ⟨.report, h, [], []⟩ = true ∧ s.handshakeOf h.sess = some x ∧
      x.serverHello.length = 32 ∧ h.a = 0 ∧ s.key.entropyFailed = false ∧ s.key.signing = []) ∧
    (∃ (h : ScpHdr) (bs : Bytes) (x : Handshake) (s : State), s.serves ⟨.finish, h, [], bs⟩ = true ∧
      s.handshakeOf h.sess = some x ∧ h.more = true ∧ h.a = x.fragments.length ∧ h.a + bs.length ≤ 29792) ∧
    (∃ (h : ScpHdr) (ws : List Word) (s : State), s.serves ⟨.post, h, ws, []⟩ = true) ∧
    (∃ (h : ScpHdr) (s : State), s.serves ⟨.fetch, h, [], []⟩ = true) ∧
    (∃ (h : ScpHdr) (bs : Bytes) (s : State), s.serves ⟨.segment, h, [], bs⟩ = true) ∧
    (∃ (h : ScpHdr) (bs : Bytes) (s : State), s.serves ⟨.submit, h, [], bs⟩ = true) ∧
    (∃ (h : ScpHdr) (s : State), s.serves ⟨.ring, h, [], []⟩ = true) ∧
    (∃ (h : ScpHdr) (bs : Bytes) (s : State), s.serves ⟨.subscribe, h, [], bs⟩ = true) ∧
    (∃ (h : ScpHdr) (bs : Bytes) (s : State), s.serves ⟨.attest, h, [], bs⟩ = true) ∧
    (∃ (h : ScpHdr) (s : State), s.serves ⟨.ids, h, [], []⟩ = true) ∧
    (∃ (h : ScpHdr) (bs : Bytes) (s : State), s.serves ⟨.hello, h, [], bs⟩ = true) ∧
    (∃ (h : ScpHdr) (s : State), s.serves ⟨.report, h, [], []⟩ = true) ∧
    (∃ (h : ScpHdr) (bs : Bytes) (s : State), s.serves ⟨.finish, h, [], bs⟩ = true) :=
  ⟨⟨hdr 31 0, 5, z, by decide +kernel⟩,
   ⟨hdr 0 0, z, by decide +kernel⟩,
   ⟨hdr 0 0, [1, 2], ({ z with plan := { z.plan with len := 2 } }).p F.PLAN_STATUS_STAGED_STATE 1, by decide +kernel⟩,
   ⟨{ hdr 0 4 with more := true }, [1], z, by decide +kernel⟩,
   ⟨hdr 0 256, z, by decide +kernel⟩,
   ⟨hdr 0 0, [1, 0, 0, 0, 0, 0, 16, 0, 0, 0, 0, 0, 0, 0, 0, 0], 0, z, by decide +kernel⟩,
   ⟨hdr 0 0, List.replicate 32 0, z, by decide +kernel⟩,
   ⟨hdr 5 2, [3, 4], { z with graph := { z.graph with graphs := [(5, [3, 4])] } }, by decide +kernel⟩,
   ⟨hdr 0 0, List.replicate 1664 0, z, by decide +kernel⟩,
   ⟨hdr 0 0, shk, { z with eth := { z.eth with handshakes := [shk] } }, by decide +kernel⟩,
   ⟨{ hdr 0 0 with more := true }, [1], shk, { z with eth := { z.eth with handshakes := [shk] } }, by decide +kernel⟩,
   ⟨hdr 31 0, [5], z, by decide +kernel⟩,
   ⟨hdr 0 0, z, by decide +kernel⟩,
   ⟨hdr 0 0, [1, 2], z, by decide +kernel⟩,
   ⟨hdr 0 4, [1], z, by decide +kernel⟩,
   ⟨hdr 0 256, z, by decide +kernel⟩,
   ⟨hdr 0 0, [1], z, by decide +kernel⟩,
   ⟨hdr 0 0, List.replicate 32 0, z, by decide +kernel⟩,
   ⟨hdr 5 2, z, by decide +kernel⟩,
   ⟨hdr 0 0, [1], z, by decide +kernel⟩,
   ⟨hdr 0 0, z, by decide +kernel⟩,
   ⟨hdr 0 0, [1], z, by decide +kernel⟩⟩

theorem wit_SessionCommandsComplete :
    (∃ (sess : Nat) (x : Session) (s : State), s.sessionOf sess = some x ∧ (∀ y ∈ s.eth.sessions, y.id = sess → y = x) ∧
      x.last + 16384 ≤ s.round) ∧
    (∃ (sess : Nat) (x : Session) (s : State), s.eth.sessions = [x] ∧ x.id = sess ∧ (∀ c ∈ x.cache,
      c.round + 1024 ≤ s.round)) ∧
    (∃ (slot : Nat) (u : Subscr) (s : State), u ∈ s.belf.subs ∧ u.slot = slot ∧ s.gi F.ETH_SUB_LEFT slot = 0) ∧
    (∃ (sess : Nat) (tag : Nat) (x : Session) (m : Remote) (s : State), s.eth.sessions = [x] ∧ x.id = sess ∧
      x.remote = some m ∧ m.tag = tag ∧ m.far = true ∧ m.write = false ∧ x.queue = []) ∧
    (∃ (sess : Nat) (tag : Nat) (x : Session) (m : Remote) (s : State), s.eth.sessions = [x] ∧ x.id = sess ∧
      x.remote = some m ∧ m.tag = tag ∧ m.far = true ∧ m.sent + 16 ≤ s.round ∧ x.queue = []) ∧
    (∃ (pause : Nat) (s : State), getBits (s.rd .ETH_ADDR 0 10) 27 1 = 1 ∧ pause ≠ 0) ∧
    (∃ (s : State), s.pwr.standbyUp = true) ∧
    (∃ (s : State), s.pwr.standbyUp = true) ∧
    (∃ (s : State), s.pwr.standbyUp = true ∧ s.pwr.i3cIndex = 0 ∧ s.confidential = false) :=
  ⟨⟨1, ses, ({ z with eth := { z.eth with sessions := [ses] } }).p F.BELL_ROUND_ROUND 16384, by decide +kernel⟩,
   ⟨1, { ses with cache := [⟨1, 0, z.answer⟩] },
     ({ z with eth := { z.eth with sessions := [{ ses with cache := [⟨1, 0, z.answer⟩] }] } }).p F.BELL_ROUND_ROUND 1024,
     by decide +kernel⟩,
   ⟨0, sub_, { z with belf := { z.belf with subs := [sub_] } }, by decide +kernel⟩,
   ⟨1, 9, { ses with remote := some ⟨9, 0, 1, false, 0, true⟩ }, ⟨9, 0, 1, false, 0, true⟩,
     { z with eth := { z.eth with sessions := [{ ses with remote := some ⟨9, 0, 1, false, 0, true⟩ }] } }, by decide +kernel⟩,
   ⟨1, 9, { ses with remote := some ⟨9, 0, 1, false, 0, true⟩ }, ⟨9, 0, 1, false, 0, true⟩,
     ({ z with eth := { z.eth with sessions := [{ ses with remote := some ⟨9, 0, 1, false, 0, true⟩ }] } }).p F.BELL_ROUND_ROUND 16, by decide +kernel⟩,
   ⟨1, z.pi F.ETH_ADDR_WORD 10 (2 ^ 27), by decide +kernel⟩,
   ⟨z, by decide +kernel⟩,
   ⟨z, by decide +kernel⟩,
   ⟨z, by decide +kernel⟩⟩

theorem wit_MailboxCommandsComplete :
    (∃ (i : Nat) (s : State), i < 32 ∧ (∀ e ∈ s.mbx.hin, e.1 ≠ i)) ∧
    (∃ (s : State), (∀ x ∈ s.mbx.waiting, x.party ≠ Party.host) ∧ (∀ x ∈ s.mbx.posted, x.item = none)) ∧
    (∃ (i : Nat) (n : Nat) (w : Word) (s : State), s.mbx.hin.find? (fun e => e.1 == i) = some (i, w) ∧
      wordEpoch w = s.g F.MBX_HOST_EPOCH_EPOCH ∧ 0x80 ≤ wordType w ∧ s.relayNode i = some n ∧ s.outFull Party.agent
      (localOf n) 0 = false) ∧
    (∃ (node : Nat) (i : Nat) (s : State), i < 2 ∧ s.outFull Party.agent node i = false) ∧
    (∃ (node : Nat) (i : Nat) (s : State), i < 2 ∧ hasBit (s.ga F.AG_MBX_FULL_OUT_FULL node 0) i = false) ∧
    (∃ (node : Nat) (i : Nat) (w : Word) (s : State), (s.ag node).inWords.find? (fun e => e.1 == i) = some (i, w) ∧
      wordEpoch w = s.ga F.AG_EPOCH_MANAGER node 0) :=
  ⟨⟨31, z, by decide +kernel⟩,
   ⟨z.pi F.MBX_HOUT_FULL_FULL 0 3, by decide +kernel⟩,
   ⟨0, 1, mkWord 0 0x80 5, (({ z with mbx := { z.mbx with hin := [(0, mkWord 0 0x80 5)] }, disc := { z.disc with placed := [(1, 1)] } }).pi F.MBX_RELAY_ENABLE 0 1).pi F.MBX_RELAY_NODE 0 1, by decide +kernel⟩,
   ⟨0, 1, z, by decide +kernel⟩,
   ⟨0, 1, z, by decide +kernel⟩,
   ⟨1, 0, mkWord 0 0x80 5, z.updAg 1 (fun a => { a with inWords := [(0, mkWord 0 0x80 5)] }), by decide +kernel⟩⟩

theorem wit_MailboxFaultsComplete :
    (∃ (party : Nat) (node : Nat) (i : Nat) (x : Posted) (s : State), s.mbx.posted.find?
      (fun x => x.party == party && x.node == node && x.idx == i) = some x ∧ x.stalled = false ∧ x.item = none ∧
      x.round + s.g F.MBX_CFG_STALL ≤ s.round + 1) ∧
    (∃ (n : Nat) (s : State), s.boundNodes = [n] ∧ s.mbx.posted = [] ∧ (s.ag n).originated = [] ∧
      s.ga F.AG_MBX_FULL_OUT_FULL n 0 = 1 ∧ wordEpoch (s.rd .AG_MBX_OUT n 0) = s.ga F.AG_EPOCH_ELEMENT n 0 ∧ 0x80 ≤ wordType
      (s.rd .AG_MBX_OUT n 0)) :=
  ⟨⟨0, 0, 0, { psd with party := 0 }, ({ z with mbx := { z.mbx with posted := [{ psd with party := 0 }] } }).p F.BELL_ROUND_ROUND 4000000, by decide +kernel⟩,
   ⟨1, (({ z with disc := { z.disc with placed := [(1, 1)] } }).pa F.AG_MBX_FULL_OUT_FULL 1 0 1).pa F.AG_MBX_OUT_WORD 1 0
     (mkWord 0 0x80 5).toNat, by decide +kernel⟩⟩

theorem wit_PlanCommandsComplete :
    (∃ (s : State), s.slotState ≠ Slot.verifying ∧ s.slotState ≠ Slot.armed ∧ s.g F.PLAN_LOAD_LEN_LEN ≤ 268435456) ∧
    (∃ (s : State), s.slotState = Slot.loading) ∧
    (∃ (e : PErr) (s : State), s.slotState = Slot.verifying ∧ s.verifyImage = some e ∧ e.code ≠ PCode.sram ∧
      e.code ≠ PCode.dram) ∧
    (∃ (s : State), s.slotState = Slot.verifying ∧ s.plan.firstPlan = false) ∧
    (∃ (p : Plan) (s : State), s.plan.staged = some p ∧ s.slotState = Slot.admitted ∧ s.heldCupolas = [] ∧
      s.installing = false ∧ s.dropsLive p.tables = false ∧ s.twinMissing p = false ∧
      s.earliest p ≤ s.g F.PLAN_ACT_ROUND_ROUND ∧ p.sramDeficit (fun _ => false) s.sramCap = 0 ∧ p.dramNeed ≤ s.dramCap ∧
      (∀ e ∈ p.elements, unionFits s.tables p.tables e.node = true)) ∧
    (∃ (s : State), s.slotState = Slot.armed ∧ s.round + 2 < s.g F.BELL_ACT_ROUND_ROUND ∧ s.committed = false) ∧
    (∃ (s : State), (s.slotState = Slot.loading ∨ s.slotState = Slot.admitted ∨ s.slotState = Slot.refused)) :=
  ⟨⟨z, by decide +kernel⟩,
   ⟨z.p F.PLAN_STATUS_STAGED_STATE 1, by decide +kernel⟩,
   ⟨z.verifyImage.getD ⟨0, 0, 0, 0, 0⟩, z.p F.PLAN_STATUS_STAGED_STATE 2, by decide +kernel⟩,
   ⟨({ z with plan := { z.plan with firstPlan := false } }).p F.PLAN_STATUS_STAGED_STATE 2, by decide +kernel⟩,
   ⟨pl, (({ z with plan := { z.plan with staged := some pl } }).p F.PLAN_STATUS_STAGED_STATE 3).p F.PLAN_ACT_ROUND_ROUND
     (z.earliest pl), by decide +kernel⟩,
   ⟨(z.p F.PLAN_STATUS_STAGED_STATE 5).p F.BELL_ACT_ROUND_ROUND 3, by decide +kernel⟩,
   ⟨z.p F.PLAN_STATUS_STAGED_STATE 4, by decide +kernel⟩⟩

theorem wit_BeaconCommandsComplete :
    (∃ (node : Nat) (port : Nat) (slot : Nat) (s : State), s.portUp node port = true ∧ (s.ag node).active.port port ≠ [] ∧
      s.ga F.AG_PORT_CFG_DARK node port = 0 ∧ isMgmt (((s.ag node).active.port port).getD slot 0) = false ∧ slotFlow
      (((s.ag node).active.port port).getD slot 0) = 0) ∧
    (∃ (node : Nat) (port : Nat) (slot : Nat) (s : State), s.portUp node port = true ∧ (s.ag node).active.port port = [] ∧
      slot % 64 = 0) ∧
    (∃ (node : Nat) (b : Beacon), node < 510 ∧ b.crcOk = true ∧ b.reserved = 0) ∧
    (∃ (node : Nat) (b : Beacon), node < 510 ∧ b.crcOk = false) ∧
    (∃ (node : Nat) (b : Beacon), 510 ≤ node ∧ b.crcOk = true ∧ b.reserved = 0 ∧ b.kind ≠ 3) ∧
    (∃ (node : Nat) (port : Nat) (s : State), node < 510 ∧ s.portUp node port = true ∧ lookupD
      (s.ag node).heard port 0 + 4 ≤ s.round) ∧
    (∃ (node : Nat) (port : Nat) (s : State), s.portUp node port = true ∧ s.scheduled node port = true ∧ lookupD
      (s.ag node).heard port 0 + 2 ≤ s.round) ∧
    (∃ (node : Nat) (p : Nat) (s : State), s.portUp node p = true) :=
  ⟨⟨0, 0, 0, (z.pa F.AG_STATUS_PORTS_UP 0 0 1).updAg 0 (fun a => { a with active := ⟨[], [[0, 0]]⟩ }), by decide +kernel⟩,
   ⟨0, 0, 64, z.pa F.AG_STATUS_PORTS_UP 0 0 1, by decide +kernel⟩,
   ⟨509, bcn, by decide +kernel⟩,
   ⟨509, { bcn with crcOk := false }, by decide +kernel⟩,
   ⟨510, bcn, by decide +kernel⟩,
   ⟨1, 1, (z.pa F.AG_STATUS_PORTS_UP 1 0 2).p F.BELL_ROUND_ROUND 4, by decide +kernel⟩,
   ⟨1, 0, ((z.pa F.AG_STATUS_PORTS_UP 1 0 1).p F.BELL_ROUND_ROUND 2).updAg 1 (fun a => { a with active := ⟨[], [[5, 0]]⟩ }),
     by decide +kernel⟩,
   ⟨0, 3, z.pa F.AG_STATUS_PORTS_UP 0 0 8, by decide +kernel⟩⟩

theorem wit_DiscoveryCommandsComplete :
    (∃ (route : List Nat) (b : Beacon) (x : ProbeOut) (s : State), b.crcOk = true ∧ b.reserved = 0 ∧ s.disc.probes.find?
      (fun x => x.route == route) = some x ∧ b.elementId ∉ s.disc.censusOnly ∧ s.discState = DState.walking) ∧
    (∃ (route : List Nat) (x : ProbeOut) (s : State), s.disc.probes.find? (fun x => x.route == route) = some x ∧
      x.sent + 2 ≤ s.round ∧ x.tries < s.g F.DISC_CFG_PROBE_RETRY) ∧
    (∃ (s : State), s.discState = DState.settling ∧ s.disc.quietSince + s.g F.DISC_CFG_SETTLE ≤ s.round) ∧
    (∃ (p : Plan) (s : State), s.plan.cur = some p ∧ s.discState = DState.walking ∧ s.disc.probes = []) ∧
    (∃ (p : Plan) (s : State), s.plan.cur = some p ∧ s.discState = DState.matching ∧ s.disc.unserved = [] ∧
      s.tablesRun = true ∧ s.disc.changes = []) ∧
    (∃ (p : Plan) (s : State), s.plan.cur = some p ∧ s.discState = DState.matching ∧ s.disc.unserved ≠ [] ∧
      s.disc.changes = []) ∧
    (∃ (p : Plan) (s : State), s.plan.cur = some p ∧ s.slotState ≠ Slot.armed ∧ s.discState = DState.bound) ∧
    (∃ (p : Plan) (s : State), s.plan.cur = some p ∧ s.slotState ≠ Slot.armed ∧
      (s.discState = DState.idle ∨ s.discState = DState.notViable)) :=
  ⟨⟨[1], bcn, prb, ({ z with disc := { z.disc with probes := [prb] } }).p F.DISC_STATUS_STATE 2, by decide +kernel⟩,
   ⟨[1], prb, (({ z with disc := { z.disc with probes := [prb] } }).p F.BELL_ROUND_ROUND 2).p F.DISC_STATUS_STATE 2,
     by decide +kernel⟩,
   ⟨(z.p F.DISC_STATUS_STATE 1).p F.BELL_ROUND_ROUND 100000, by decide +kernel⟩,
   ⟨pl, ({ z with plan := { z.plan with cur := some pl } }).p F.DISC_STATUS_STATE 2, by decide +kernel⟩,
   ⟨pl, ({ z with plan := { z.plan with cur := some pl }, bell := { z.bell with tables := some pl.tables } }).p F.DISC_STATUS_STATE 3, by decide +kernel⟩,
   ⟨pl, ({ z with plan := { z.plan with cur := some pl }, disc := { z.disc with unserved := [1] } }).p F.DISC_STATUS_STATE 3,
     by decide +kernel⟩,
   ⟨pl, ({ z with plan := { z.plan with cur := some pl } }).p F.DISC_STATUS_STATE 4, by decide +kernel⟩,
   ⟨pl, ({ z with plan := { z.plan with cur := some pl } }).p F.DISC_STATUS_STATE 5, by decide +kernel⟩⟩

theorem wit_PortCommandsComplete :
    (∃ (node : Nat) (port : Nat) (s : State), 510 ≤ node ∧ port < 48 ∧ s.portState port ≠ PState.disabled ∧
      s.portState port ≠ PState.unlicensed) ∧
    (∃ (node : Nat), node < 510) ∧
    (∃ (node : Nat) (port : Nat) (s : State), 510 ≤ node ∧ s.portState port = PState.up) ∧
    (∃ (node : Nat) (port : Nat) (s : State), node < 510 ∧ s.portUp node port = true) ∧
    (∃ (port : Nat) (s : State), port < 44 ∧ s.unlicensed port = false ∧
      (s.portState port = PState.dark ∨ s.portState port = PState.disabled ∨ s.portState port = PState.failed)) ∧
    (∃ (port : Nat) (s : State), port < 48 ∧ s.unlicensed port = false ∧ s.portState port ≠ PState.disabling ∧
      s.portState port ≠ PState.disabled) ∧
    (∃ (port : Nat) (s : State), port < 48 ∧ s.unlicensed port = false ∧
      (s.portState port = PState.disabled ∨ s.portState port = PState.failed)) ∧
    (∃ (port : Nat) (s : State), port < 48 ∧ s.portState port = PState.training ∧ 2 ≤ (s.recentRetrains port).length) ∧
    (∃ (channel : Nat) (s : State), channel < 256 ∧ channel / 4 ∉ s.pwr.packagesRetired) ∧
    (∃ (channel : Nat) (s : State), channel < 256 ∧ channel / 4 ∉ s.pwr.packagesRetired ∧
      lookupD s.pwr.channelFails channel 0 = 0) ∧
    (∃ (v : Word) (s : State), 1500 ≤ getBits v 16 16 ∧ getBits v 16 16 ≤ 9216 ∧ s.confidential = false ∧
      getBits v 0 1 = s.g F.ETH_CFG_SPEED) ∧
    (∃ (s : State), s.pwr.osfpHeld = false) ∧
    (∃ (watts : Nat), 30 < watts) ∧
    (∃ (watts : Nat), watts ≤ 30) :=
  ⟨⟨510, 47, z, by decide +kernel⟩,
   ⟨509, by decide +kernel⟩,
   ⟨510, 47, z.pi F.PORT_STATUS_STATE 47 2, by decide +kernel⟩,
   ⟨1, 3, z.pa F.AG_STATUS_PORTS_UP 1 0 8, by decide +kernel⟩,
   ⟨43, z, by decide +kernel⟩,
   ⟨47, z, by decide +kernel⟩,
   ⟨47, z.pi F.PORT_STATUS_STATE 47 4, by decide +kernel⟩,
   ⟨47, ({ z with pwr := { z.pwr with retrains := [(47, [0, 0])] } }).pi F.PORT_STATUS_STATE 47 1, by decide +kernel⟩,
   ⟨255, z, by decide +kernel⟩,
   ⟨255, z, by decide +kernel⟩,
   ⟨BitVec.ofNat 64 (1500 * 65536 + z.g F.ETH_CFG_SPEED), z, by decide +kernel⟩,
   ⟨z, by decide +kernel⟩,
   ⟨31, by decide +kernel⟩,
   ⟨30, by decide +kernel⟩⟩

theorem wit_FrameCommandsComplete :
    (∃ (node : Nat) (ingress : Nat) (port : Nat) (d : Bool) (f : DataFrame) (s : State),
      s.ga F.AG_PORT_CFG_KEYED node ingress = 0 ∧ s.route node f.flow f.detour = some (port, d) ∧ port ≠ 31 ∧
      s.relayBytes node ingress + frameBytes f ≤ s.ga F.AG_IDENT_RELAY_KIB node 0 * 1024) ∧
    (∃ (node : Nat) (ingress : Nat) (f : DataFrame) (s : State), s.ga F.AG_PORT_CFG_KEYED node ingress = 0 ∧
      s.route node f.flow f.detour = none) ∧
    (∃ (node : Nat) (flow : Nat) (w : Nat × Bool) (s : State), s.ga F.AG_STATUS_COMPUTE_RESET node 0 = 0 ∧ flow ≠ 0x0001 ∧
      flow ≠ 0xFFFC ∧ s.admits node ((s.ag node).flowCupola flow) = true ∧ (s.ag node).stopped flow s.round = false ∧
      s.ga F.AG_INSTALL_STATE node 0 < 2 ∧ s.route node flow false = some w) ∧
    (∃ (node : Nat) (tag : Nat) (i : SourceItem) (s : State), s.ga F.AG_STATUS_COMPUTE_RESET node 0 = 0 ∧
      (s.ag node).sources.find? (fun i => i.tag == tag && !i.left && decide (i.window < s.round)) = some i) ∧
    (∃ (node : Nat) (flow : Nat) (tag : Nat) (i : SourceItem) (s : State), node < 510 ∧
      s.ga F.AG_STATUS_COMPUTE_RESET node 0 = 0 ∧ (s.ag node).sources.find?
      (fun i => i.flow == Nat.xor flow 1 && i.tag == tag) = some i ∧ s.round ≤ i.window + drainBound (s.tables.classOfFlow
      (Nat.xor flow 1))) ∧
    (∃ (node : Nat) (tag : Nat) (i : SourceItem) (s : State), s.ga F.AG_STATUS_COMPUTE_RESET node 0 = 0 ∧
      (s.ag node).sources.find? (fun i => i.tag == tag && decide (i.window + drainBound
      (s.tables.classOfFlow i.flow) < s.round)) = some i) ∧
    (∃ (node : Nat) (flow : Nat) (s : State), (s.ag node).queue.any (fun q => q.flow == flow && decide (q.since + drainBound
      (s.tables.classOfFlow flow) < s.round)) = true) :=
  ⟨⟨0, 0, 3, false, frm, z.updAg 0 (fun a => { a with flows := [⟨0x00300100, true, false⟩] }), by decide +kernel⟩,
   ⟨0, 0, frm, z, by decide +kernel⟩,
   ⟨0, 0x100, (3, false), (z.pa F.AG_FILTER_CUPOLA 0 0 1).updAg 0
     (fun a => { a with flows := [⟨0x00300100, true, false⟩], active := ⟨[], [[0x10100]]⟩ }), by decide +kernel⟩,
   ⟨0, 5, ⟨0x100, 0, 5, 1, 0, false⟩, (z.p F.BELL_ROUND_ROUND 2).updAg 0
     (fun a => { a with sources := [⟨0x100, 0, 5, 1, 0, false⟩] }), by decide +kernel⟩,
   ⟨0, 0x101, 5, ⟨0x100, 0, 5, 1, 0, false⟩, (z.p F.BELL_ROUND_ROUND 9).updAg 0
     (fun a => { a with sources := [⟨0x100, 0, 5, 1, 0, false⟩] }), by decide +kernel⟩,
   ⟨0, 5, ⟨0x100, 0, 5, 1, 0, false⟩, (z.p F.BELL_ROUND_ROUND 10).updAg 0
     (fun a => { a with sources := [⟨0x100, 0, 5, 1, 0, false⟩] }), by decide +kernel⟩,
   ⟨0, 0x100, (z.p F.BELL_ROUND_ROUND 9).updAg 0 (fun a => { a with queue := [⟨3, 0x100, 0, frm, 0, true, 0⟩] }),
     by decide +kernel⟩⟩

theorem wit_FlowCommandsComplete :
    (∃ (s : State), s.tables.sourcesOf (s.g F.BELL_ARG_ARG % 65536) ≠ []) ∧
    (∃ (s : State), s.tables.sourcesOf (s.g F.BELL_ARG_ARG % 65536) ≠ []) ∧
    (∃ (s : State), s.bell.quiesced.any (fun q => q.1 == s.g F.BELL_QUIESCE_FLOW && q.2.2 ≤ s.round) = true ∧
      s.b F.BELL_QUIESCE_PENDING = true) ∧
    (∃ (s : State), s.g F.BELL_ARG_ARG / 512 = s.spire ∧ s.placedAt (localOf (s.g F.BELL_ARG_ARG)) = true) ∧
    (∃ (node : Nat) (flow : Nat) (s : State), (s.ag node).quiesced = [(flow, s.round, none)]) :=
  ⟨⟨({ z with bell := { z.bell with tables := some ⟨10, 1, [], [⟨1, [0x00300100]⟩], []⟩ } }).p F.BELL_ARG_ARG 0x100,
    by decide +kernel⟩,
   ⟨({ z with bell := { z.bell with tables := some ⟨10, 1, [], [⟨1, [0x00300100]⟩], []⟩ } }).p F.BELL_ARG_ARG 0x100,
     by decide +kernel⟩,
   ⟨((({ z with bell := { z.bell with quiesced := [(0x100, 0, 8)] } }).p F.BELL_QUIESCE_FLOW 0x100).p F.BELL_QUIESCE_PENDING 1).p F.BELL_ROUND_ROUND 8, by decide +kernel⟩,
   ⟨({ z with disc := { z.disc with placed := [(1, 1)] } }).p F.BELL_ARG_ARG 1, by decide +kernel⟩,
   ⟨1, 0x100, z.updAg 1 (fun a => { a with quiesced := [(0x100, 0, none)] }), by decide +kernel⟩⟩

theorem wit_AgentInstallComplete :
    (∃ (node : Nat) (s : State), s.ga F.AG_INSTALL_STATE node 0 = 0) ∧
    (∃ (node : Nat) (seg : Segment) (s : State), seg.crcOk = true ∧ seg.route = [] ∧ seg.target ≠ 0xFFFFFFFF ∧
      seg.target = s.agNode node ∧ s.ga F.AG_INSTALL_STATE node 0 = 1 ∧ seg.installId = s.ga F.AG_INSTALL_INSTALL_ID node 0) ∧
    (∃ (p : Nat) (rest : List Nat) (seg : Segment), seg.crcOk = true ∧ seg.route = p :: rest) ∧
    (∃ (node : Nat) (f : ActivateP) (s : State), s.ga F.AG_INSTALL_STATE node 0 = 2 ∧
      f.installId = s.ga F.AG_INSTALL_INSTALL_ID node 0 ∧ f.discard = false ∧ s.round < f.round) ∧
    (∃ (node : Nat) (f : ActivateP) (s : State), f.discard = true ∧ 1 ≤ s.ga F.AG_INSTALL_STATE node 0 ∧
      s.ga F.AG_INSTALL_STATE node 0 ≤ 3 ∧ f.installId = s.ga F.AG_INSTALL_INSTALL_ID node 0) ∧
    (∃ (node : Nat) (s : State), s.ga F.AG_INSTALL_STATE node 0 = 4 ∧ s.ga F.AG_ACT_ROUND_ROUND node 0 ≤ s.round) :=
  ⟨⟨0, z, by decide +kernel⟩,
   ⟨1, { sgm with target := 1 }, ((z.pa F.AG_NODE_NODE 1 0 1).pa F.AG_INSTALL_STATE 1 0 1).updAg 1
     (fun a => { a with manifest := some man }), by decide +kernel⟩,
   ⟨3, [2], { sgm with route := [3, 2] }, by decide +kernel⟩,
   ⟨0, actv, z.pa F.AG_INSTALL_STATE 0 0 2, by decide +kernel⟩,
   ⟨0, { actv with discard := true }, z.pa F.AG_INSTALL_STATE 0 0 3, by decide +kernel⟩,
   ⟨0, z.pa F.AG_INSTALL_STATE 0 0 4, by decide +kernel⟩⟩

theorem wit_InstallCommandsComplete :
    (∃ (r : Receipt) (i : Install) (n : Nat) (s : State), s.bell.install = some i ∧ r.crcOk = true ∧ r.installId = i.id ∧
      s.receiptFrom i r.node = some n ∧ i.kind ≠ 3) ∧
    (∃ (i : Install) (s : State), s.bell.install = some i ∧ i.phaseEnd ≤ s.round ∧ s.g F.BELL_STATUS_INSTALL_STATE = 1) ∧
    (∃ (i : Install) (s : State), s.bell.install = some i ∧ i.phaseEnd ≤ s.round ∧ s.g F.BELL_STATUS_INSTALL_STATE = 2) ∧
    (∃ (i : Install) (s : State), s.bell.install = some i ∧ i.phaseEnd ≤ s.round ∧ s.g F.BELL_STATUS_INSTALL_STATE = 3 ∧
      s.g F.BELL_STATUS_PASS < 7) ∧
    (∃ (i : Install) (p : Plan) (s : State), s.bell.install = some i ∧ s.planFor i.kind = some p ∧ i.kind ≠ 3 ∧
      s.committed = false ∧ s.g F.BELL_ACT_ROUND_ROUND ≠ 0 ∧ s.g F.BELL_ACT_ROUND_ROUND ≤ s.round + 2 ∧
      (i.kind ≠ 0 ∨ i.tables.code = s.g F.BELL_STATUS_ROUND_CODE)) ∧
    (∃ (i : Install) (p : Plan) (s : State), s.bell.install = some i ∧ s.planFor 0 = some p ∧ i.kind = 0 ∧
      s.committed = false ∧ s.g F.BELL_ACT_ROUND_ROUND ≤ s.round + 4 ∧ p.coordinatorFlag = false ∧ s.shadowing = false) ∧
    (∃ (i : Install) (s : State), s.bell.install = some i ∧ s.committed = true ∧ s.g F.BELL_ACT_ROUND_ROUND ≠ 0 ∧
      s.g F.BELL_ACT_ROUND_ROUND ≤ s.round) ∧
    (∃ (p : Plan) (s : State), s.plan.cur = some p ∧ s.planFor 2 = some p ∧ s.bell.completionDue = true ∧
      s.installing = false ∧ s.b F.BELL_STATUS_HELD = true ∧ s.bell.recentAt < s.round) ∧
    (∃ (node : Nat) (p : Plan) (s : State), s.planFor 3 = some p ∧ s.installing = false ∧ node ∈ s.bell.single) ∧
    (∃ (p : Plan) (s : State), s.plan.cur = some p ∧ s.planFor 2 = some p ∧ s.heldCupolas ≠ [] ∧ s.installing = false) ∧
    (∃ (r : Receipt) (i : Install) (n : Nat) (s : State), s.bell.install = some i ∧ r.crcOk = true ∧ r.installId = i.id ∧
      s.receiptFrom i r.node = some n ∧ i.kind = 3 ∧ r.state = 2 ∧ s.g F.BELL_ACT_ROUND_ROUND = 0) :=
  ⟨⟨{ rcp with node := 0 }, { ins with kind := 1 }, 0,
    { z with plan := { z.plan with cur := some pl }, bell := { z.bell with install := some { ins with kind := 1 } } },
    by decide +kernel⟩,
   ⟨ins, ({ z with bell := { z.bell with install := some ins } }).p F.BELL_STATUS_INSTALL_STATE 1, by decide +kernel⟩,
   ⟨ins, ({ z with bell := { z.bell with install := some ins } }).p F.BELL_STATUS_INSTALL_STATE 2, by decide +kernel⟩,
   ⟨ins, ({ z with bell := { z.bell with install := some ins } }).p F.BELL_STATUS_INSTALL_STATE 3, by decide +kernel⟩,
   ⟨{ ins with kind := 1 }, pl, ({ z with plan := { z.plan with cur := some pl }, bell := { z.bell with install := some { ins with kind := 1 } } }).p F.BELL_ACT_ROUND_ROUND 2, by decide +kernel⟩,
   ⟨ins, { pl with spires := 2, coordinator := 1 },
     ({ z with plan := { z.plan with cur := some { pl with spires := 2, coordinator := 1 } }, bell := { z.bell with install := some ins } }).p F.BELL_ACT_ROUND_ROUND 4, by decide +kernel⟩,
   ⟨ins, ((({ z with bell := { z.bell with install := some ins }, plan := { z.plan with cur := some pl } }).p F.BELL_STATUS_INSTALL_STATE 5).p F.BELL_ACT_ROUND_ROUND 2).p F.BELL_ROUND_ROUND 2, by decide +kernel⟩,
   ⟨pl, (({ z with plan := { z.plan with cur := some pl }, bell := { z.bell with completionDue := true } }).p F.BELL_STATUS_HELD 1).p F.BELL_ROUND_ROUND 1, by decide +kernel⟩,
   ⟨1, pl, { z with plan := { z.plan with cur := some pl }, bell := { z.bell with single := [1] } }, by decide +kernel⟩,
   ⟨pl, ({ z with plan := { z.plan with cur := some pl } }).pi F.BELL_HELD_HELD 0 2, by decide +kernel⟩,
   ⟨{ rcp with node := 0 }, { ins with kind := 3 }, 0,
     { z with plan := { z.plan with cur := some pl }, bell := { z.bell with install := some { ins with kind := 3 } } },
     by decide +kernel⟩⟩

theorem wit_AgentDomainsComplete :
    (∃ (node : Nat) (s : State), s.ga F.AG_IDENT_KIND node 0 ≠ 2) ∧
    (∃ (node : Nat) (s : State), s.ga F.AG_IDENT_KIND node 0 ≠ 2) ∧
    (∃ (node : Nat) (s : State), s.ga F.AG_IDENT_KIND node 0 ≠ 2) :=
  ⟨⟨0, z, by decide +kernel⟩,
   ⟨0, z, by decide +kernel⟩,
   ⟨0, z, by decide +kernel⟩⟩

theorem wit_AgentRegistersComplete :
    (∃ (node : Nat) (i : Nat) (v : Word) (s : State), i < 64 ∧ (getBits v 48 16 = 0 ∨ ∀ j < 64, j ≠ i → getBits
      (s.filterWord node j) 48 16 ≠ getBits v 48 16)) ∧
    (∃ (node : Nat) (i : Nat) (v : Word) (r : Nat) (s : State), (s.ag node).filterNext = [(i, v, r)] ∧ r < s.round ∧
      getBits v 48 16 ≠ 0) ∧
    (∃ (v : Word), getBits v 0 1 = 1) ∧
    (∃ (v : Word), getBits v 0 1 = 0) :=
  ⟨⟨0, 63, 0x0001000000000000, z, by decide +kernel⟩,
   ⟨0, 63, 0x0001000000000000, 0, (z.p F.BELL_ROUND_ROUND 1).updAg 0
     (fun a => { a with filterNext := [(63, 0x0001000000000000, 0)] }), by decide +kernel⟩,
   ⟨1, by decide +kernel⟩,
   ⟨0, by decide +kernel⟩⟩

theorem wit_AgentKeysComplete :
    (∃ (node : Nat) (w : Word) (key : Bytes) (s : State), s.keyOpened node = some key ∧ s.ga F.AG_IDENT_KEY_PROG node 0 = 1 ∧
      (s.ag node).keyCounter < field (s.keyPayload node w) 0x14 8 ∧ s.keyTimely (field (s.keyPayload node w) 0x14 8) = true ∧
      field (s.keyPayload node w) 0 1 = 1 ∧ 64 ≤ field (s.keyPayload node w) 1 1 ∧ field (s.keyPayload node w) 1 1 < 128 ∧
      field (s.keyPayload node w) 1 1 % 4 ≠ 1 ∧ s.keyLoaded node (field (s.keyPayload node w) 1 1) = false) ∧
    (∃ (node : Nat) (slot : Nat) (r : Nat) (k : KeySlot) (s : State), slot % 4 = 1 ∧ (s.ag node).keys.find?
      (fun k => k.slot == slot) = some k ∧ k.promoteAt = some r ∧ r ≤ s.round ∧ s.keyLoaded node slot = true) ∧
    (∃ (node : Nat) (port : Nat) (s : State), s.hopStalled node port = true ∧ s.keyLoaded node (64 + 4 * port + 1) = true) ∧
    (∃ (node : Nat) (port : Nat) (s : State), s.keyLoaded node (64 + 4 * port + 1) = true) ∧
    (∃ (node : Nat) (port : Nat) (s : State), s.keyLoaded node (64 + 4 * port + 1) = false) ∧
    (∃ (node : Nat) (s : State), (s.keyOpened node).isNone = true) :=
  ⟨⟨0, 0, [7], (z.pa F.AG_IDENT_KEY_PROG 0 0 1).updAg 0
    (fun a => { a with keyFrames := [⟨[(0, 0x4001), (2, 0x100000000)], some [7]⟩] }), by decide +kernel⟩,
   ⟨0, 1, 0, ⟨1, 0, some 0⟩, (z.pa F.AG_KEY_INFO_LOADED 0 1 1).updAg 0 (fun a => { a with keys := [⟨1, 0, some 0⟩] }),
     by decide +kernel⟩,
   ⟨0, 1, ((z.pa F.AG_PORT_CFG_KEYED 0 1 1).pa F.AG_PORT_CFG_FORCE_REKEY 0 1 1).pa F.AG_KEY_INFO_LOADED 0 69 1,
     by decide +kernel⟩,
   ⟨0, 1, z.pa F.AG_KEY_INFO_LOADED 0 69 1, by decide +kernel⟩,
   ⟨0, 0, z, by decide +kernel⟩,
   ⟨0, z, by decide +kernel⟩⟩

theorem wit_CarveCommandsComplete :
    (∃ (c : Nat) (job : Nat) (tpl : TplRec) (s : State), s.template c = some tpl ∧ s.cupState c = CState.vacant ∧
      c ∉ s.heldCupolas ∧ s.templateUse tpl < tpl.limit ∧ s.cupOps < 32 ∧ s.carvePolicy tpl job = false) ∧
    (∃ (c : Nat) (x : Carve) (s : State), s.carveOf c = some x ∧ x.start = none ∧ s.arrayHeld = false) ∧
    (∃ (c : Nat) (x : Carve) (s : State), s.carveOf c = some x ∧ x.start = none ∧ x.accepted + 8 ≤ s.round + 1) ∧
    (∃ (c : Nat) (q : Nat) (x : Carve) (s : State), s.carveOf c = some x ∧ x.start = some q ∧ q + 1 ≤ s.round ∧
      x.nodes = []) ∧
    (∃ (c : Nat) (n : Nat) (i : Nat) (x : Carve) (s : State), s.carveOf c = some x ∧ x.unconfirmed = [n] ∧
      s.filterIndex n c = some i ∧ s.key.jobs = [] ∧ s.shadowing = false) ∧
    (∃ (c : Nat) (x : Carve) (s : State), s.carveOf c = some x) ∧
    (∃ (c : Nat) (x : Carve) (s : State), s.carveOf c = some x ∧ x.start ≠ none ∧ x.round ≤ s.round + 1 ∧
      x.unconfirmed ≠ []) ∧
    (∃ (c : Nat) (x : Carve) (s : State), s.carveOf c = some x ∧ x.start ≠ none ∧ x.round ≤ s.round ∧ x.failed = false ∧
      x.unconfirmed = []) :=
  ⟨⟨1, 1, tpl, ({ z with plan := { z.plan with cur := some { pl with templates := [tpl] } } }).pi F.CUP_ENTRY_STATE 1 1,
    by decide +kernel⟩,
   ⟨1, crv, { z with cup := { z.cup with carves := [crv] } }, by decide +kernel⟩,
   ⟨1, crv, ({ z with cup := { z.cup with carves := [crv] } }).p F.BELL_ROUND_ROUND 7, by decide +kernel⟩,
   ⟨1, 0, { crv with start := some 0 }, ({ z with cup := { z.cup with carves := [{ crv with start := some 0 }] } }).p F.BELL_ROUND_ROUND 1, by decide +kernel⟩,
   ⟨1, 2, 0, { crv with start := some 0, unconfirmed := [2] },
     { z with cup := { z.cup with carves := [{ crv with start := some 0, unconfirmed := [2] }], filters := [(1, 2, 0)] } },
     by decide +kernel⟩,
   ⟨1, crv, { z with cup := { z.cup with carves := [crv] } }, by decide +kernel⟩,
   ⟨1, { crv with start := some 0, round := 1, unconfirmed := [2] },
     { z with cup := { z.cup with carves := [{ crv with start := some 0, round := 1, unconfirmed := [2] }] } },
     by decide +kernel⟩,
   ⟨1, { crv with start := some 0 }, { z with cup := { z.cup with carves := [{ crv with start := some 0 }] } },
     by decide +kernel⟩⟩

theorem wit_RetireCommandsComplete :
    (∃ (c : Nat) (s : State), (s.cupState c = CState.active ∨ s.cupState c = CState.repairing ∨ s.cupState c = CState.held) ∧
      s.retireOf c = none ∧ s.cupOps < 32) ∧
    (∃ (c : Nat) (x : Retire) (s : State), s.retireOf c = some x ∧ x.stopped = false ∧ x.accepted + 1 ≤ s.round) ∧
    (∃ (c : Nat) (x : Retire) (s : State), s.retireOf c = some x ∧ x.drained = false ∧ x.accepted + 1 + x.bound ≤ s.round) ∧
    (∃ (c : Nat) (x : Retire) (s : State), s.retireOf c = some x ∧ x.cleared = false ∧ x.round ≤ s.round) ∧
    (∃ (c : Nat) (x : Retire) (s : State), s.retireOf c = some x ∧ x.cleared = true ∧ x.round + 1 ≤ s.round) ∧
    (∃ (s : State), s.retryCupolas ≠ [] ∧ s.g F.REP_STATUS_ENGINE = Eng.idle) :=
  ⟨⟨1, z.pi F.CUP_ENTRY_STATE 1 5, by decide +kernel⟩,
   ⟨1, ret, ({ z with cup := { z.cup with retires := [ret] } }).p F.BELL_ROUND_ROUND 1, by decide +kernel⟩,
   ⟨1, ret, ({ z with cup := { z.cup with retires := [ret] } }).p F.BELL_ROUND_ROUND 3, by decide +kernel⟩,
   ⟨1, ret, { z with cup := { z.cup with retires := [ret] } }, by decide +kernel⟩,
   ⟨1, { ret with cleared := true }, ({ z with cup := { z.cup with retires := [{ ret with cleared := true }] } }).p F.BELL_ROUND_ROUND 1, by decide +kernel⟩,
   ⟨z.pi F.CUP_ENTRY_STATE 1 5, by decide +kernel⟩⟩

theorem wit_FailureCommandsComplete :
    (∃ (hb : Heartbeat) (n : Nat) (s : State), hb.crcOk = true ∧ s.senderNode hb.node = some n ∧
      s.missedActivate n hb = false ∧ s.rep.reread ≠ some s.round) ∧
    (∃ (x : Notice) (n : Nat) (s : State), s.senderNode x.node = some n ∧ x.cause = Cause.unknownFlow) ∧
    (∃ (x : Notice) (n : Nat) (s : State), s.senderNode x.node = some n ∧ x.cause = Cause.computeFault) ∧
    (∃ (n : Nat) (p : Plan) (s : State), s.plan.cur = some p ∧ s.rep.notices = [] ∧ s.silentNow = [n] ∧
      s.knownFault n 255 = false ∧ s.g F.REP_STATUS_ENGINE = Eng.idle) ∧
    (∃ (f : Failure) (p : Plan) (s : State), s.plan.cur = some p ∧ s.rep.suspects = [f] ∧ s.rep.declared = [] ∧
      f.d + 1 + s.slowRounds ≤ s.round ∧ f.port = 255 ∧ s.silent f.node = true ∧ s.parentLost f.node = false) ∧
    (∃ (n : Nat) (s : State), n ∈ s.boundNodes ∧ s.shadowing = false) ∧
    (∃ (f : Failure) (p : Plan) (s : State), s.plan.cur = some p ∧ s.rep.deferred = [f] ∧ f.d + 3 + s.slowRounds ≤ s.round ∧
      f.port = 255 ∧ s.silent f.node = true) ∧
    (∃ (logical : Nat) (n : Nat) (s : State), s.senderNode logical = some n ∧ s.placedAt n = true) :=
  ⟨⟨hbt, 0, z, by decide +kernel⟩,
   ⟨{ ntc with cause := Cause.unknownFlow }, 0, z, by decide +kernel⟩,
   ⟨{ ntc with cause := Cause.computeFault }, 0, z, by decide +kernel⟩,
   ⟨1, pl, { z with plan := { z.plan with cur := some pl }, rep := { z.rep with heardBefore := [1] } }, by decide +kernel⟩,
   ⟨flr, pl, ({ z with plan := { z.plan with cur := some pl }, rep := { z.rep with suspects := [flr] } }).p F.BELL_ROUND_ROUND 3, by decide +kernel⟩,
   ⟨1, { z with disc := { z.disc with placed := [(1, 1)] } }, by decide +kernel⟩,
   ⟨flr, pl, ({ z with plan := { z.plan with cur := some pl }, rep := { z.rep with deferred := [flr] } }).p F.BELL_ROUND_ROUND 5, by decide +kernel⟩,
   ⟨1, 1, { z with disc := { z.disc with placed := [(1, 1)] } }, by decide +kernel⟩⟩

theorem wit_RepairCommandsComplete :
    (∃ (f : Failure) (g : Failure) (p : Plan) (s : State), s.plan.cur = some p ∧ s.bell.install = none ∧ s.rep.chosen = none ∧
      s.g F.REP_STATUS_ENGINE = Eng.selecting ∧ s.rep.queued = [f, g] ∧ s.asksRepair p f = true ∧ s.asksRepair p g = true) ∧
    (∃ (r : Repair) (p : Plan) (s : State), s.rep.chosen = some r ∧ s.planFor 1 = some p ∧ s.installing = false) ∧
    (∃ (p : Plan) (s : State), s.plan.cur = some p ∧ s.g F.REP_STATUS_ENGINE = Eng.resolving) ∧
    (∃ (logical : Nat) (n : Nat) (s : State), s.resettable logical = some n ∧ s.resetBusy = false ∧ s.isMember n = false) ∧
    (∃ (logical : Nat) (n : Nat) (s : State), s.resettable logical = some n ∧ s.resetBusy = false ∧ s.isMember n = false) ∧
    (∃ (n : Nat) (s : State), s.rep.resetNode = some n ∧ s.g F.REP_RESET_STATE = RReset.draining ∧ (∀ m ∈ s.boundNodes,
      m ∉ s.rep.failedNodes → ∃ b ∈ s.rep.beats, b.1 = m ∧ b.2.1 = s.tables.epoch)) ∧
    (∃ (s : State), s.g F.REP_RESET_STATE = RReset.rerouting ∧ s.rep.chosen = none) :=
  ⟨⟨flr, { flr with port := 0 }, pl, ({ z with plan := { z.plan with cur := some pl }, bell := { z.bell with tables := some ⟨10, 1, [⟨0, [[0x10100]]⟩], [], []⟩ }, rep := { z.rep with queued := [flr, { flr with port := 0 }] } }).p F.REP_STATUS_ENGINE 2, by decide +kernel⟩,
   ⟨⟨pl.tables, 1, [], [], false, [], none⟩, pl,
     { z with plan := { z.plan with cur := some pl }, rep := { z.rep with chosen := some ⟨pl.tables, 1, [], [], false, [], none⟩ } }, by decide +kernel⟩,
   ⟨pl, ({ z with plan := { z.plan with cur := some pl } }).p F.REP_STATUS_ENGINE 3, by decide +kernel⟩,
   ⟨1, 1, { z with disc := { z.disc with placed := [(1, 1)] } }, by decide +kernel⟩,
   ⟨1, 1, { z with disc := { z.disc with placed := [(1, 1)] } }, by decide +kernel⟩,
   ⟨1, ({ z with disc := { z.disc with placed := [(1, 1)] }, rep := { z.rep with resetNode := some 1, failedNodes := [1] } }).p F.REP_RESET_STATE 2, by decide +kernel⟩,
   ⟨z.p F.REP_RESET_STATE 1, by decide +kernel⟩⟩

theorem wit_GuardianItemsComplete :
    (∃ (it : GItem) (g : Group) (s : State), headerOk GType.delta it = true ∧ s.group it.group = some g ∧
      State.deltaFormed g it = true ∧ it.rollback = false ∧ it.resent = false ∧ s.deltaAdmitted g it = true ∧
      crc64 it.payload = it.check ∧ s.gphase g.gid = GPhase.quiet ∧ g.regions = [] ∧ g.ends = [] ∧ g.progress = [] ∧
      g.held = [] ∧ it.offset + it.payload.length ≤ g.rcd.region ∧ s.graph.tasks = [] ∧ s.graph.ring = [] ∧
      s.plan.cur = none) ∧
    (∃ (it : GItem) (g : Group) (s : State), headerOk GType.gend it = true ∧ s.group it.group = some g ∧ it.member < g.rcd.k ∧
      it.rollback = false ∧ g.words = [] ∧ it.step = s.recovery g.gid + 1 ∧ s.gphase g.gid = GPhase.ingest ∧
      s.gstate g.gid = GState.protectedS ∧ (s.lostOf g).contains it.member = false ∧ g.ends = [] ∧ 2 ≤ g.rcd.k ∧
      s.graph.tasks = [] ∧ s.graph.ring = []) ∧
    (∃ (it : GItem) (g : Group) (r : TensorRec) (f : Fmt) (s : State), headerOk GType.sample it = true ∧
      s.group it.group = some g ∧ s.tensorRec g.gid it.member it.tensor = some r ∧ r.flags / 2 % 2 = 1 ∧
      Fmt.ofTag r.fmt = some f ∧ s.sentinelOn g = true ∧ it.step = s.recovery g.gid + 1 ∧ crc64 it.payload = it.check ∧
      s.gphase g.gid = GPhase.quiet ∧ g.samples.contains (it.member, it.tensor) = false ∧
      (s.lostOf g).contains it.member = false ∧ g.statsWait = none) ∧
    (∃ (it : GItem) (g : Group) (s : State), headerOk GType.shard it = true ∧ s.group it.group = some g ∧
      State.outstanding g it.member GWord.sendShard = true ∧ it.step = s.recovery g.gid ∧ 0 < it.payload.length ∧
      it.offset + it.payload.length ≤ g.rcd.shard ∧ it.resent = false ∧ crc64 it.payload = it.check ∧
      s.gphase g.gid = GPhase.quiet ∧ s.graph.tasks = [] ∧ s.graph.ring = []) ∧
    (∃ (it : GItem) (g : Group) (w : Nat) (s : State), headerOk GType.undo it = true ∧ s.group it.group = some g ∧
      State.outstanding g it.member GWord.sendUndo = true ∧ g.rollW = some w ∧ g.regionOf it.offset < w ∧
      it.offset % max 1 g.rcd.region = 0 ∧ it.payload.length = g.span (g.regionOf it.offset) ∧
      it.step = s.recovery g.gid + 1 ∧ it.resent = false ∧ crc64 it.payload = it.check ∧ (∃ i ∈ s.survivors g,
      i ∉ g.rollEnds)) :=
  ⟨⟨headed GType.delta { itm with payload := [1, 2, 3, 4, 5, 6, 7, 8], check := crc64 [1, 2, 3, 4, 5, 6, 7, 8] }, grp,
    ({ z with grd := { z.grd with groups := [grp] } }).pi F.GRD_GROUP_STATE 0 3, by decide +kernel⟩,
   ⟨headed GType.gend itm, grp, (({ z with grd := { z.grd with groups := [grp] } }).pi F.GRD_GROUP_STATE 0 3).pi F.GRD_GROUP_PHASE 0 1, by decide +kernel⟩,
   ⟨headed GType.sample itm, grp, ⟨0, 0xFF, 0, 0x10, 2, 0, 1⟩, ⟨32, 8, 23, 127, true, 1, false, false⟩,
     { z with grd := { z.grd with groups := [grp] }, plan := { z.plan with cur := some { pl with templates := [{ tpl with flags := 255 }], tensors := [⟨0, 0xFF, 0, 0x10, 2, 0, 1⟩] } } }, by decide +kernel⟩,
   ⟨headed GType.shard { itm with step := 0, payload := [1], check := crc64 [1] },
     { grp with words := [⟨GWord.sendShard, 0, 0, 0, false⟩] },
     { z with grd := { z.grd with groups := [{ grp with words := [⟨GWord.sendShard, 0, 0, 0, false⟩] }] } },
     by decide +kernel⟩,
   ⟨headed GType.undo { itm with payload := [1, 2, 3, 4, 5, 6, 7, 8], check := crc64 [1, 2, 3, 4, 5, 6, 7, 8] },
     { grp with words := [⟨GWord.sendUndo, 0, 0, 0, false⟩], rollW := some 1 }, 1,
     { z with grd := { z.grd with groups := [{ grp with words := [⟨GWord.sendUndo, 0, 0, 0, false⟩], rollW := some 1 }] } },
     by decide +kernel⟩⟩

theorem wit_GuardianLanesComplete :
    (∃ (gid : Nat) (g : Group) (s : State), s.group gid = some g ∧ (g.buffer (s.watermark gid)).complete = true ∧ (g.buffer
      (s.watermark gid)).written = false) ∧
    (∃ (gid : Nat) (g : Group) (s : State), s.group gid = some g) ∧
    (∃ (spire : Nat) (gid : Nat) (lane : Nat) (s : State), s.lends spire gid lane = true ∧ s.shadowing = false) ∧
    (∃ (spire : Nat) (gid : Nat) (lane : Nat) (r : Nat) (x : LentIn) (s : State), s.lends spire gid lane = true ∧
      s.shadowing = false ∧ s.grd.lentIn.find?
      (fun y => y.spire == spire && y.group == gid && y.lane == lane && y.region == r) = some x) ∧
    (∃ (spire : Nat) (gid : Nat) (lane : Nat) (g : Group) (s : State), s.group gid = some g ∧ g.peer lane = some spire ∧
      lane ∈ g.current) ∧
    (∃ (gid : Nat) (g : Group) (s : State), s.grd.directPending = [gid] ∧ s.group gid = some g ∧ s.gphase gid = GPhase.quiet ∧
      g.rcd.modes / 8 % 2 = 1) :=
  ⟨⟨0, { grp with regions := [⟨0, [], [], true, false, false, [], []⟩] },
    { z with grd := { z.grd with groups := [{ grp with regions := [⟨0, [], [], true, false, false, [], []⟩] }] } },
    by decide +kernel⟩,
   ⟨0, grp, { z with grd := { z.grd with groups := [grp] } }, by decide +kernel⟩,
   ⟨1, 0, 0, { z with plan := { z.plan with cur := some { pl with lends := [⟨1, 0, 0, 8⟩] } } }, by decide +kernel⟩,
   ⟨1, 0, 0, 0, ⟨1, 0, 0, 0, [1]⟩, { z with plan := { z.plan with cur := some { pl with lends := [⟨1, 0, 0, 8⟩] } }, grd := { z.grd with lentIn := [⟨1, 0, 0, 0, [1]⟩] } }, by decide +kernel⟩,
   ⟨1, 0, 0, { grp with rcd := { grc with lanes := [0x81] } },
     { z with grd := { z.grd with groups := [{ grp with rcd := { grc with lanes := [0x81] } }] } }, by decide +kernel⟩,
   ⟨0, grp, { z with grd := { z.grd with groups := [grp], directPending := [0] } }, by decide +kernel⟩⟩

theorem wit_GuardianSealComplete :
    (∃ (job : Nat) (s : State), s.decides job = true) ∧
    (∃ (job : Nat) (step : Nat) (s : State), (s.decides job = false ∨ s.sealDecided job step = true)) ∧
    (∃ (node : Nat) (i : Nat) (g : Group) (s : State), s.memberAt node = some (g, i)) ∧
    (∃ (node : Nat) (i : Nat) (g : Group) (s : State), s.memberAt node = some (g, i)) ∧
    (∃ (g : Group) (w : OutWord) (s : State), s.grd.groups = [g] ∧ g.words = [w] ∧ w.since < s.round ∧ s.outFull Party.agent
      (s.memberNode g w.member) 1 = false ∧ s.mbx.waiting = [] ∧ s.shadowing = false) ∧
    (∃ (gid : Nat) (member : Nat) (type : Nat) (g : Group) (w : OutWord) (s : State), s.group gid = some g ∧ g.words.find?
      (fun x => x.type == type && x.member == member && !x.timedOut) = some w ∧
      w.since + s.g F.GRD_CFG_ACK_LIMIT ≤ s.round) :=
  ⟨⟨0, z, by decide +kernel⟩,
   ⟨0, 0, { z with grd := { z.grd with seals := [⟨0, 0, false⟩] } }, by decide +kernel⟩,
   ⟨3, 2, grp, { z with grd := { z.grd with groups := [grp] } }, by decide +kernel⟩,
   ⟨3, 2, grp, { z with grd := { z.grd with groups := [grp] } }, by decide +kernel⟩,
   ⟨{ grp with words := [⟨GWord.sealing, 0, 1, 0, false⟩] }, ⟨GWord.sealing, 0, 1, 0, false⟩,
     ({ z with grd := { z.grd with groups := [{ grp with words := [⟨GWord.sealing, 0, 1, 0, false⟩] }] } }).p F.BELL_ROUND_ROUND 1, by decide +kernel⟩,
   ⟨0, 0, GWord.sealing, { grp with words := [⟨GWord.sealing, 0, 1, 0, false⟩] }, ⟨GWord.sealing, 0, 1, 0, false⟩,
     ({ z with grd := { z.grd with groups := [{ grp with words := [⟨GWord.sealing, 0, 1, 0, false⟩] }] } }).p F.BELL_ROUND_ROUND 1000000, by decide +kernel⟩⟩

theorem wit_GuardianRollbackComplete :
    (∃ (gid : Nat) (w : Nat) (g : Group) (s : State), s.group gid = some g ∧ g.rollW = some w ∧ g.rollStarted = false ∧
      s.groupActive g = true ∧ s.gphase gid = GPhase.rollingBack ∧ State.rollbackPossible g.rcd.k w (s.lostOf g) = true ∧
      g.rollEnds = [] ∧ s.survivors g ≠ []) ∧
    (∃ (job : Nat) (step : Nat) (s : State), s.decides job = true ∧ s.sealDecided job step = false ∧ 1 ≤ step) ∧
    (∃ (job : Nat) (p : Nat) (s : State), (s.jobGroups job).any (fun g => s.recovery g.gid == p) = true) ∧
    (∃ (g : Group) (s : State), (s.jobGroups (s.g F.GRD_ARG_JOB)).find?
      (fun g => s.gphase g.gid == GPhase.ingest || s.gphase g.gid == GPhase.folded) = some g ∧ s.decides
      (s.g F.GRD_ARG_JOB) = true ∧ s.sealDecided (s.g F.GRD_ARG_JOB) (s.recovery g.gid + 1) = false) ∧
    (∃ (step : Nat) (s : State), s.sen.holds = [(s.g F.GRD_ARG_JOB, step)]) :=
  ⟨⟨0, 1, { grp with rollW := some 1 }, (({ z with grd := { z.grd with groups := [{ grp with rollW := some 1 }] } }).pi F.GRD_GROUP_PHASE 0 3).pi F.CUP_ENTRY_STATE 1 3, by decide +kernel⟩,
   ⟨1, 1, z, by decide +kernel⟩,
   ⟨1, 4, ({ z with grd := { z.grd with groups := [grp] } }).pi F.GRD_GROUP_STEP_RECOVERY 0 4, by decide +kernel⟩,
   ⟨grp, (({ z with grd := { z.grd with groups := [grp] } }).pi F.GRD_GROUP_PHASE 0 2).p F.GRD_ARG_JOB 1, by decide +kernel⟩,
   ⟨5, ({ z with sen := { z.sen with holds := [(1, 5)] } }).p F.GRD_ARG_JOB 1, by decide +kernel⟩⟩

theorem wit_GroupControlComplete :
    (∃ (gid : Nat) (g : Group) (s : State), s.group gid = some g ∧ s.gstate gid ≠ GState.disabling ∧
      s.gstate gid ≠ GState.disabled) ∧
    (∃ (gid : Nat) (q : Nat) (g : Group) (s : State), s.group gid = some g ∧ g.disableAt = some q ∧
      s.gstate gid = GState.disabling ∧ q + 5 ≤ s.round) ∧
    (∃ (gid : Nat) (g : Group) (s : State), s.group gid = some g ∧ s.gstate gid = GState.disabled) ∧
    (∃ (gid : Nat) (n : Nat) (g : Group) (s : State), s.group gid = some g ∧ g.statsWait = some n ∧ n ≤ s.round) ∧
    (∃ (s : State), s.g F.SEN_ARG_NODE / 512 = s.spire ∧ localOf (s.g F.SEN_ARG_NODE) < 510) :=
  ⟨⟨0, grp, { z with grd := { z.grd with groups := [grp] } }, by decide +kernel⟩,
   ⟨0, 0, { grp with disableAt := some 0 },
     (({ z with grd := { z.grd with groups := [{ grp with disableAt := some 0 }] } }).pi F.GRD_GROUP_STATE 0 6).p F.BELL_ROUND_ROUND 5, by decide +kernel⟩,
   ⟨0, grp, ({ z with grd := { z.grd with groups := [grp] } }).pi F.GRD_GROUP_STATE 0 7, by decide +kernel⟩,
   ⟨0, 0, { grp with statsWait := some 0 }, { z with grd := { z.grd with groups := [{ grp with statsWait := some 0 }] } },
     by decide +kernel⟩,
   ⟨z.p F.SEN_ARG_NODE 509, by decide +kernel⟩⟩

theorem wit_CheckChannelCommandsComplete :
    (∃ (c : Nat) (s : State), freeChannel c = true ∧ s.chkState c = Chan.idle ∧ s.chkLegal c = true) ∧
    (∃ (c : Nat) (s : State), freeChannel c = true ∧ s.chkState c = Chan.attached) ∧
    (∃ (c : Nat) (s : State), freeChannel c = true ∧ s.chkState c = Chan.suspended) ∧
    (∃ (c : Nat) (s : State), freeChannel c = true ∧ (s.chkState c = Chan.attached ∨ s.chkState c = Chan.suspended)) ∧
    (∃ (c : Nat) (s : State), freeChannel c = true ∧ s.chkState c < Chan.disabling) ∧
    (∃ (c : Nat) (s : State), freeChannel c = true ∧ s.chkState c = Chan.disabled) ∧
    (∃ (c : Nat) (s : State), freeChannel c = true ∧ (s.chkState c = Chan.idle ∨ s.chkState c = Chan.suspended)) ∧
    (∃ (c : Nat) (v : Word) (s : State), freeChannel c = true ∧ (s.chkState c = Chan.idle ∨ s.chkState c = Chan.suspended) ∧
      v.toNat < 2 ^ (s.chkPoly c).width) ∧
    (∃ (c : Nat) (s : State), freeChannel c = true ∧ (∀ e ∈ s.chk.claimed, e.1 ≠ c) ∧ s.chkState c = Chan.attached) ∧
    (∃ (c : Nat) (s : State), c < 96 ∧ c % 2 = 1 ∧ s.chkState c = Chan.attached) ∧
    (∃ (c : Nat) (data : Bytes) (carried : Nat) (s : State), c < 96 ∧ c % 2 = 0 ∧ s.chkState c = Chan.attached ∧
      (s.chkPoly c).check data = carried ∧ (∀ x ∈ s.chk.provisional, x.channel ≠ c)) :=
  ⟨⟨127, (z.pi F.CHK_CFG_TAP 127 1).pi F.CHK_CFG_STREAM 127 1, by decide +kernel⟩,
   ⟨127, z.pi F.CHK_STATE_STATE 127 1, by decide +kernel⟩,
   ⟨127, z.pi F.CHK_STATE_STATE 127 3, by decide +kernel⟩,
   ⟨127, z.pi F.CHK_STATE_STATE 127 3, by decide +kernel⟩,
   ⟨127, z.pi F.CHK_STATE_STATE 127 3, by decide +kernel⟩,
   ⟨127, z.pi F.CHK_STATE_STATE 127 5, by decide +kernel⟩,
   ⟨127, z, by decide +kernel⟩,
   ⟨127, 0xFFFFFFFF, z, by decide +kernel⟩,
   ⟨127, z.pi F.CHK_STATE_STATE 127 1, by decide +kernel⟩,
   ⟨95, z.pi F.CHK_STATE_STATE 95 1, by decide +kernel⟩,
   ⟨94, [1], Poly.crc64xz.check [1], z.pi F.CHK_STATE_STATE 94 1, by decide +kernel⟩⟩

theorem wit_TaskCommandsComplete :
    (∃ (idx : Nat) (x : Task) (s : State), s.task idx = some x ∧ x.unstarted = true ∧ x.ready = true ∧
      x.isOpen s.round = true ∧ s.engineStopped = false ∧ s.g F.KEY_STATUS_REMOVE_STEP = 0 ∧ x.cupola = 0 ∧
      s.portOff x.flow = none ∧ x.kind = Kind.fold ∧ s.gstate x.group = GState.protectedS ∧
      s.gphase x.group = GPhase.ingest) ∧
    (∃ (idx : Nat) (x : Task) (s : State), s.task idx = some x ∧ x.kind = Kind.notify ∧ x.state = 3 ∧ s.mbx.posted = [] ∧
      s.mbx.waiting = [] ∧ s.outFull Party.host 0 (x.param 0 1 % 32) = false) ∧
    (∃ (idx : Nat) (x : Task) (s : State), s.task idx = some x ∧ x.unstarted = true ∧ x.length ≠ 0 ∧ x.closesAt ≤ s.round) ∧
    (∃ (idx : Nat) (st : Nat) (d : Nat) (x : Task) (s : State), s.task idx = some x ∧ x.state = 4 ∧ x.inFlight = [] ∧
      x.cause = some (st, d)) ∧
    (∃ (x : Task) (s : State), s.taskOf (s.g F.GRAPH_ARG_ARG) = some x ∧ x.unstarted = true ∧ x.cause = none) ∧
    (∃ (x : Task) (s : State), s.graph.tasks = [x] ∧ x.tag = s.g F.GRAPH_ARG_ARG ∧ x.unstarted = true ∧ x.cause = none) :=
  ⟨⟨0, { tsk Kind.fold with state := 2 },
    (({ z with graph := { z.graph with tasks := [{ tsk Kind.fold with state := 2 }] } }).pi F.GRD_GROUP_STATE 0 3).pi F.GRD_GROUP_PHASE 0 1, by decide +kernel⟩,
   ⟨0, tsk Kind.notify, { z with graph := { z.graph with tasks := [tsk Kind.notify] } }, by decide +kernel⟩,
   ⟨0, { tsk Kind.fold with state := 2, desc := [1, 0, 0, 0, 0, 0, 0, 0, 0, 0, 0, 0, 1] ++ List.replicate 115 0 },
     { z with graph := { z.graph with tasks := [{ tsk Kind.fold with state := 2, desc := [1, 0, 0, 0, 0, 0, 0, 0, 0, 0, 0, 0, 1] ++ List.replicate 115 0 }] } }, by decide +kernel⟩,
   ⟨0, 0, 0, { tsk Kind.fold with state := 4, cause := some (0, 0) },
     { z with graph := { z.graph with tasks := [{ tsk Kind.fold with state := 4, cause := some (0, 0) }] } },
     by decide +kernel⟩,
   ⟨{ tsk Kind.fold with state := 2 }, ({ z with graph := { z.graph with tasks := [{ tsk Kind.fold with state := 2 }] } }).p F.GRAPH_ARG_ARG (z.itemId 0), by decide +kernel⟩,
   ⟨{ tsk Kind.fold with state := 2, tag := 7 },
     ({ z with graph := { z.graph with tasks := [{ tsk Kind.fold with state := 2, tag := 7 }] } }).p F.GRAPH_ARG_ARG 7,
     by decide +kernel⟩⟩

theorem wit_ServiceControlComplete :
    (∃ (s : State), s.g F.GRAPH_STATUS_EXPORT = 0) ∧
    (∃ (s : State), s.g F.GRAPH_STATUS_EXPORT ≠ 1) ∧
    (∃ (s : State), s.g F.GRAPH_STATUS_IMPORT = 0) ∧
    (∃ (s : State), s.g F.GRAPH_STATUS_IMPORT ≠ 1) ∧
    (∃ (f : Nat) (i : Nat) (d : Disable) (s : State), f ≠ 5 ∧ s.disableOf f i = some d ∧ d.stopped = false ∧
      d.accepted + 1 ≤ s.round) ∧
    (∃ (f : Nat) (i : Nat) (d : Disable) (s : State), f ≠ 5 ∧ s.disableOf f i = some d ∧ d.drained = false ∧
      d.accepted + 1 + d.bound ≤ s.round) ∧
    (∃ (d : Disable) (s : State), s.graph.disables = [d] ∧ d.function = 4 ∧ d.index = 0 ∧
      d.accepted + 2 + d.bound ≤ s.round) ∧
    (∃ (v : Word) (s : State), (v.toNat % 2 ^ 32 + 2 ^ 32 - s.g F.GRAPH_RING_TAIL_TAIL) % 2 ^ 32 ≤ s.unconsumed) :=
  ⟨⟨z, by decide +kernel⟩,
   ⟨z.p F.GRAPH_STATUS_EXPORT 2, by decide +kernel⟩,
   ⟨z, by decide +kernel⟩,
   ⟨z.p F.GRAPH_STATUS_IMPORT 2, by decide +kernel⟩,
   ⟨4, 0, dsb, ({ z with graph := { z.graph with disables := [dsb] } }).p F.BELL_ROUND_ROUND 1, by decide +kernel⟩,
   ⟨4, 0, dsb, ({ z with graph := { z.graph with disables := [dsb] } }).p F.BELL_ROUND_ROUND 3, by decide +kernel⟩,
   ⟨dsb, ({ z with graph := { z.graph with disables := [dsb] } }).p F.BELL_ROUND_ROUND 4, by decide +kernel⟩,
   ⟨3, z.p F.GRAPH_RING_HEAD_HEAD 3, by decide +kernel⟩⟩

theorem wit_ScalarCommandsComplete :
    (∃ (c : ScalarC) (x : Task) (s : State), c.crcOk = true ∧ s.scalarTask c.cupola c.tag = some x ∧ s.task x.idx = some x ∧
      x.state = 1 ∧ s.graph.contributions.any (fun y => y.cupola == c.cupola && y.tag == c.tag && y.node == c.node) = false) ∧
    (∃ (c : ScalarC) (s : State), s.scalarTask c.cupola c.tag = none) ∧
    (∃ (s : State), s.graph.tasks = [] ∧ s.graph.ring = []) ∧
    (∃ (tag : Nat) (flags : Nat) (x : Task) (s : State), s.graph.tasks = [x] ∧ x.kind = Kind.scalar ∧ x.installScope = true ∧
      x.reduceTag = tag ∧ x.state = 3 ∧ flags % 2 = 0 ∧ s.shadowing = false) ∧
    (∃ (tag : Nat) (flags : Nat) (x : Task) (s : State), s.graph.tasks = [x] ∧ x.kind = Kind.scalar ∧ x.installScope = true ∧
      x.reduceTag = tag ∧ x.state = 3 ∧ x.subs = [] ∧ x.cause = none ∧ flags % 2 = 1) :=
  ⟨⟨⟨0, 1, false, 0, 1, [5], true⟩, { tsk Kind.scalar with state := 1 },
    { z with graph := { z.graph with tasks := [{ tsk Kind.scalar with state := 1 }] } }, by decide +kernel⟩,
   ⟨⟨0, 1, false, 0, 1, [5], true⟩, z, by decide +kernel⟩,
   ⟨z, by decide +kernel⟩,
   ⟨9, 0, { tsk Kind.scalar with desc := BitVec.ofNat 8 Kind.scalar :: List.replicate 48 0 ++ [1, 0, 0, 9] ++ List.replicate 75 0 }, { z with graph := { z.graph with tasks := [{ tsk Kind.scalar with desc := BitVec.ofNat 8 Kind.scalar :: List.replicate 48 0 ++ [1, 0, 0, 9] ++ List.replicate 75 0 }] } }, by decide +kernel⟩,
   ⟨9, 1, { tsk Kind.scalar with desc := BitVec.ofNat 8 Kind.scalar :: List.replicate 48 0 ++ [1, 0, 0, 9] ++ List.replicate 75 0 }, { z with graph := { z.graph with tasks := [{ tsk Kind.scalar with desc := BitVec.ofNat 8 Kind.scalar :: List.replicate 48 0 ++ [1, 0, 0, 9] ++ List.replicate 75 0 }] } }, by decide +kernel⟩⟩

theorem wit_RdmaCommandsComplete :
    (∃ (q : Nat) (psn : Nat) (o : RdmaOp) (x : Task) (s : State), s.eth.ops = [o] ∧ s.eth.waiting = [] ∧ o.qp = q ∧
      o.issued = true ∧ o.kind = 0 ∧ psnLe o.psn psn = true ∧ o.counts = true ∧ s.task o.idx = some x ∧ x.kind = Kind.exp ∧
      x.channel = none) ∧
    (∃ (q : Nat) (psn : Nat) (o : RdmaOp) (s : State), s.opsFrom q psn = [o] ∧ lookupD s.eth.retries q 0 < min 7 (getBits
      (s.qw q 0) 6 3)) ∧
    (∃ (q : Nat) (psn : Nat) (o : RdmaOp) (s : State), s.opsFrom q psn = [o]) ∧
    (∃ (q : Nat) (psn : Nat) (o : RdmaOp) (x : Task) (s : State), s.opsFrom q psn = [o] ∧ s.task o.idx = some x) ∧
    (∃ (q : Nat) (o : RdmaOp) (s : State), s.eth.ops = [o] ∧ o.qp = q ∧ o.issued = true ∧ lookupD s.eth.retries q 0 < min 7
      (getBits (s.qw q 0) 6 3)) ∧
    (∃ (q : Nat) (psn : Nat) (o : RdmaOp) (x : Task) (y : SubItem) (s : State), s.eth.ops = [o] ∧ s.eth.waiting = [] ∧
      o.qp = q ∧ o.issued = true ∧ o.kind = 1 ∧ o.psn = psn ∧ s.task o.idx = some x ∧ x.kind = Kind.imp ∧ x.state = 3 ∧
      x.flags = 0 ∧ x.channel = none ∧ y ∈ x.subs ∧ y.seq ≠ o.sub) ∧
    (∃ (s : State), s.graph.notified = []) ∧
    (∃ (i : Nat) (s : State), 1 ≤ i ∧ i < 5 ∧ s.qpState (s.g F.ETH_QP_SEL_QP) = 0) :=
  ⟨⟨0, 5, opn, tsk Kind.exp, { z with graph := { z.graph with tasks := [tsk Kind.exp] }, eth := { z.eth with ops := [opn] } }, by decide +kernel⟩,
   ⟨0, 0, opn, ({ z with eth := { z.eth with ops := [opn] } }).pi F.ETH_QP_WORD_WORD 0 (7 * 64), by decide +kernel⟩,
   ⟨0, 0, opn, { z with eth := { z.eth with ops := [opn] } }, by decide +kernel⟩,
   ⟨0, 0, opn, tsk Kind.exp, { z with graph := { z.graph with tasks := [tsk Kind.exp] }, eth := { z.eth with ops := [opn] } }, by decide +kernel⟩,
   ⟨0, opn, ({ z with eth := { z.eth with ops := [opn] } }).pi F.ETH_QP_WORD_WORD 0 (7 * 64), by decide +kernel⟩,
   ⟨0, 0, { opn with kind := 1, len := 2 }, { tsk Kind.imp with subs := [⟨3, 1, 0, 2, false, 0, 0⟩] }, ⟨3, 1, 0, 2, false, 0,
     0⟩, { z with graph := { z.graph with tasks := [{ tsk Kind.imp with subs := [⟨3, 1, 0, 2, false, 0, 0⟩] }] }, eth := { z.eth with ops := [{ opn with kind := 1, len := 2 }] } }, by decide +kernel⟩,
   ⟨z, by decide +kernel⟩,
   ⟨4, z, by decide +kernel⟩⟩

theorem wit_KeystoneCommandsComplete :
    (∃ (s : State), s.b F.KEY_STATUS_TENANT_BOUND = false) ∧
    (∃ (i : Nat) (x : Task) (s : State), s.task i = some x ∧ x.kind = Kind.imp ∧ x.state = 3 ∧ x.inFlight = [] ∧
      x.cause = none) ∧
    (∃ (node : Nat) (port : Nat) (s : State), s.hopOf node port = none) ∧
    (∃ (job : Nat) (j : JobKey) (r : TplRec) (s : State), s.linkMode = 1 ∧ s.g F.KEY_STATUS_REMOVE_STEP = 0 ∧
      s.key.jobs = [j] ∧ j.job = job ∧ j.rotation = none ∧ s.template j.cupola = some r ∧ r.rotation ≠ 0 ∧
      s.sealedStep job ≠ 0 ∧ s.sealedStep job % r.rotation = 0 ∧ j.last < s.sealedStep job) ∧
    (∃ (job : Nat) (q : Nat) (j : JobKey) (s : State), s.key.jobs = [j] ∧ j.job = job ∧ j.rotation = some q ∧
      j.unconfirmed = [] ∧ State.switchOf q j.moves ≤ s.round + 2) ∧
    (∃ (node : Nat) (port : Nat) (e : Forced) (s : State), s.key.forced = [e] ∧ e.node = node ∧ e.port = port ∧ e.left ≤ 1 ∧
      e.by_ = s.spire) ∧
    (∃ (node : Nat) (port : Nat) (s : State), s.key.forced.any (fun e => e.node == node && e.port == port) = false) ∧
    (∃ (sess : Nat) (x : Handshake) (s : State), s.handshakeOf sess = some x ∧ x.started + 4096 ≤ s.round) ∧
    (∃ (s : State), s.key.cak.isSome = true ∧ s.eth.ops = []) :=
  ⟨⟨z, by decide +kernel⟩,
   ⟨0, tsk Kind.imp, { z with graph := { z.graph with tasks := [tsk Kind.imp] } }, by decide +kernel⟩,
   ⟨0, 0, z, by decide +kernel⟩,
   ⟨1, jky, { tpl with rotation := 2 }, ({ z with plan := { z.plan with cur := some { pl with templates := [{ tpl with rotation := 2 }], flags := 4 } }, grd := { z.grd with groups := [grp] }, key := { z.key with jobs := [jky] } }).pi F.GRD_GROUP_STEP_RECOVERY 0 2, by decide +kernel⟩,
   ⟨1, 0, { jky with rotation := some 0 },
     ({ z with key := { z.key with jobs := [{ jky with rotation := some 0 }] } }).p F.BELL_ROUND_ROUND 14, by decide +kernel⟩,
   ⟨1, 2, ⟨0, 1, 2, 1, 0⟩, { z with key := { z.key with forced := [⟨0, 1, 2, 1, 0⟩] } }, by decide +kernel⟩,
   ⟨0, 0, z, by decide +kernel⟩,
   ⟨1, shk, ({ z with eth := { z.eth with handshakes := [shk] } }).p F.BELL_ROUND_ROUND 4096, by decide +kernel⟩,
   ⟨{ z with key := { z.key with cak := some [1] } }, by decide +kernel⟩⟩

theorem wit_RemovalCommandsComplete :
    (∃ (s : State), s.confidential = true ∧ s.b F.KEY_STATUS_TENANT_BOUND = true ∧ s.removeStep = 0) ∧
    (∃ (s : State), s.removeStep ≠ 0) ∧
    (∃ (s : State), s.removeStep = 1 ∧ s.removeStart + 1 ≤ s.round) ∧
    (∃ (s : State), s.removeStep = 2 ∧ s.removeStart + 1 + s.key.bound ≤ s.round ∧ s.graph.tasks = []) ∧
    (∃ (s : State), s.removeStep = 4 ∧ s.removeStart + 2 + s.key.bound ≤ s.round) ∧
    (∃ (node : Nat) (s : State), 5 ≤ s.removeStep ∧ s.key.retireWait.contains node = true ∧
      s.removeStart + 3 + s.key.bound ≤ s.round) ∧
    (∃ (q : Nat) (s : State), s.key.waitFrom = some q ∧ s.removeStep = 6 ∧ s.key.forceEnd = true ∧ s.rekeysDone = true) ∧
    (∃ (s : State), s.g F.KEY_MEM_SCRUBBING = 1) ∧
    (∃ (s : State), s.removeStep = 8) :=
  ⟨⟨(z.p F.KEY_STATUS_CONFIDENTIAL 1).p F.KEY_STATUS_TENANT_BOUND 1, by decide +kernel⟩,
   ⟨z.p F.KEY_STATUS_REMOVE_STEP 1, by decide +kernel⟩,
   ⟨(z.p F.KEY_STATUS_REMOVE_STEP 1).p F.BELL_ROUND_ROUND 1, by decide +kernel⟩,
   ⟨(z.p F.KEY_STATUS_REMOVE_STEP 2).p F.BELL_ROUND_ROUND 1, by decide +kernel⟩,
   ⟨(z.p F.KEY_STATUS_REMOVE_STEP 4).p F.BELL_ROUND_ROUND 2, by decide +kernel⟩,
   ⟨1, (({ z with key := { z.key with retireWait := [1] } }).p F.KEY_STATUS_REMOVE_STEP 5).p F.BELL_ROUND_ROUND 3,
     by decide +kernel⟩,
   ⟨0, ({ z with key := { z.key with waitFrom := some 0, forceEnd := true } }).p F.KEY_STATUS_REMOVE_STEP 6,
     by decide +kernel⟩,
   ⟨z.p F.KEY_MEM_SCRUBBING 1, by decide +kernel⟩,
   ⟨z.p F.KEY_STATUS_REMOVE_STEP 8, by decide +kernel⟩⟩

theorem wit_LanternCommandsComplete :
    (∃ (port : Nat) (s : State), s.gi F.PORT_STATUS_STATE port = 2) ∧
    (∃ (n : Nat) (port : Nat) (s : State), s.portUp n port = true) ∧
    (∃ (port : Nat) (w : TimeW) (s : State), w.crcOk = true ∧ w.state ≠ 0 ∧ s.parentPort port = true ∧ s.lant.depths = [] ∧
      s.lantState = LState.locked) ∧
    (∃ (n : Nat) (port : Nat) (w : TimeW) (s : State), w.crcOk = true ∧ w.state ≠ 0 ∧ s.ga F.AG_PORT_INTERSPIRE n port = 0 ∧
      s.agentParent n = some port) ∧
    (∃ (s : State), s.lantState = LState.locked ∧ s.agents = []) ∧
    (∃ (s : State), s.lantState = LState.holdover ∧ s.agents = []) ∧
    (∃ (s : State), s.lantState = LState.unset ∧ s.planLeads = true ∧ s.g F.TWIN_STATUS_STATE ≤ 2) ∧
    (∃ (s : State), s.lantState ≠ LState.unset) ∧
    (∃ (ns : Nat) (last : Nat) (s : State), s.ppsOn = true ∧ s.lant.ppsLast = some last ∧ last + 999999000 ≤ ns ∧
      ns ≤ last + 1000001000) ∧
    (∃ (s : State), s.ppsOn = true) ∧
    (∃ (ns : Nat) (s : State), s.lantState ≠ LState.unset ∧ s.lant.now < ns ∧ ns < 2 ^ 64) :=
  ⟨⟨47, z.pi F.PORT_STATUS_STATE 47 2, by decide +kernel⟩,
   ⟨1, 3, z.pa F.AG_STATUS_PORTS_UP 1 0 8, by decide +kernel⟩,
   ⟨47, tmw, z.p F.LANT_STATUS_STATE 2, by decide +kernel⟩,
   ⟨1, 3, tmw, ((z.pa F.AG_TREE_UP_VALID 1 0 0).pa F.AG_MANAGER_VALID 1 0 1).pa F.AG_MANAGER_PORT 1 0 3, by decide +kernel⟩,
   ⟨z.p F.LANT_STATUS_STATE 2, by decide +kernel⟩,
   ⟨z.p F.LANT_STATUS_STATE 3, by decide +kernel⟩,
   ⟨z, by decide +kernel⟩,
   ⟨z.p F.LANT_STATUS_STATE 2, by decide +kernel⟩,
   ⟨1999999000, 1000000000, (({ z with lant := { z.lant with ppsLast := some 1000000000 } }).p F.LANT_STATUS_STATE 1).p F.LANT_CFG_PPS_IN_EN 1, by decide +kernel⟩,
   ⟨(z.p F.LANT_STATUS_STATE 1).p F.LANT_CFG_PPS_IN_EN 1, by decide +kernel⟩,
   ⟨1, z.p F.LANT_STATUS_STATE 2, by decide +kernel⟩⟩

theorem wit_TimeOfDayComplete :
    (∃ (mode : Nat), mode % 2 = 0) ∧
    (∃ (mode : Nat), mode % 2 = 1) ∧
    (∃ (s : State), s.b F.LANT_STATUS_SLEWING = true) ∧
    (∃ (s : State), s.b F.LANT_STATUS_SLEWING = true) ∧
    (∃ (s : State), s.ptpMaster = true) ∧
    (∃ (s : State), s.ptpMaster = true) ∧
    (∃ (s : State), s.ptpMaster = true) ∧
    (∃ (s : State), s.ptpMaster = true) :=
  ⟨⟨0, by decide +kernel⟩,
   ⟨1, by decide +kernel⟩,
   ⟨z.p F.LANT_STATUS_SLEWING 1, by decide +kernel⟩,
   ⟨z.p F.LANT_STATUS_SLEWING 1, by decide +kernel⟩,
   ⟨(z.p F.TWIN_STATUS_STATE 1).p F.LANT_CFG_PTP_EN 1, by decide +kernel⟩,
   ⟨(z.p F.TWIN_STATUS_STATE 1).p F.LANT_CFG_PTP_EN 1, by decide +kernel⟩,
   ⟨(z.p F.TWIN_STATUS_STATE 1).p F.LANT_CFG_PTP_EN 1, by decide +kernel⟩,
   ⟨(z.p F.TWIN_STATUS_STATE 1).p F.LANT_CFG_PTP_EN 1, by decide +kernel⟩⟩

theorem wit_BelfryStoreComplete :
    (∃ (source : Nat) (inst : Nat) (s : State), s.g F.BELF_STATUS_STATE ≠ 3 ∧ (∀ c ∈ s.belf.cells, ¬(c.source = source ∧
      c.inst = inst)) ∧ s.belf.cells.length < cellCapacity) ∧
    (∃ (source : Nat) (inst : Nat) (c : Cell) (s : State), s.g F.BELF_STATUS_STATE ≠ 3 ∧ s.belf.cells.find?
      (fun c => c.source == source && c.inst == inst) = some c) ∧
    (∃ (s : State), s.g F.BELF_STATUS_STATE ≠ 3 ∧ (∀ c ∈ s.belf.cells, ∀ d ∈ s.belf.cells,
      c.source = d.source → c.inst = d.inst → c = d)) ∧
    (∃ (r : Record) (rest : List Record) (slot : Nat) (s : State), s.g F.BELF_STATUS_STATE = 0 ∧ s.belf.queue = r :: rest ∧
      s.flashSlot r.sev = some slot) ∧
    (∃ (r : Record) (rest : List Record) (slot : Nat) (s : State), s.g F.BELF_STATUS_STATE = 0 ∧ s.belf.queue = r :: rest ∧
      s.flashSlot r.sev = some slot) ∧
    (∃ (s : State), s.g F.BELF_STATUS_STATE = 0) ∧
    (∃ (s : State), s.g F.BELF_STATUS_STATE = 1) ∧
    (∃ (s : State), s.g F.BELF_STATUS_STATE = 1) ∧
    (∃ (s : State), s.g F.BELF_STATUS_STATE = 2 ∧ s.belf.staged = []) ∧
    (∃ (s : State), s.g F.BELF_STATUS_STATE ≠ 3) ∧
    (∃ (i : Nat), i < 64) ∧
    (∃ (r : Record) (rest : List Record) (slot : Nat) (s : State), s.g F.BELF_STATUS_STATE = 0 ∧ s.belf.queue = r :: rest ∧
      s.flashSlot r.sev = some slot ∧ s.belf.badSlots.length = 2 ∧ slot ∉ s.belf.badSlots) :=
  ⟨⟨5, 0, z, by decide +kernel⟩,
   ⟨0, 0, cel, { z with belf := { z.belf with cells := [cel] } }, by decide +kernel⟩,
   ⟨{ z with belf := { z.belf with cells := [cel] } }, by decide +kernel⟩,
   ⟨rec_, [], z.flashSlot 5 |>.getD 0, { z with belf := { z.belf with queue := [rec_] } }, by decide +kernel⟩,
   ⟨rec_, [], z.flashSlot 5 |>.getD 0, { z with belf := { z.belf with queue := [rec_] } }, by decide +kernel⟩,
   ⟨z, by decide +kernel⟩,
   ⟨z.p F.BELF_STATUS_STATE 1, by decide +kernel⟩,
   ⟨z.p F.BELF_STATUS_STATE 1, by decide +kernel⟩,
   ⟨z.p F.BELF_STATUS_STATE 2, by decide +kernel⟩,
   ⟨z, by decide +kernel⟩,
   ⟨63, by decide +kernel⟩,
   ⟨rec_, [], z.flashSlot 5 |>.getD 0, { z with belf := { z.belf with queue := [rec_], badSlots := [17, 18] } },
     by decide +kernel⟩⟩

theorem wit_BelfryTelemetryComplete :
    (∃ (source : Nat) (v : Word), source < 608 ∧ Source.severity source ≤ getBits v 2 3 ∧
      (getBits v 1 1 = 1 ∨ Source.alarm source ≠ 1)) ∧
    (∃ (s : State), s.round % max 1 (s.g F.BELF_CFG_REPEAT) = 0 ∧ (∀ e ∈ s.listed .BELF_ALARM, getBits e.2 0 1 = 0)) ∧
    (∃ (s : State), s.b F.BELF_TRACE_AGENTS = true) ∧
    (∃ (slot : Nat) (u : Subscr) (s : State), s.belf.subs.find? (fun u => u.slot == slot) = some u ∧ u.q0 ≠ [] ∧
      128 * 1000000000 ≤ u.tokens.getD 0 0 ∧ s.confidential = false) ∧
    (∃ (slot : Nat) (u : Subscr) (s : State), s.belf.subs.find? (fun u => u.slot == slot) = some u) ∧
    (∃ (s : State), s.round % 64 = 0) ∧
    (∃ (s : State), s.belf.opFlash + 1024 < 2 ^ 48) :=
  ⟨⟨0, 28, by decide +kernel⟩,
   ⟨z, by decide +kernel⟩,
   ⟨z.p F.BELF_TRACE_AGENTS 1, by decide +kernel⟩,
   ⟨0, { sub_ with q0 := [⟨rec_, 0⟩], tokens := [128000000000, 0, 0] },
     { z with belf := { z.belf with subs := [{ sub_ with q0 := [⟨rec_, 0⟩], tokens := [128000000000, 0, 0] }] } },
     by decide +kernel⟩,
   ⟨0, sub_, { z with belf := { z.belf with subs := [sub_] } }, by decide +kernel⟩,
   ⟨z, by decide +kernel⟩,
   ⟨z, by decide +kernel⟩⟩

theorem wit_TwinFramesComplete :
    (∃ (level : Nat) (letter : Nat) (theirs : Nat) (s : State), s.pair = Pair.solo ∧ s.compatible level letter = true ∧
      theirs = Pair.standby) ∧
    (∃ (s : State), s.pair = Pair.active) ∧
    (∃ (s : State), s.pair = Pair.solo) ∧
    (∃ (seq : Nat) (f : MirrorF) (s : State), s.isActive = true ∧ s.twin.kept.find? (fun x => x.seq == seq && decide
      (s.round < x.round + 8)) = some f) ∧
    (∃ (f : MirrorF) (s : State), (s.mirrorAccept f).2 = true ∧ s.twin.snapshotApplied = false) ∧
    (∃ (f : MirrorF) (d : Word) (s : State), (s.mirrorAccept f).2 = true ∧ s.twin.snapshotApplied = true ∧
      digestOf s.twin.decisions = d) ∧
    (∃ (f : MirrorF) (s : State), (s.mirrorAccept f).2 = true) ∧
    (∃ (f : MirrorF) (c : Nat) (s : State), (s.mirrorAccept f).2 = true ∧ freeChannel c = true) ∧
    (∃ (f : MirrorF) (s : State), (s.mirrorAccept f).2 = true) ∧
    (∃ (f : MirrorF) (s : State), (s.mirrorAccept f).2 = true ∧ f.payload.length = State.licenceLen) ∧
    (∃ (s : State), s.isActive = true ∧ s.twin.mismatch = none) ∧
    (∃ (n : Nat) (s : State), s.twin.mismatch = some n) ∧
    (∃ (n : Nat) (s : State), s.twin.mismatch = some n) ∧
    (∃ (n : Nat) (s : State), s.twin.mismatch = some n ∧ n + 3 ≤ s.round ∧ s.isActive = true ∧ s.twin.ownTest = some true ∧
      s.twin.partnerTest = some true ∧ s.twin.again = none) ∧
    (∃ (level : Nat) (letter : Nat) (theirs : Nat) (s : State), s.pair = Pair.starting ∧ 9 ≤ s.g F.PWR_STATUS_STAGE ∧
      s.compatible level letter = true ∧ (theirs = Pair.solo ∨ theirs = Pair.active)) ∧
    (∃ (s : State), s.isActive = true) ∧
    (∃ (seq : Nat) (s : State), s.isActive = true ∧ s.twin.kept.find? (fun x => x.seq == seq && decide
      (s.round < x.round + 8)) = none) ∧
    (∃ (f : MirrorF) (d : Word) (s : State), (s.mirrorAccept f).2 = true ∧ s.twin.snapshotApplied = true ∧
      digestOf s.twin.decisions ≠ d) ∧
    (∃ (f : MirrorF) (s : State), (s.mirrorAccept f).2 = true ∧ f.payload.length = 128 ∧ field f.payload 0 1 < 8) ∧
    (∃ (n : Nat) (s : State), s.twin.mismatch = some n ∧ n + 3 ≤ s.round) :=
  ⟨⟨1, 1, Pair.standby, z.p F.TWIN_STATUS_STATE 1, by decide +kernel⟩,
   ⟨z.p F.TWIN_STATUS_STATE 2, by decide +kernel⟩,
   ⟨z.p F.TWIN_STATUS_STATE 1, by decide +kernel⟩,
   ⟨0, mir, ({ z with twin := { z.twin with kept := [mir] } }).p F.TWIN_STATUS_STATE 2, by decide +kernel⟩,
   ⟨mir, z.p F.TWIN_STATUS_STATE 4, by decide +kernel⟩,
   ⟨mir, digestOf [], ({ z with twin := { z.twin with snapshotApplied := true } }).p F.TWIN_STATUS_STATE 4,
     by decide +kernel⟩,
   ⟨mir, z.p F.TWIN_STATUS_STATE 4, by decide +kernel⟩,
   ⟨mir, 127, z.p F.TWIN_STATUS_STATE 4, by decide +kernel⟩,
   ⟨mir, z.p F.TWIN_STATUS_STATE 4, by decide +kernel⟩,
   ⟨{ mir with payload := List.replicate State.licenceLen 0 }, z.p F.TWIN_STATUS_STATE 4, by decide +kernel⟩,
   ⟨z.p F.TWIN_STATUS_STATE 2, by decide +kernel⟩,
   ⟨1, { z with twin := { z.twin with mismatch := some 1 } }, by decide +kernel⟩,
   ⟨1, { z with twin := { z.twin with mismatch := some 1 } }, by decide +kernel⟩,
   ⟨1, (({ z with twin := { z.twin with mismatch := some 1, ownTest := some true, partnerTest := some true } }).p F.TWIN_STATUS_STATE 2).p F.BELL_ROUND_ROUND 4, by decide +kernel⟩,
   ⟨0, 0, 2, ((z.p F.PWR_STATUS_STAGE 12).p F.TWIN_STATUS_MIRROR_LEVEL 0).p F.TWIN_STATUS_LETTER 1, by decide +kernel⟩,
   ⟨z.p F.TWIN_STATUS_STATE 2, by decide +kernel⟩,
   ⟨0, z.p F.TWIN_STATUS_STATE 2, by decide +kernel⟩,
   ⟨mir, 5, ({ z with twin := { z.twin with snapshotApplied := true } }).p F.TWIN_STATUS_STATE 4, by decide +kernel⟩,
   ⟨{ mir with payload := zeros 128 }, z.p F.TWIN_STATUS_STATE 4, by decide +kernel⟩,
   ⟨0, ({ z with twin := { z.twin with mismatch := some 0 } }).p F.BELL_ROUND_ROUND 3, by decide +kernel⟩⟩

theorem wit_TwinClaimComplete :
    (∃ (node : Nat) (port : Nat) (c : ClaimF) (s : State), c.crcOk = true ∧ s.ga F.AG_IDENT_KIND node 0 ≠ 1 ∧
      s.facesVarlor node port = true ∧ s.bn F.AG_MANAGER_VALID node = false ∧ (s.ag node).grantRound ≠ some s.round) ∧
    (∃ (node : Nat) (port : Nat) (r : ClaimF) (s : State), r.crcOk = true ∧ s.bn F.AG_MANAGER_VALID node = true ∧
      s.ga F.AG_MANAGER_PORT node 0 = port) ∧
    (∃ (node : Nat) (g : ClaimF) (s : State), g.crcOk = true ∧ g.denied = false ∧ g.epoch = s.claimEpoch ∧
      s.twin.claiming = true ∧ s.pair = Pair.starting ∧ s.claimVoters < 2 * (addOnce node s.twin.grants).length) ∧
    (∃ (r : Nat) (s : State), s.pair = Pair.starting ∧ s.twin.claiming = false ∧ s.twin.claimRetry = some r ∧ r ≤ s.round) ∧
    (∃ (s : State), s.pair = Pair.starting ∧ s.b F.TWIN_STATUS_PARTNER_SEEN = false ∧ s.twin.claiming = false ∧
      s.twin.startedRound + 2048 ≤ s.round) ∧
    (∃ (s : State), s.pair = Pair.standby ∧ s.twin.claiming = false) ∧
    (∃ (n : Nat) (s : State), s.pair = Pair.standby ∧ s.twin.claiming = false ∧ s.twin.lastEndOfRound < n ∧ s.round < n + 2) ∧
    (∃ (s : State), s.pair = Pair.active) ∧
    (∃ (r : Nat) (s : State), s.twin.actsAt = some r ∧ r ≤ s.round ∧ s.isActive = true) ∧
    (∃ (node : Nat) (port : Nat) (c : ClaimF) (s : State), c.crcOk = true ∧ s.ga F.AG_IDENT_KIND node 0 ≠ 1 ∧
      s.facesVarlor node port = true) ∧
    (∃ (node : Nat) (g : ClaimF) (s : State), g.crcOk = true ∧ g.denied = false ∧ g.epoch = s.claimEpoch ∧
      s.twin.claiming = true ∧ 2 * (addOnce node s.twin.grants).length ≤ s.claimVoters) ∧
    (∃ (g : ClaimF) (s : State), g.crcOk = true ∧ g.denied = true ∧ g.epoch ≤ s.claimEpoch ∧ s.twin.claiming = true) ∧
    (∃ (s : State), s.pair = Pair.active) :=
  ⟨⟨272, 2, clm, z.pa F.AG_PORT_FAR_KIND 272 2 3, by decide +kernel⟩,
   ⟨1, 2, clm, (z.pa F.AG_MANAGER_VALID 1 0 1).pa F.AG_MANAGER_PORT 1 0 2, by decide +kernel⟩,
   ⟨1, clm, { z with twin := { z.twin with claiming := true } }, by decide +kernel⟩,
   ⟨0, { z with twin := { z.twin with claimRetry := some 0 } }, by decide +kernel⟩,
   ⟨z.p F.BELL_ROUND_ROUND 2048, by decide +kernel⟩,
   ⟨z.p F.TWIN_STATUS_STATE 4, by decide +kernel⟩,
   ⟨1, (z.p F.TWIN_STATUS_STATE 4).p F.BELL_ROUND_ROUND 2, by decide +kernel⟩,
   ⟨z.p F.TWIN_STATUS_STATE 2, by decide +kernel⟩,
   ⟨0, ({ z with twin := { z.twin with actsAt := some 0 } }).p F.TWIN_STATUS_STATE 2, by decide +kernel⟩,
   ⟨0, 0, clm, (z.pn F.AG_IDENT_KIND 0 2).pa F.AG_PORT_FAR_KIND 0 0 3, by decide +kernel⟩,
   ⟨0, clm, (({ z with twin := { z.twin with claiming := true }, disc := { z.disc with beacons := [(0, { bcn with kind := 2 }), (1, { bcn with kind := 2 })] } }).pi F.PORT_STATUS_STATE 0 2).pi F.PORT_STATUS_STATE 1 2, by decide +kernel⟩,
   ⟨{ clm with denied := true }, { z with twin := { z.twin with claiming := true } }, by decide +kernel⟩,
   ⟨z.p F.TWIN_STATUS_STATE 2, by decide +kernel⟩⟩

theorem wit_TwinSwitchComplete :
    (∃ (s : State), s.pair = Pair.active ∧ s.twin.stopped = false ∧ s.twin.switchWanted = false) ∧
    (∃ (s : State), s.pair = Pair.active ∧ s.twin.stopped = false ∧ s.twin.switchWanted = false) ∧
    (∃ (d : Bool) (h : Bool) (s : State), s.pair = Pair.active ∧ s.twin.stopped = false ∧ s.twin.switchWanted = false ∧
      (d && h) = false) ∧
    (∃ (s : State), s.pair = Pair.standby) ∧
    (∃ (s : State), s.switching = true ∧ s.b F.TWIN_STATUS_HANDOVER = true) ∧
    (∃ (r : Nat) (s : State), s.twin.switchRound = some r ∧ r ≤ s.round ∧ s.isActive = true ∧ s.twin.actsAt = none) ∧
    (∃ (s : State), s.switching = true ∧ s.twin.switchRound = none ∧ s.twin.switchSince + 65536 ≤ s.round) ∧
    (∃ (s : State), s.switching = true ∧ s.twin.switchRound = none) ∧
    (∃ (s : State), s.isPrimary = true ∧ s.b F.TWIN_CFG_AUTO_RETURN = true ∧ s.pair = Pair.standby ∧
      s.twin.standbySince + s.g F.TWIN_CFG_RETURN_DELAY ≤ s.round ∧ s.bell.install = none ∧ s.rep.batch = [] ∧
      s.twin.switchWanted = false) ∧
    (∃ (r : Nat) (s : State), s.twin.drillReturn = some r ∧ r ≤ s.round ∧ s.pair = Pair.standby) ∧
    (∃ (s : State), s.shadowing = true) ∧
    (∃ (f : Nat), f < 2) ∧
    (∃ (r : Nat) (s : State), s.twin.switchRound = some r ∧ r ≤ s.round ∧ s.pair = Pair.standby ∧ s.twin.claiming = false) ∧
    (∃ (r : Nat) (s : State), s.switching = true ∧ s.twin.switchRound = some r ∧ s.round < r) :=
  ⟨⟨z.p F.TWIN_STATUS_STATE 2, by decide +kernel⟩,
   ⟨z.p F.TWIN_STATUS_STATE 2, by decide +kernel⟩,
   ⟨true, false, z.p F.TWIN_STATUS_STATE 2, by decide +kernel⟩,
   ⟨z.p F.TWIN_STATUS_STATE 4, by decide +kernel⟩,
   ⟨(({ z with twin := { z.twin with switchWanted := true } }).p F.TWIN_STATUS_STATE 2).p F.TWIN_STATUS_HANDOVER 1,
     by decide +kernel⟩,
   ⟨0, ({ z with twin := { z.twin with switchRound := some 0 } }).p F.TWIN_STATUS_STATE 2, by decide +kernel⟩,
   ⟨(({ z with twin := { z.twin with switchWanted := true } }).p F.TWIN_STATUS_STATE 2).p F.BELL_ROUND_ROUND 65536,
     by decide +kernel⟩,
   ⟨({ z with twin := { z.twin with switchWanted := true } }).p F.TWIN_STATUS_STATE 2, by decide +kernel⟩,
   ⟨((z.p F.TWIN_STATUS_STATE 4).p F.TWIN_CFG_AUTO_RETURN 1).p F.BELL_ROUND_ROUND 100000000, by decide +kernel⟩,
   ⟨0, ({ z with twin := { z.twin with drillReturn := some 0 } }).p F.TWIN_STATUS_STATE 4, by decide +kernel⟩,
   ⟨z.p F.TWIN_STATUS_STATE 3, by decide +kernel⟩,
   ⟨1, by decide +kernel⟩,
   ⟨5, (({ z with twin := { z.twin with switchRound := some 5 } }).p F.BELL_ROUND_ROUND 5).p F.TWIN_STATUS_STATE 4,
     by decide +kernel⟩,
   ⟨5, ({ z with twin := { z.twin with switchRound := some 5, switchWanted := true } }).p F.TWIN_STATUS_STATE 2,
     by decide +kernel⟩⟩

theorem wit_PowerCommandsComplete :
    (∃ (m : Pace) (s : State), m ∈ s.pwr.pace ∧ 3 ≤ m.row ∧ s.raiseBarred = false ∧
      s.g F.PWR_STATUS_CORE_MV + 5 ≤ s.ceilingMv) ∧
    (∃ (counts : List Nat) (s : State), (∀ m ∈ s.pwr.pace, s.paceWant m.engine ≤ counts.getD (m.engine - 1) 0 ∧ m.row = 0 ∧
      m.fast = false) ∧ s.pwr.pace ≠ []) ∧
    (∃ (deciC : Nat), deciC < 1050) ∧
    (∃ (deciC : Nat), 1050 ≤ deciC ∧ deciC < 4096) ∧
    (∃ (engine : Nat) (m : Pace) (s : State), s.paceOf engine = some m ∧ s.paceShort engine = true ∧ s.railSpent = true) ∧
    (∃ (engine : Nat) (s : State), s.gi F.PWR_PACE_DEFICIT engine = 1) ∧
    (∃ (ma : Nat) (s : State), s.pwr.feedEconomy = false ∧ 16000 ≤ ma ∧ s.gi F.TWIN_FEED_STATE 0 < 2 ∧
      2 ≤ s.gi F.TWIN_FEED_STATE 1) ∧
    (∃ (ma : Nat) (s : State), ma < 14000 ∧ s.pwr.feedCalm = none) ∧
    (∃ (ma : Nat) (s : State), s.pwr.feedEconomy = false ∧ 14000 ≤ ma) ∧
    (∃ (ma : Nat) (s : State), s.pwr.feedEconomy = true ∧ s.g F.PWR_STATUS_CORE_MV ≤ 600 ∧ 16000 ≤ ma ∧
      s.gi F.TWIN_FEED_STATE 0 < 2 ∧ 2 ≤ s.gi F.TWIN_FEED_STATE 1) ∧
    (∃ (f : Nat) (mv : Nat) (s : State), s.pwr.enable = true ∧ s.pwr.started = false ∧ s.pwr.tripped = false ∧
      s.pwr.standbyUp = true ∧ f < 2 ∧ State.feedState (s.gi F.TWIN_FEED_STATE f) mv = 0) :=
  ⟨⟨⟨1, 0, 0, 3, 0, true, [], 0, 0⟩, (({ z with pwr := { z.pwr with pace := [⟨1, 0, 0, 3, 0, true, [], 0, 0⟩] } }).p F.PWR_STATUS_CORE_MV 595).p F.PWR_STATUS_CEILING 0, by decide +kernel⟩,
   ⟨[], { z with pwr := { z.pwr with pace := [⟨1, 0, 0, 0, 0, false, [], 0, 0⟩] } }, by decide +kernel⟩,
   ⟨1049, by decide +kernel⟩,
   ⟨4095, by decide +kernel⟩,
   ⟨1, ⟨1, 0, 0, 0, 64, true, [], 0, 0⟩,
     (({ z with pwr := { z.pwr with pace := [⟨1, 0, 0, 0, 64, true, [], 0, 0⟩], windows := 64 } }).p F.PWR_STATUS_CORE_MV 600).p F.PWR_STATUS_CEILING 0, by decide +kernel⟩,
   ⟨1, z.pi F.PWR_PACE_DEFICIT 1 1, by decide +kernel⟩,
   ⟨16000, z.pi F.TWIN_FEED_STATE 1 2, by decide +kernel⟩,
   ⟨13999, z, by decide +kernel⟩,
   ⟨15500, z.pi F.TWIN_FEED_STATE 1 2, by decide +kernel⟩,
   ⟨16000, (({ z with pwr := { z.pwr with feedEconomy := true } }).pi F.TWIN_FEED_STATE 1 2).p F.PWR_STATUS_CORE_MV 600,
     by decide +kernel⟩,
   ⟨0, 72000, { z with pwr := { z.pwr with enable := true, started := false, tripped := false, standbyUp := true } },
     by decide +kernel⟩⟩

theorem wit_UnitRetirementComplete :
    (∃ (physical : Nat) (s : State), physical ∉ s.pwr.banksRetired ∧ 0 < s.g F.IDENT_INTERNAL_BANK_SPARES) ∧
    (∃ (physical : Nat) (s : State), physical ∉ s.pwr.lanesRetired ∧ 0 < s.g F.IDENT_INTERNAL_GF_SPARES) ∧
    (∃ (physical : Nat) (s : State), physical ∉ s.pwr.lanesRetired ∧ s.g F.IDENT_INTERNAL_GF_SPARES = 0) ∧
    (∃ (physical : Nat) (s : State), physical ∉ s.pwr.banksRetired ∧ 0 < s.g F.IDENT_INTERNAL_BANK_SPARES) ∧
    (∃ (package : Nat) (s : State), package ∉ s.pwr.packagesRetired ∧ s.plan.cur = none) ∧
    (∃ (physical : Nat) (s : State), physical ∉ s.pwr.banksRetired) ∧
    (∃ (physical : Nat) (s : State), physical ∉ s.pwr.banksRetired) ∧
    (∃ (package : Nat) (s : State), package ∉ s.pwr.packagesRetired) :=
  ⟨⟨1, z, by decide +kernel⟩,
   ⟨1, z, by decide +kernel⟩,
   ⟨1, z.p F.IDENT_INTERNAL_GF_SPARES 0, by decide +kernel⟩,
   ⟨1, z, by decide +kernel⟩,
   ⟨1, z, by decide +kernel⟩,
   ⟨0, z, by decide +kernel⟩,
   ⟨0, z, by decide +kernel⟩,
   ⟨0, z, by decide +kernel⟩⟩

theorem wit_SupplyCommandsComplete :
    (∃ (s : State), s.g F.BELF_STATUS_STATE ≠ 1 ∧ s.g F.BELF_STATUS_STATE ≠ 3 ∧ s.belf.queue.length < queueCapacity) ∧
    (∃ (s : State), s.pwr.started = false ∧ s.pwr.tripped = false ∧ s.pwr.standbyUp = true ∧
      (s.gi F.TWIN_FEED_STATE 0 = 0 ∨ s.gi F.TWIN_FEED_STATE 1 = 0)) ∧
    (∃ (s : State), s.pwr.tripped = true) ∧
    (∃ (s : State), s.pwr.started = true) ∧
    (∃ (s : State), s.pwr.started = true) ∧
    (∃ (deciC : Nat) (s : State), 1120 ≤ deciC ∧ s.pwr.started = true) ∧
    (∃ (rail : Nat), rail < 9) ∧
    (∃ (r : StageResult) (s : State), s.pwr.started = true ∧ s.g F.PWR_STATUS_STAGE = 0 ∧ r.ok = true) ∧
    (∃ (r : StageResult) (s : State), s.pwr.started = true ∧ s.g F.PWR_STATUS_STAGE = 1 ∧ r.ok = false) ∧
    (∃ (r : StageResult) (s : State), s.pwr.started = true ∧ s.g F.PWR_STATUS_STAGE ≤ 8 ∧ r.ok = true ∧ r.failed = [] ∧
      (s.g F.PWR_STATUS_STAGE = 2 → (s.slotFor []).isSome = true)) ∧
    (∃ (p : Plan) (s : State), s.pwr.started = true ∧ s.g F.PWR_STATUS_STAGE = 9 ∧ s.isActive = true ∧ s.plan.cur = some p) ∧
    (∃ (r : StageResult) (s : State), s.pwr.started = true ∧ s.g F.PWR_STATUS_STAGE = 10 ∧ s.isActive = true ∧ r.ok = true ∧
      s.discState = DState.bound) ∧
    (∃ (s : State), s.pwr.started = true ∧ s.g F.PWR_STATUS_STAGE = 11 ∧ s.isActive = true) ∧
    (∃ (r : StageResult) (s : State), s.pwr.started = true ∧ r.ok = false ∧ r.failed = [] ∧
      (s.g F.PWR_STATUS_STAGE ≤ 1 ∨ s.g F.PWR_STATUS_STAGE = 8 ∨ (s.g F.PWR_STATUS_STAGE = 10 ∧ s.isActive = true))) :=
  ⟨⟨z, by decide +kernel⟩,
   ⟨z, by decide +kernel⟩,
   ⟨{ z with pwr := { z.pwr with tripped := true } }, by decide +kernel⟩,
   ⟨{ z with pwr := { z.pwr with started := true } }, by decide +kernel⟩,
   ⟨{ z with pwr := { z.pwr with started := true } }, by decide +kernel⟩,
   ⟨1120, { z with pwr := { z.pwr with started := true } }, by decide +kernel⟩,
   ⟨8, by decide +kernel⟩,
   ⟨⟨true, 0, []⟩, { z with pwr := { z.pwr with started := true } }, by decide +kernel⟩,
   ⟨⟨false, 0, []⟩, ({ z with pwr := { z.pwr with started := true } }).p F.PWR_STATUS_STAGE 1, by decide +kernel⟩,
   ⟨⟨true, 0, []⟩, ({ z with pwr := { z.pwr with started := true } }).p F.PWR_STATUS_STAGE 3, by decide +kernel⟩,
   ⟨pl, (({ z with pwr := { z.pwr with started := true }, plan := { z.plan with cur := some pl } }).p F.PWR_STATUS_STAGE 9).p F.TWIN_STATUS_STATE 2, by decide +kernel⟩,
   ⟨⟨true, 0, []⟩, ((({ z with pwr := { z.pwr with started := true } }).p F.PWR_STATUS_STAGE 10).p F.TWIN_STATUS_STATE 2).p F.DISC_STATUS_STATE 4, by decide +kernel⟩,
   ⟨(({ z with pwr := { z.pwr with started := true } }).p F.PWR_STATUS_STAGE 11).p F.TWIN_STATUS_STATE 2, by decide +kernel⟩,
   ⟨⟨false, 0, []⟩, ({ z with pwr := { z.pwr with started := true } }).p F.PWR_STATUS_STAGE 8, by decide +kernel⟩⟩

theorem wit_ResetCommandsComplete :
    (∃ (s : State), s.resetState = RState.running ∧ s.pair = Pair.solo) ∧
    (∃ (s : State), s.resetState = RState.running ∧ s.pair = Pair.solo) ∧
    (∃ (s : State), (s.resetState = RState.waiting ∨ s.resetState = RState.draining)) ∧
    (∃ (s : State), s.resetState = RState.waiting ∧ s.pair = Pair.solo ∧ s.quietLanes = true ∧ s.graph.tasks = []) ∧
    (∃ (s : State), s.resetState = RState.waiting ∧ s.pwr.resetForce = false ∧
      s.pwr.waitFrom + s.g F.PWR_CFG_RESET_WAIT ≤ s.round) ∧
    (∃ (s : State), s.resetState < 3) ∧
    (∃ (s : State), s.resetState = RState.resetting ∧ s.pwr.resetFull = false) ∧
    (∃ (s : State), s.resetState ≠ RState.waiting) ∧
    (∃ (s : State), s.resetState = RState.waiting ∧ s.pair = Pair.solo ∧ s.quietLanes = true) ∧
    (∃ (s : State), s.resetState = RState.running ∧ s.pair ≠ Pair.solo ∧ s.pair ≠ Pair.active) ∧
    (∃ (s : State), s.resetState = RState.running ∧ s.pair = Pair.active) ∧
    (∃ (s : State), s.resetState = RState.running ∧ s.pair = Pair.active) ∧
    (∃ (s : State), s.resetState = RState.running ∧ s.pair = Pair.solo) ∧
    (∃ (s : State), s.resetState = RState.running ∧ s.pair ≠ Pair.solo ∧ s.pair ≠ Pair.active) :=
  ⟨⟨z.p F.TWIN_STATUS_STATE 1, by decide +kernel⟩,
   ⟨z.p F.TWIN_STATUS_STATE 1, by decide +kernel⟩,
   ⟨z.p F.PWR_STATUS_RESET 2, by decide +kernel⟩,
   ⟨(z.p F.TWIN_STATUS_STATE 1).p F.PWR_STATUS_RESET 1, by decide +kernel⟩,
   ⟨(z.p F.PWR_STATUS_RESET 1).p F.BELL_ROUND_ROUND 100000000, by decide +kernel⟩,
   ⟨z, by decide +kernel⟩,
   ⟨z.p F.PWR_STATUS_RESET 3, by decide +kernel⟩,
   ⟨z, by decide +kernel⟩,
   ⟨(z.p F.PWR_STATUS_RESET 1).p F.TWIN_STATUS_STATE 1, by decide +kernel⟩,
   ⟨z.p F.TWIN_STATUS_STATE 4, by decide +kernel⟩,
   ⟨z.p F.TWIN_STATUS_STATE 2, by decide +kernel⟩,
   ⟨z.p F.TWIN_STATUS_STATE 2, by decide +kernel⟩,
   ⟨z.p F.TWIN_STATUS_STATE 1, by decide +kernel⟩,
   ⟨z.p F.TWIN_STATUS_STATE 4, by decide +kernel⟩⟩

theorem wit_UpdateCommandsComplete :
    (∃ (i : Nat), i < 1023) ∧
    (∃ (s : State), s.g F.PWR_FW_STATUS_STATE ≠ 4) ∧
    (∃ (s : State), s.g F.PWR_FW_STATUS_STATE = 2 ∧ s.pair = Pair.solo ∧ s.resetState = RState.running) ∧
    (∃ (s : State), s.g F.PWR_FW_STATUS_STATE ≠ 4) ∧
    (∃ (s : State), s.pwr.applying = true ∧ s.g F.IDENT_FW_SLOT = s.pwr.preferred ∧ 1024 ≤ s.pwr.goodRounds) :=
  ⟨⟨1022, by decide +kernel⟩,
   ⟨z, by decide +kernel⟩,
   ⟨(z.p F.PWR_FW_STATUS_STATE 2).p F.TWIN_STATUS_STATE 1, by decide +kernel⟩,
   ⟨z, by decide +kernel⟩,
   ⟨{ z with pwr := { z.pwr with applying := true, goodRounds := 1024 } }, by decide +kernel⟩⟩

theorem wit_AgentFrames : ∃ t, exec (.neighbourSilent 0 0) z = .next t := ⟨_, rfl⟩

theorem wit_InstallFrames : ∃ t, exec .loadBegin z = .next t := ⟨_, rfl⟩

theorem wit_CupolaFrames : ∃ t, exec (.carve 0 0) z = .next t := ⟨_, rfl⟩

theorem wit_GuardianFrames : ∃ t, exec (.lendingInAccumulation 0 0 0 0 []) z = .next t := ⟨_, rfl⟩

theorem wit_ServiceFrames : ∃ t, exec (.scpDatagramDiscard 0) z = .next t := ⟨_, rfl⟩

theorem wit_RecorderFrames : ∃ t, exec (.belfryEvent 0 0 0) z = .next t := ⟨_, rfl⟩

theorem wit_TimeAndKeyFrames : ∃ t, exec (.filterActivation 0) z = .next t := ⟨_, rfl⟩

theorem wit_TwinAndPowerFrames : ∃ t, exec (.paceWindow []) z = .next t := ⟨_, rfl⟩

end Sys2Proof.Tests
end

section
/-! SUPPORT. The end of a command, settled: what the refresh of the status fields leaves alone, and that after it the status
fields and the output pins agree with the rest of the state. -/
namespace Sys2Proof.Machine

/-- A write is invisible to a reading of the listed words that takes nothing from the written key. -/
theorem RegMap.filterMap_insert {β : Type} (g : Key × Word → Option β) {x : Key} (hg : ∀ w, g (x, w) = none) (m : RegMap)
    (v : Word) : (m.insert x v).filterMap g = m.filterMap g := by
  induction m with
  | nil => simp [RegMap.insert, hg]
  | cons e m ih =>
    obtain ⟨k, w⟩ := e
    unfold RegMap.insert
    split
    · next hk => subst hk; simp [hg]
    · split
      · simp [hg]
      · simp [List.filterMap_cons, ih]

theorem RegMap.filterMap_erase {β : Type} (g : Key × Word → Option β) {x : Key} (hg : ∀ w, g (x, w) = none) (m : RegMap) :
    (m.erase x).filterMap g = m.filterMap g := by
  induction m with
  | nil => rfl
  | cons e m ih =>
    obtain ⟨k, w⟩ := e
    simp only [RegMap.erase, List.filter_cons] at ih ⊢
    split
    · simp only [List.filterMap_cons, ih]
    · next hk =>
      have hkx : k = x := by simpa using hk
      subst hkx
      simpa [hg] using ih

theorem RegMap.filterMap_put {β : Type} (g : Key × Word → Option β) {x : Key} (hg : ∀ w, g (x, w) = none) (m : RegMap)
    (d v : Word) : (m.put x d v).filterMap g = m.filterMap g := by
  unfold RegMap.put
  split
  · exact RegMap.filterMap_erase g hg m
  · exact RegMap.filterMap_insert g hg m v

theorem RegMap.filter_put (p : Key × Word → Bool) {x : Key} (hp : ∀ w, p (x, w) = false) (m : RegMap) (d v : Word) :
    (m.put x d v).filter p = m.filter p := by
  rw [← List.filterMap_eq_filter]
  exact RegMap.filterMap_put _ (fun w => by simp [Option.guard, hp w]) m d v

namespace State

/-- A field write leaves the listed words of every other register alone. -/
theorem listed_pa (s : State) (f : Fld) {r : Reg} (n i v : Nat) (h : f.reg ≠ r) : (s.pa f n i v).listed r = s.listed r :=
  have hr : f.reg.ctorIdx ≠ r.ctorIdx := mt Reg.ctorIdx_inj h
  RegMap.filterMap_put _ (fun w => by simp [keyOf, hr]) _ _ _

/-- A field write outside the queue pairs leaves their count alone. -/
theorem liveQps_pa (s : State) (f : Fld) (n i v : Nat) (h : f.reg ≠ .ETH_QP_WORD) : (s.pa f n i v).liveQps = s.liveQps :=
  have hr : f.reg.ctorIdx ≠ Reg.ETH_QP_WORD.ctorIdx := mt Reg.ctorIdx_inj h
  congrArg List.length (RegMap.filter_put _ (fun w => by simp [keyOf, hr]) _ _ _)

/-- What every write of a status field and every change of the pins keeps, the end of a command keeps. -/
theorem settle_keeps {α : Type} (q : State → α) (s : State) (hq : ∀ f ∈ statusFields, ∀ t v, q (t.p f v) = q t)
    (hpins : ∀ t y, q { t with pins := y } = q t) : q s.settle = q s := by
  have hfold : ∀ (l : List (Fld × (State → Nat))) (t : State), (∀ f ∈ l.map Prod.fst, ∀ t v, q (t.p f v) = q t) →
      q (l.foldl (fun t e => t.p e.1 (e.2 s)) t) = q t := by
    intro l
    induction l with
    | nil => intro t _; rfl
    | cons e l ih =>
      intro t hl
      rw [List.foldl_cons, ih _ (fun f hf => hl f (List.mem_cons_of_mem _ hf)), hl e.1 (by simp)]
  rw [settle, hpins]
  exact hfold derived s hq

theorem ne_of_mem_statusFields {r : Reg} (h : r.settled = true) {f : Fld} (hf : f ∈ statusFields) : f.reg ≠ r := by
  simpa using List.all_eq_true.mp h f hf

/-- The listed words of a register without status fields stay. -/
@[simp] theorem settle_listed (s : State) (r : Reg) (h : r.settled = true) : s.settle.listed r = s.listed r :=
  settle_keeps (fun t => t.listed r) s (fun f hf t v => listed_pa t f 0 0 v (ne_of_mem_statusFields h hf)) (fun _ _ => rfl)

@[simp] theorem settle_liveQps (s : State) : s.settle.liveQps = s.liveQps :=
  settle_keeps liveQps s (fun f hf t v => liveQps_pa t f 0 0 v (ne_of_mem_statusFields (by decide) hf)) (fun _ _ => rfl)

-- The counts and summaries that the status fields show are read from what no status field touches

@[simp] theorem settle_cupolasIn (s : State) (st : Nat) : s.settle.cupolasIn st = s.cupolasIn st := by
  simp (disch := decide) [cupolasIn]

@[simp] theorem settle_groupsIn (s : State) (st : Nat) : s.settle.groupsIn st = s.groupsIn st := by
  simp (disch := decide) [groupsIn]

@[simp] theorem settle_channelsIn (s : State) (a b : Nat) : s.settle.channelsIn a b = s.channelsIn a b := by
  simp (disch := decide) [channelsIn]

@[simp] theorem settle_positionsIn (s : State) (a b : Nat) : s.settle.positionsIn a b = s.positionsIn a b := by
  simp (disch := decide) [positionsIn]

@[simp] theorem settle_agreedSlots (s : State) : s.settle.agreedSlots = s.agreedSlots := by
  simp (disch := decide) [agreedSlots]

@[simp] theorem settle_attestState (s : State) : s.settle.attestState = s.attestState := by
  simp (disch := decide) [attestState]

@[simp] theorem settle_criticalLatched (s : State) : s.settle.criticalLatched = s.criticalLatched := by
  simp (disch := decide) [criticalLatched]

/-- No status field's value depends on a status field: the refresh changes none of the values that it writes. -/
theorem settle_derived (s : State) : ∀ e ∈ derived, e.2 s.settle = e.2 s := by
  rw [← List.map_inj_left]
  have hheld : s.settle.listed .BELL_HELD = s.listed .BELL_HELD := settle_listed s _ (by decide)
  have hgroup : s.settle.listed .GRD_GROUP = s.listed .GRD_GROUP := settle_listed s _ (by decide)
  simp only [derived, List.map_cons, List.map_nil, hheld, hgroup]
  simp (disch := decide)

/-- The output pins are read from what the end of a command leaves alone. -/
theorem settle_pinsNow (s : State) : s.settle.pinsNow = s.pinsNow := by
  simp (disch := decide) [pinsNow]

/-- The status fields share no bit, and each fits its word. -/
theorem statusFields_apart : statusFields.Pairwise (fun a b => b.apart a = true) ∧ ∀ f ∈ statusFields, f.lo + f.len ≤ 64 := by
  decide +kernel

/-- Fields that share no bit, written in turn, each hold their own value afterwards. -/
theorem foldl_p_ga_mem (l : List (Fld × (State → Nat))) (s t : State)
    (ha : (l.map Prod.fst).Pairwise (fun a b => b.apart a = true)) (hw : ∀ f ∈ l.map Prod.fst, f.lo + f.len ≤ 64) :
    ∀ e ∈ l, (l.foldl (fun t e => t.p e.1 (e.2 s)) t).ga e.1 0 0 = e.2 s % 2 ^ e.1.len := by
  induction l generalizing t with
  | nil => simp
  | cons d l ih =>
    rw [List.map_cons, List.pairwise_cons] at ha
    intro e he
    rw [List.foldl_cons]
    rcases List.mem_cons.mp he with rfl | he
    · rw [foldl_p_ga l s _ e.1 0 0 (List.all_eq_true.mpr ha.1)]
      exact ga_pa_same t e.1 0 0 _ (hw e.1 (by simp))
    · exact ih _ ha.2 (fun f hf => hw f (List.mem_cons_of_mem _ hf)) e he

/-- A status field holds its value after the end of a command. -/
theorem settle_ga_derived (s : State) : ∀ e ∈ derived, s.settle.ga e.1 0 0 = e.2 s % 2 ^ e.1.len := by
  intro e he
  rw [ga_of_regs s.settle_regs, refresh]
  exact foldl_p_ga_mem derived s s statusFields_apart.1 statusFields_apart.2 e he

/-- After the end of a command the status fields agree with the state. -/
theorem settle_coherent (s : State) : s.settle.coherent = true := by
  rw [coherent, List.all_eq_true]
  intro e he
  rw [g_eq, settle_ga_derived s e he, settle_derived s e he, beq_self_eq_true]

/-- After the end of a command the pins are those that the state asks for. -/
theorem settle_pins_eq (s : State) : s.settle.pins = s.settle.pinsNow := by
  rw [settle_pins, settle_pinsNow]

end State

/-- Every command ends: none faults, none is refused. -/
theorem exec_finishes (c : Instr) (s : State) : ∃ u, exec c s = finish u := by
  cases c <;> exact ⟨_, rfl⟩

/-- Settles O2: every command ends by bringing the status fields and the pins up to date, and that changes nothing that
they are read from. -/
theorem everyCommandCompletes : Obligations.EveryCommandCompletes := by
  intro c s
  obtain ⟨u, hu⟩ := exec_finishes c s
  exact ⟨u.settle, hu, u.settle_coherent, u.settle_pins_eq⟩

end Sys2Proof.Machine
end

section
/-! SUPPORT. The host's door: what a request that is served at once runs on, the response that leaves for it, and the end of
a command that no task's end follows. -/
namespace Sys2Proof.Machine
namespace State

-- The end of a command that leaves the services' tasks and ring alone

@[simp] theorem foldsLost_nil (t : State) : t.foldsLost [] = t := by
  have hnone : t.grd.groups.filter (fun _ => false) = [] := List.filter_eq_nil_iff.mpr (fun _ _ => Bool.false_ne_true)
  simp only [foldsLost, List.contains_nil, Bool.false_and, hnone, List.foldl_nil, List.map_nil, List.eraseDups_nil]

/-- Where no task has ended nothing follows, but that operations whose task is gone are forgotten. -/
theorem after_eq {s t : State} (h : t.graph = s.graph) :
    s.after t = { t with eth := { t.eth with ops := t.eth.ops.filter (fun o => t.graph.tasks.any (fun x => x.idx == o.idx)),
                                             waiting := t.eth.waiting.filter (fun o => t.graph.tasks.any (fun x => x.idx == o.idx)) } } := by
  simp [after, follow, dropUnacked, unacked, endedSince, h]

theorem after_regs {s t : State} (h : t.graph = s.graph) : (s.after t).regs = t.regs := by rw [after_eq h]
theorem after_answer {s t : State} (h : t.graph = s.graph) : (s.after t).answer = t.answer := by rw [after_eq h]
theorem after_sent {s t : State} (h : t.graph = s.graph) : (s.after t).sent = t.sent := by rw [after_eq h]
theorem after_sessions {s t : State} (h : t.graph = s.graph) : (s.after t).eth.sessions = t.eth.sessions := by rw [after_eq h]
theorem after_rd {s t : State} (h : t.graph = s.graph) (r : Reg) (n i : Nat) : (s.after t).rd r n i = t.rd r n i :=
  rd_of_regs (after_regs h) r n i

-- Sessions (R270)

theorem sessionOf_of_sessions {s t : State} (h : t.eth.sessions = s.eth.sessions) (k : Nat) : t.sessionOf k = s.sessionOf k := by
  simp only [sessionOf, h]

theorem find_updWhere (l : List Session) (k : Nat) (f : Session → Session) (hf : ∀ x, (f x).id = x.id) :
    (updWhere (fun x => x.id == k) f l).find? (fun x => x.id == k) = (l.find? (fun x => x.id == k)).map f := by
  have hp : (fun x : Session => x.id == k) ∘ (fun x => if x.id == k then f x else x) = fun x => x.id == k := by
    funext x; simp only [Function.comp]; split <;> simp [hf]
  rw [updWhere, List.find?_map, hp]
  cases hx : l.find? (fun x => x.id == k) with
  | none => rfl
  | some x => exact congrArg some (if_pos (List.find?_some (p := fun x : Session => x.id == k) hx))

@[simp] theorem bump_sessionOf (s : State) (r : Reg) (n i k sess : Nat) : (s.bump r n i k).sessionOf sess = s.sessionOf sess :=
  sessionOf_of_sessions rfl sess

/-- A session that was changed is found changed. -/
theorem sessionOf_updSession (s : State) (k : Nat) (f : Session → Session) (hf : ∀ x, (f x).id = x.id) :
    (s.updSession k f).sessionOf k = (s.sessionOf k).map f := find_updWhere _ k f hf

-- A request is heard

/-- The frame of a request is counted, and its session has been heard in this round or is new (R267, R270). -/
def heard (s : State) (h : ScpHdr) : State :=
  let s0 := s.count .ETH_COUNT 0
  if (s0.sessionOf h.sess).isSome then s0.updSession h.sess (fun x => { x with last := s.round })
  else { s0 with eth := { s0.eth with sessions := s0.eth.sessions ++ [⟨h.sess, s.round, [], none, [], none⟩] } }

theorem opened_eq_heard (s : State) (h : ScpHdr) : s.opened h = ((s.heard h).addressed h).ok := rfl

theorem heard_of_some {s : State} {h : ScpHdr} {x : Session} (hx : s.sessionOf h.sess = some x) :
    s.heard h = (s.bump .ETH_COUNT 0 0 1).updSession h.sess (fun x => { x with last := s.round }) := by
  have : ((s.count .ETH_COUNT 0).sessionOf h.sess).isSome = true := by
    rw [count_eq, bump_sessionOf, hx]; rfl
  rw [heard]; exact if_pos this

theorem heard_of_none {s : State} {h : ScpHdr} (hx : s.sessionOf h.sess = none) :
    s.heard h = { s.bump .ETH_COUNT 0 0 1 with
      eth := { s.eth with sessions := s.eth.sessions ++ [⟨h.sess, s.round, [], none, [], none⟩] } } := by
  have : ¬((s.count .ETH_COUNT 0).sessionOf h.sess).isSome = true := by
    rw [count_eq, bump_sessionOf, hx]; decide
  rw [heard]; exact if_neg this

/-- A session that has been heard and waits for nothing is found so; a new one waits for nothing. -/
theorem sessionOf_heard (s : State) (h : ScpHdr) :
    ∃ x, (s.heard h).sessionOf h.sess = some x ∧ x.remote = (s.sessionOf h.sess).bind (fun y => y.remote) := by
  cases hs : s.sessionOf h.sess with
  | some x =>
    refine ⟨{ x with last := s.round }, ?_, rfl⟩
    rw [heard_of_some hs, sessionOf_updSession, bump_sessionOf, hs]
    · rfl
    · exact fun _ => rfl
  | none =>
    refine ⟨⟨h.sess, s.round, [], none, [], none⟩, ?_, rfl⟩
    rw [heard_of_none hs]
    have : s.eth.sessions.find? (fun x => x.id == h.sess) = none := hs
    simp [sessionOf, List.find?_append, this]

/-- Hearing a request changes a counter of the port and its sessions. -/
theorem heard_eq (s : State) (h : ScpHdr) :
    ∃ l, s.heard h = { s.bump .ETH_COUNT 0 0 1 with eth := { s.eth with sessions := l } } := by
  unfold heard
  dsimp only
  split
  · exact ⟨_, rfl⟩
  · exact ⟨_, rfl⟩

@[simp] theorem heard_pwr (s : State) (h : ScpHdr) : (s.heard h).pwr = s.pwr := by
  obtain ⟨l, e⟩ := s.heard_eq h; rw [e]; rfl
@[simp] theorem heard_rd (s : State) (h : ScpHdr) {r : Reg} (n i : Nat) (hr : .ETH_COUNT ≠ r) :
    (s.heard h).rd r n i = s.rd r n i := by
  obtain ⟨l, e⟩ := s.heard_eq h; rw [e]; exact bump_rd_reg s _ _ _ _ _ _ _ hr
@[simp] theorem heard_ga (s : State) (h : ScpHdr) (f : Fld) (n i : Nat) (hf : .ETH_COUNT ≠ f.reg) :
    (s.heard h).ga f n i = s.ga f n i := by
  simp only [ga, heard_rd s h n i hf]

@[simp] theorem heard_resetState (s : State) (h : ScpHdr) : (s.heard h).resetState = s.resetState := by
  simp (disch := decide) [resetState]
@[simp] theorem heard_macsec (s : State) (h : ScpHdr) : (s.heard h).macsec = s.macsec := by
  simp (disch := decide) [macsec, confidential]
@[simp] theorem heard_passive (s : State) (h : ScpHdr) : (s.heard h).passive = s.passive := by
  simp (disch := decide) [passive, pair]
@[simp] theorem heard_inRecovery (s : State) (h : ScpHdr) : (s.heard h).inRecovery = s.inRecovery := by
  simp (disch := decide) [inRecovery]

/-- The operation of a request runs on a state that differs in a counter of the port, its sessions and the answer. -/
theorem opened_eq (s : State) (h : ScpHdr) :
    ∃ l a, s.opened h = { s.bump .ETH_COUNT 0 0 1 with eth := { s.eth with sessions := l }, answer := a } := by
  obtain ⟨l, e⟩ := s.heard_eq h
  rw [opened_eq_heard, e]
  exact ⟨l, _, rfl⟩

@[simp] theorem opened_plan (s : State) (h : ScpHdr) : (s.opened h).plan = s.plan := by
  obtain ⟨l, a, e⟩ := s.opened_eq h; rw [e]; rfl
@[simp] theorem opened_disc (s : State) (h : ScpHdr) : (s.opened h).disc = s.disc := by
  obtain ⟨l, a, e⟩ := s.opened_eq h; rw [e]; rfl
@[simp] theorem opened_graph (s : State) (h : ScpHdr) : (s.opened h).graph = s.graph := by
  obtain ⟨l, a, e⟩ := s.opened_eq h; rw [e]; rfl
@[simp] theorem opened_sent (s : State) (h : ScpHdr) : (s.opened h).sent = s.sent := by
  obtain ⟨l, a, e⟩ := s.opened_eq h; rw [e]; rfl
@[simp] theorem opened_rd (s : State) (h : ScpHdr) {r : Reg} (n i : Nat) (hr : .ETH_COUNT ≠ r) :
    (s.opened h).rd r n i = s.rd r n i := by
  obtain ⟨l, a, e⟩ := s.opened_eq h; rw [e]; exact bump_rd_reg s _ _ _ _ _ _ _ hr
@[simp] theorem opened_ga (s : State) (h : ScpHdr) (f : Fld) (n i : Nat) (hf : .ETH_COUNT ≠ f.reg) :
    (s.opened h).ga f n i = s.ga f n i := by
  simp only [ga, opened_rd s h n i hf]

/-- The session of a served request is there when its operation runs. -/
theorem sessionOf_opened (s : State) (h : ScpHdr) : ∃ x, (s.opened h).sessionOf h.sess = some x := by
  obtain ⟨x, hx, _⟩ := s.sessionOf_heard h
  exact ⟨x, by rw [opened_eq_heard, ← hx]; rfl⟩

-- A request that is served at once

/-- What follows a request's operation: its response, unless it waits for an access. -/
def concluded (h : ScpHdr) (x : State × Bool) : State := if x.2 then x.1.respond h else x.1

/-- Execution of a request that nothing holds back: its own operation. -/
theorem execute_eq {s : State} {q : Req} (hretry : q.h.retry = false)
    (hreset : ¬(RState.resetting ≤ s.resetState && (q.op ≠ .attest || s.pwr.resetFull)) = true)
    (hmac : ¬(s.macsec && !s.b F.ETH_STATUS_SECURED && !beforeSecured q.op) = true)
    (hpass : ¬(s.passive && !passiveServes q.op) = true) (hrec : ¬(s.inRecovery && !recoveryOp q.op) = true) :
    s.execute q = concluded q.h ((s.addressed q.h).ok.serveOp q) := by
  unfold execute concluded
  dsimp only
  rw [if_neg hreset, if_neg (by simp [hretry]), if_neg hmac, if_neg hpass, if_neg hrec]
  obtain ⟨t, answered⟩ := (s.addressed q.h).ok.serveOp q
  cases answered <;> rfl

/-- A gate that is off, or that lets the operation pass, holds nothing back. -/
theorem gate_open {gate passes : Bool} (h : (!gate || passes) = true) : ¬(gate && !passes) = true := by
  cases gate with
  | false => exact Bool.false_ne_true
  | true => rw [show passes = true from h]; decide

/-- A port without MACsec holds no request back; one with it passes a protected frame, and before it is secured only what
comes before (R266). -/
theorem port_open {mac secured protectedF before : Bool} (h : (!mac || (if secured then protectedF else before)) = true) :
    ¬(mac && !secured && !before) = true ∧ ¬(mac && secured && !protectedF) = true := by
  revert mac secured protectedF before
  decide

/-- A request that is served at once runs its operation (R267, R270 to R273, R431). -/
theorem request_eq {s : State} {q : Req} (hq : s.serves q = true) :
    s.request q = concluded q.h ((s.opened q.h).serveOp q) := by
  simp only [serves, Bool.and_eq_true] at hq
  obtain ⟨⟨⟨⟨⟨⟨hlen, hretry⟩, hmac⟩, hreset⟩, hpass⟩, hrec⟩, hsess⟩ := hq
  obtain ⟨y, hy, hremote⟩ := s.sessionOf_heard q.h
  have hexec : (s.heard q.h).execute q = concluded q.h ((s.opened q.h).serveOp q) := by
    refine execute_eq (by simpa using hretry) ?_ ?_ ?_ ?_
    · simp only [heard_resetState, heard_pwr]
      rcases (by simpa using hreset) with hr | ⟨hop, hfull⟩
      · simp [Nat.not_le.mpr hr]
      · simp [hop, hfull]
    · rw [heard_macsec, b_eq, heard_ga s q.h _ 0 0 (by decide), ← b_eq]
      exact (port_open hmac).1
    · rw [heard_passive]; exact gate_open hpass
    · rw [heard_inRecovery]; exact gate_open hrec
  have hmax : (s.bump .ETH_COUNT 0 0 1).maxPayload = s.maxPayload := by simp (disch := decide) [maxPayload]
  unfold request
  dsimp only
  rw [count_eq, bump_sessionOf, hmax, if_neg (by simpa using hlen), if_neg ?secured, if_neg ?full]
  case secured => exact (port_open hmac).2
  case full =>
    intro hgate
    cases hs : s.sessionOf q.h.sess with
    | some x => simp [hs] at hgate
    | none =>
      simp only [hs, decide_eq_true_eq] at hsess
      simp only [Option.isNone_none, Bool.true_and, decide_eq_true_eq, hs, bump_eth] at hgate
      omega
  cases hs : s.sessionOf q.h.sess with
  | some x =>
    rw [heard_of_some hs] at hy hexec
    have hfree : y.remote.isNone = true := by simpa [hremote, hs] using hsess
    dsimp only
    rw [hy]
    exact (if_pos hfree).trans hexec
  | none =>
    rw [heard_of_none hs] at hy hexec
    have hfree : y.remote.isNone = true := by simp [hremote, hs]
    dsimp only
    rw [bump_eth, hy]
    exact (if_pos hfree).trans hexec

-- The response (Table 10.2)

/-- The frame in which the answer to a request leaves. -/
def responseTo (s : State) (h : ScpHdr) : Emit :=
  ⟨.response, h.sess, h.tag, [s.answer.status, s.answer.detail, s.epoch, s.answer.a, s.answer.b] ++
    s.answer.words.map (fun w => w.toNat), s.answer.bytes⟩

theorem sendResponse_sent (s : State) : s.sendResponse.sent = s.sent ++ [⟨.response, s.answer.sess, s.answer.tag,
    [s.answer.status, s.answer.detail, s.epoch, s.answer.a, s.answer.b] ++ s.answer.words.map (fun w => w.toNat),
    s.answer.bytes⟩] := by
  unfold sendResponse
  dsimp only
  rw [emit_plain_sent _ _ _ _ _ _ rfl]
  split <;> simp (disch := decide) [epoch]

@[simp] theorem sendResponse_graph (s : State) : s.sendResponse.graph = s.graph := by
  unfold sendResponse
  dsimp only
  rw [emit_graph]
  split <;> rfl

@[simp] theorem sendResponse_rd (s : State) {r : Reg} (n i : Nat) (h : .ETH_COUNT ≠ r) : s.sendResponse.rd r n i = s.rd r n i := by
  unfold sendResponse
  dsimp only
  rw [emit_rd]
  split <;> simp [h]

@[simp] theorem respond_graph (s : State) (h : ScpHdr) : (s.respond h).graph = s.graph := sendResponse_graph _
@[simp] theorem respond_rd (s : State) (h : ScpHdr) {r : Reg} (n i : Nat) (hr : .ETH_COUNT ≠ r) :
    (s.respond h).rd r n i = s.rd r n i := sendResponse_rd _ n i hr

/-- The response is the last thing that has left. -/
theorem respond_sent (s : State) (h : ScpHdr) : (s.respond h).sent = s.sent ++ [s.responseTo h] := sendResponse_sent _

end State

/-- A response without a detail has left, with the status and the arguments of the answer. -/
theorem Responded.of_sent {s t : State} {h : ScpHdr} (ht : t.sent = (s.respond h).sent) (hd : s.answer.detail = 0) :
    Responded t h s.answer.status s.answer.a s.answer.b :=
  ⟨s.responseTo h, by simp [ht, State.respond_sent], rfl, rfl, rfl, s.epoch, s.answer.words.map (fun w => w.toNat),
    by simp [State.responseTo, hd]⟩

/-- What follows a command stays within the port where no task ends. -/
theorem Within.after {fs : List Fld} {ps : List (Fld × Nat × Nat)} {parts : List Part} {s u y : State}
    (hg : y.graph = u.graph) (he : Part.eth ∈ parts) (h : Within fs ps parts s y) : Within fs ps parts s (u.after y) := by
  rw [State.after_eq hg]
  refine ⟨fun f n i hf hp => h.1 f n i hf hp, fun p hp => ?_⟩
  have hn := h.2 p hp
  cases p <;> first | exact hn | exact absurd he hp

theorem Yields.imp {c : Instr} {s : State} {p q : State → Prop} (h : Yields c s p) (hpq : ∀ t, p t → q t) : Yields c s q := by
  obtain ⟨t, ht, hp⟩ := h
  exact ⟨t, ht, hpq t hp⟩

end Sys2Proof.Machine
end

section
/-! SUPPORT. Access to registers: where an address lies, what a READ and a WRITE run on, and what a write leaves in a register. -/
namespace Sys2Proof.Machine
namespace State

-- Places

theorem placeOf_congr {s t : State} (hplan : t.plan = s.plan) (hdisc : t.disc = s.disc)
    (hstate : t.ga F.TWIN_STATUS_STATE 0 0 = s.ga F.TWIN_STATUS_STATE 0 0)
    (hspire : t.ga F.IDENT_SITE_SPIRE 0 0 = s.ga F.IDENT_SITE_SPIRE 0 0) (addr : Nat) : t.placeOf addr = s.placeOf addr := by
  have hlocal : ∀ a, t.placeLocal a = s.placeLocal a := fun a => by rw [placeLocal, placeLocal, boundNodes, boundNodes, hdisc]
  simp only [placeOf, isCoordinator, isActive, spire, g_eq, hplan, hstate, hspire, hlocal]

@[simp] theorem opened_placeOf (s : State) (h : ScpHdr) (addr : Nat) : (s.opened h).placeOf addr = s.placeOf addr :=
  placeOf_congr (s.opened_plan h) (s.opened_disc h) (s.opened_ga h _ 0 0 (by decide)) (s.opened_ga h _ 0 0 (by decide)) addr

@[simp] theorem opened_round (s : State) (h : ScpHdr) : (s.opened h).round = s.round := by
  simp (disch := decide) [round]
@[simp] theorem opened_passive (s : State) (h : ScpHdr) : (s.opened h).passive = s.passive := by
  simp (disch := decide) [passive, pair]
@[simp] theorem opened_inRecovery (s : State) (h : ScpHdr) : (s.opened h).inRecovery = s.inRecovery := by
  simp (disch := decide) [inRecovery]
@[simp] theorem opened_confidential (s : State) (h : ScpHdr) : (s.opened h).confidential = s.confidential := by
  simp (disch := decide) [confidential]

/-- An aligned address among the agent windows is an agent's or a hole, on every module (R46). -/
theorem placeOf_agentWindow (s : State) {addr : Nat} (h1 : agentBase ≤ addr) (h2 : addr < agentEnd) :
    (∃ n off, s.placeOf addr = .agent n off) ∨ ∃ d, s.placeOf addr = .hole d := by
  have hlt : addr < 2 ^ 47 := Nat.lt_trans h2 (by decide)
  have hmod : addr % 2 ^ 48 = addr := Nat.mod_eq_of_lt (Nat.lt_trans hlt (by decide))
  have hwin : (decide (agentBase ≤ addr) && decide (addr < agentEnd)) = true := by simp [h1, h2]
  have hplace : s.placeOf addr = s.placeLocal addr := by simp only [placeOf, hmod, if_pos hlt]
  rw [hplace, placeLocal, if_pos hwin]
  dsimp only
  split
  · exact .inl ⟨_, _, rfl⟩
  · exact .inr ⟨_, rfl⟩

-- READ

/-- The read has no effect, and no confidential mode coarsens what it returns. -/
theorem readOwn_eq {s : State} {r : Reg} (i : Nat) (hconf : s.confidential = false)
    (hr : [Reg.GRAPH_TASK_WORD, .SEN_STAT, .BELF_READ_WORD, .BELF_SENT, .TWIN_CAP_WORD, .ETH_QP_WORD, .LANT_NOW_NS].contains r = false) :
    s.readOwn r i = (s.rd r 0 i &&& BitVec.ofNat 64 r.readMask, s) := by
  unfold readOwn
  dsimp only
  split <;> simp_all

/-- A READ of one word that answers it. -/
theorem readRun_one {s : State} {addr : Nat} {r : Reg} {i : Nat} (hp : s.placeOf addr = .own r i) (hrec : s.inRecovery = false) :
    readRun 1 addr [] s = (s.readOwn r i).2.answerWords Status.ok 0 [(s.readOwn r i).1] := by
  simp [readRun, hp, hrec]

theorem serveRead_inModule {s : State} {h : ScpHdr} (h1 : 1 ≤ h.b) (h2 : h.b ≤ 1024) (hp : (s.placeOf h.a).inModule = true) :
    s.serveRead h = (readRun h.b h.a [] s, true) := by
  unfold serveRead
  rw [if_neg (by simp; omega)]
  cases hpl : s.placeOf h.a <;> simp_all [Place.inModule]

theorem serveRead_far {s : State} {h : ScpHdr} {spire off : Nat} (h1 : 1 ≤ h.b) (h2 : h.b ≤ 1024)
    (hp : s.placeOf h.a = .far spire off) : s.serveRead h = (s.carry h h.b false true spire [], false) := by
  unfold serveRead
  rw [if_neg (by simp; omega), hp]

/-- A READ that runs on this module (R268). -/
theorem request_read_inModule {s : State} {h : ScpHdr} (hs : s.serves ⟨.read, h, [], []⟩ = true) (h1 : 1 ≤ h.b)
    (h2 : h.b ≤ 1024) (hp : (s.placeOf h.a).inModule = true) :
    s.request ⟨.read, h, [], []⟩ = (readRun h.b h.a [] (s.opened h)).respond h := by
  rw [request_eq hs]
  have : (s.opened h).serveOp ⟨.read, h, [], []⟩ = (readRun h.b h.a [] (s.opened h), true) :=
    serveRead_inModule h1 h2 (by rwa [opened_placeOf])
  rw [this]; rfl

/-- A READ that is carried to another spire (R47, R271). -/
theorem request_read_far {s : State} {h : ScpHdr} {spire off : Nat} (hs : s.serves ⟨.read, h, [], []⟩ = true) (h1 : 1 ≤ h.b)
    (h2 : h.b ≤ 1024) (hp : s.placeOf h.a = .far spire off) :
    s.request ⟨.read, h, [], []⟩ = (s.opened h).carry h h.b false true spire [] := by
  rw [request_eq hs]
  have : (s.opened h).serveOp ⟨.read, h, [], []⟩ = ((s.opened h).carry h h.b false true spire [], false) :=
    serveRead_far h1 h2 (by rwa [opened_placeOf])
  rw [this]; rfl

/-- The session of a carried access waits for it. -/
theorem carry_remote (s : State) (h : ScpHdr) (n : Nat) (write isFar : Bool) (dest : Nat) (ws : List Word)
    (hx : (s.sessionOf h.sess).isSome = true) :
    ((s.carry h n write isFar dest ws).sessionOf h.sess).bind (fun x => x.remote) = some ⟨h.tag, h.a, n, write, s.round, isFar⟩ := by
  unfold carry
  dsimp only
  rw [sessionOf_of_sessions (congrArg Eth.sessions (send_eth _ _ _ _ _)), sessionOf_updSession]
  · obtain ⟨x, hx⟩ := Option.isSome_iff_exists.mp hx
    rw [hx]; rfl
  · exact fun _ => rfl

@[simp] theorem carry_sent (s : State) (h : ScpHdr) (n : Nat) (write isFar : Bool) (dest : Nat) (ws : List Word) :
    (s.carry h n write isFar dest ws).sent = s.sent ++ [⟨.carried, if isFar then 1 else 0, dest,
      [h.a, n, if write then 1 else 0] ++ ws.map (fun w => w.toNat), []⟩] :=
  send_plain_sent _ _ _ _ _ rfl

@[simp] theorem carry_graph (s : State) (h : ScpHdr) (n : Nat) (write isFar : Bool) (dest : Nat) (ws : List Word) :
    (s.carry h n write isFar dest ws).graph = s.graph := send_graph _ _ _ _ _

-- WRITE

theorem serveWrite_here {s : State} {h : ScpHdr} {ws : List Word} (h1 : ws ≠ []) (h2 : ws.length ≤ 1024)
    (h3 : h.b = ws.length) (hp : (s.placeOf h.a).isFar = false) :
    s.serveWrite h ws = (writeRun h.sess ws h.a 0 s, true) := by
  unfold serveWrite
  rw [if_neg (by simp [h1, h2, h3])]
  cases hpl : s.placeOf h.a <;> simp_all [Place.isFar]

theorem serveWrite_far {s : State} {h : ScpHdr} {ws : List Word} {spire off : Nat} (h1 : ws ≠ []) (h2 : ws.length ≤ 1024)
    (h3 : h.b = ws.length) (hp : s.placeOf h.a = .far spire off) :
    s.serveWrite h ws = (s.carry h h.b true true spire ws, false) := by
  unfold serveWrite
  rw [if_neg (by simp [h1, h2, h3]), hp]

/-- A WRITE whose words this module takes, one after another (R268). -/
theorem request_write_here {s : State} {h : ScpHdr} {ws : List Word} (hs : s.serves ⟨.write, h, ws, []⟩ = true) (h1 : ws ≠ [])
    (h2 : ws.length ≤ 1024) (h3 : h.b = ws.length) (hp : (s.placeOf h.a).isFar = false) :
    s.request ⟨.write, h, ws, []⟩ = (writeRun h.sess ws h.a 0 (s.opened h)).respond h := by
  rw [request_eq hs]
  have : (s.opened h).serveOp ⟨.write, h, ws, []⟩ = (writeRun h.sess ws h.a 0 (s.opened h), true) :=
    serveWrite_here h1 h2 h3 (by rwa [opened_placeOf])
  rw [this]; rfl

/-- A WRITE that is carried to another spire (R47, R271). -/
theorem request_write_far {s : State} {h : ScpHdr} {ws : List Word} {spire off : Nat}
    (hs : s.serves ⟨.write, h, ws, []⟩ = true) (h1 : ws ≠ []) (h2 : ws.length ≤ 1024) (h3 : h.b = ws.length)
    (hp : s.placeOf h.a = .far spire off) :
    s.request ⟨.write, h, ws, []⟩ = (s.opened h).carry h h.b true true spire ws := by
  rw [request_eq hs]
  have : (s.opened h).serveOp ⟨.write, h, ws, []⟩ = ((s.opened h).carry h h.b true true spire ws, false) :=
    serveWrite_far h1 h2 h3 (by rwa [opened_placeOf])
  rw [this]; rfl

theorem writeAt_own {s : State} {addr : Nat} {r : Reg} {i : Nat} (sess : Nat) (w : Word)
    (hp : s.placeOf (addr % 2 ^ 48) = .own r i) : s.writeAt sess addr w = s.writeOwn sess r i w := by
  simp only [writeAt, hp]

/-- A write into an agent window is refused (R391). -/
theorem writeAt_agentWindow (s : State) (sess : Nat) {addr : Nat} (w : Word) (h1 : agentBase ≤ addr) (h2 : addr < agentEnd)
    (h3 : addr % 8 = 0) : s.writeAt sess addr w = s.err Status.readOnly 0 := by
  have hmod : addr % 2 ^ 48 = addr := Nat.mod_eq_of_lt (Nat.lt_trans h2 (by decide))
  unfold writeAt
  simp only [hmod]
  rcases s.placeOf_agentWindow h1 h2 with ⟨n, off, hp⟩ | ⟨d, hp⟩
  · rw [hp]
  · simp [hp, h1, h2, h3]

-- The access types (R13 to R16)

/-- What a register holds after a write under the access types: RW bits take the value, W1C bits written 1 clear. -/
def written (s : State) (r : Reg) (i : Nat) (v : Word) : Word :=
  (v &&& writable r i) ||| (s.rd r 0 i &&& ~~~writable r i &&& ~~~(v &&& BitVec.ofNat 64 r.w1cMask))

theorem writeFields_eq (s : State) (r : Reg) (i : Nat) (v : Word) : s.writeFields r i v = s.wr r 0 i (s.written r i v) := rfl

end State

/-- No bit of a register is both RW and W1C. -/
theorem Reg.rw_w1c_disjoint (r : Reg) : BitVec.ofNat 64 r.rwMask &&& BitVec.ofNat 64 r.w1cMask = 0 := by
  cases r <;> rfl

theorem State.writable_w1c_disjoint (r : Reg) (i : Nat) : State.writable r i &&& BitVec.ofNat 64 r.w1cMask = 0 := by
  unfold State.writable
  split
  · next h => subst h; simp [Reg.w1cMask]
  · exact r.rw_w1c_disjoint

/-- A register that a write can change holds no status field. -/
theorem Reg.settled_of_masks {r : Reg} (h : r.rwMask ≠ 0 ∨ r.w1cMask ≠ 0) : r.settled = true := by
  have hmasks : ∀ f ∈ statusFields, f.reg.rwMask = 0 ∧ f.reg.w1cMask = 0 := by decide +kernel
  rw [Reg.settled, List.all_eq_true]
  intro f hf
  rw [bne_iff_ne]
  rintro rfl
  exact h.elim (· (hmasks f hf).1) (· (hmasks f hf).2)

namespace State

/-- The RW bits take the value written. -/
theorem written_and_writable (s : State) (r : Reg) (i : Nat) (v : Word) :
    s.written r i v &&& writable r i = v &&& writable r i := by
  unfold written
  ext j
  simp only [BitVec.getElem_and, BitVec.getElem_or, BitVec.getElem_not]
  cases (writable r i)[j] <;> simp

/-- The W1C bits written 1 clear, and the others stay. -/
theorem written_and_w1c (s : State) (r : Reg) (i : Nat) (v : Word) : s.written r i v &&& BitVec.ofNat 64 r.w1cMask =
    s.rd r 0 i &&& ~~~v &&& BitVec.ofNat 64 r.w1cMask := by
  have hd := writable_w1c_disjoint r i
  unfold written
  generalize BitVec.ofNat 64 r.w1cMask = m at hd ⊢
  ext j hj
  have hj' : ((writable r i)[j] && m[j]) = false := by
    rw [← BitVec.getElem_and, hd]; simp
  simp only [BitVec.getElem_and, BitVec.getElem_or, BitVec.getElem_not]
  cases hm : m[j] <;> simp_all

/-- Steering the offset touches the offset alone. -/
theorem slewOn_rd (s : State) {r : Reg} (n i : Nat) (h : F.LANT_OFFSET_OFFSET.reg ≠ r) : s.slewOn.rd r n i = s.rd r n i := by
  unfold slewOn
  split
  · rfl
  · dsimp only
    rw [p_eq, rd_pa_reg _ _ _ _ _ _ _ h, rd_mk]

theorem slewOn_graph (s : State) : s.slewOn.graph = s.graph := by
  unfold slewOn
  split
  · rfl
  · dsimp only
    rw [p_eq, pa_graph]

/-- The fields of a register set, its steering brought up to date before (R303). -/
theorem writeFields_spec (s : State) (r : Reg) (i : Nat) (v : Word) :
    ((if r = .LANT_CFG then s.slewOn else s).writeFields r i v).graph = s.graph ∧
      ((if r = .LANT_CFG then s.slewOn else s).writeFields r i v).rd r 0 i = s.written r i v := by
  rw [writeFields_eq, wr_graph, rd_wr_same]
  split
  · next h => exact ⟨s.slewOn_graph, by rw [written, s.slewOn_rd 0 i (by rw [h]; decide), written]⟩
  · exact ⟨rfl, rfl⟩

/-- A write that its register allows sets the fields and is answered with OK. -/
theorem fieldWrite_spec {s : State} {r : Reg} {i : Nat} {v : Word} (hm : r.rwMask ≠ 0 ∨ r.w1cMask ≠ 0)
    (haddr : r ≠ .ETH_ADDR ∨ i ≠ 11) (hchk : r = .CHK_CFG → 96 ≤ i ∧ s.chkState i = Chan.idle)
    (hsite : r = .PWR_SITE → s.plan.cur = none) (hl : s.legalWrite r i v = true) :
    (s.fieldWrite r i v).answer.status = Status.ok ∧ (s.fieldWrite r i v).graph = s.graph ∧
      (s.fieldWrite r i v).rd r 0 i = s.written r i v := by
  obtain ⟨hgraph, hrd⟩ := s.writeFields_spec r i v
  have hmasks : ¬(decide (r.rwMask = 0) && decide (r.w1cMask = 0)) = true := by
    simp only [Bool.and_eq_true, decide_eq_true_eq]
    rintro ⟨hrw, hw1c⟩
    exact hm.elim (· hrw) (· hw1c)
  have hro : ¬((decide (r = .ETH_ADDR) && decide (i = 11)) || (decide (r = .CHK_CFG) && decide (i < 96))) = true := by
    simp only [Bool.or_eq_true, Bool.and_eq_true, decide_eq_true_eq]
    rintro (⟨ha, hi⟩ | ⟨hc, hi⟩)
    · exact haddr.elim (· ha) (· hi)
    · exact Nat.not_lt.mpr (hchk hc).1 hi
  have hcur : ¬(decide (r = .PWR_SITE) && s.plan.cur.isSome) = true := by
    simp only [Bool.and_eq_true, decide_eq_true_eq]
    rintro ⟨hr, hs⟩
    simp [hsite hr] at hs
  have hidle : ¬(decide (r = .CHK_CFG) && decide (s.chkState i ≠ Chan.idle)) = true := by
    simp only [Bool.and_eq_true, decide_eq_true_eq]
    rintro ⟨hr, hn⟩
    exact hn (hchk hr).2
  unfold fieldWrite
  rw [if_neg hmasks, if_neg hro, if_neg hcur, if_neg hidle, if_neg (by simp [hl])]
  dsimp only
  generalize (if r = .LANT_CFG then s.slewOn else s).writeFields r i v = u at hgraph hrd
  split
  · rw [ok_eq, p_eq, p_eq, err_status, err_graph, pa_graph, pa_graph, err_rd, rd_pa_reg _ _ _ _ _ _ _ (by decide),
      rd_pa_reg _ _ _ _ _ _ _ (by decide)]
    exact ⟨rfl, hgraph, hrd⟩
  · split
    · rw [ok_eq, err_status, err_graph, err_rd]
      exact ⟨rfl, hgraph, hrd⟩
    · rw [ok_eq, p_eq, err_status, err_graph, pa_graph, err_rd, rd_pa_reg _ _ _ _ _ _ _ (by decide), setPps, rd_mk]
      exact ⟨rfl, hgraph, hrd⟩
  · rw [ok_eq, err_status, err_graph, err_rd]
    exact ⟨rfl, hgraph, hrd⟩

theorem legalWrite_ok (s : State) (r : Reg) (i : Nat) (v : Word) : s.ok.legalWrite r i v = s.legalWrite r i v := rfl

/-- A write that is no command and that its register allows sets the fields and is answered with OK. -/
theorem writeOwn_spec {s : State} {sess : Nat} {r : Reg} {i : Nat} {v : Word} (hnone : s.ok.commandWrite sess r i v = none)
    (hm : r.rwMask ≠ 0 ∨ r.w1cMask ≠ 0) (haddr : r ≠ .ETH_ADDR ∨ i ≠ 11)
    (hchk : r = .CHK_CFG → 96 ≤ i ∧ s.chkState i = Chan.idle) (hsite : r = .PWR_SITE → s.plan.cur = none)
    (hl : s.legalWrite r i v = true) :
    (s.writeOwn sess r i v).answer.status = Status.ok ∧ (s.writeOwn sess r i v).graph = s.graph ∧
      (s.writeOwn sess r i v).rd r 0 i = s.written r i v := by
  have hown : s.writeOwn sess r i v = s.ok.fieldWrite r i v := by unfold writeOwn; rw [hnone]
  rw [hown]
  exact fieldWrite_spec (s := s.ok) hm haddr hchk hsite (by rwa [legalWrite_ok])

theorem writeOwn_graphArg (s : State) (sess : Nat) (w : Word) :
    (s.writeOwn sess .GRAPH_ARG 0 w).answer.status = Status.ok ∧ (s.writeOwn sess .GRAPH_ARG 0 w).graph = s.graph ∧
      (s.writeOwn sess .GRAPH_ARG 0 w).rd .GRAPH_ARG 0 0 = s.written .GRAPH_ARG 0 w :=
  writeOwn_spec rfl (by decide) (.inl (by decide)) nofun nofun rfl

/-- A register without writable fields refuses a write. -/
theorem writeOwn_graphStatus (s : State) (sess : Nat) (w : Word) :
    s.writeOwn sess .GRAPH_STATUS 0 w = s.err Status.readOnly 0 := rfl

/-- A WRITE of one word that is stored: one word completed. -/
theorem writeRun_one {s : State} {sess addr : Nat} {r : Reg} {i : Nat} {w : Word} (hp : s.placeOf addr = .own r i)
    (hpass : s.passive = false) (hrec : s.inRecovery = false) (hok : (s.writeOwn sess r i w).answer.status = Status.ok) :
    writeRun sess [w] addr 0 s =
      { (s.writeOwn sess r i w).ok with answer := { (s.writeOwn sess r i w).ok.answer with b := 1 } } := by
  have hserved : s.writeServed sess addr w = s.writeOwn sess r i w := by simp [writeServed, hp, hpass, hrec]
  simp only [writeRun, hserved, hok, if_true]

end State

-- What the rows of register access run

theorem exec_registerWrite (sess addr : Nat) (w : Word) (s : State) :
    exec (.registerWrite sess addr w) s = .next (s.after (s.writeAt sess addr w)).settle := rfl

theorem exec_scpRead (h : ScpHdr) (s : State) : exec (.scpRead h) s = .next (s.request ⟨.read, h, [], []⟩).settle := rfl

theorem exec_scpWrite (h : ScpHdr) (ws : List Word) (s : State) :
    exec (.scpWrite h ws) s = .next (s.after (s.request ⟨.write, h, ws, []⟩)).settle := rfl

end Sys2Proof.Machine
end

section
/-! Register access (R13, R15, R16, R266 to R269, R391), clause by clause. -/
namespace Sys2Proof.Machine
open State

/-- A READ of one word of this module answers it. -/
theorem scpRead_one (h : ScpHdr) (r : Reg) (i : Nat) (s : State) (hs : s.serves ⟨.read, h, [], []⟩ = true) (hb : h.b = 1)
    (hp : s.placeOf h.a = .own r i) (hconf : s.confidential = false) (hrec : s.inRecovery = false)
    (hr : [Reg.GRAPH_TASK_WORD, .SEN_STAT, .BELF_READ_WORD, .BELF_SENT, .TWIN_CAP_WORD, .ETH_QP_WORD,
      .LANT_NOW_NS, .ETH_COUNT, .ETH_STATUS].contains r = false) :
    Yields (.scpRead h) s (fun t => ∃ e ∈ t.sent, e.kind = .response ∧ e.a = h.sess ∧ e.b = h.tag ∧
      ∃ ep, e.data = [Status.ok, 0, ep, 0, 1, (s.rd r 0 i &&& BitVec.ofNat 64 r.readMask).toNat]) := by
  have hreq : s.request ⟨.read, h, [], []⟩ = (readRun 1 h.a [] (s.opened h)).respond h := by
    rw [← hb]; exact request_read_inModule hs (by omega) (by omega) (by rw [hp]; rfl)
  have hword : (s.opened h).readOwn r i = (s.rd r 0 i &&& BitVec.ofNat 64 r.readMask, s.opened h) := by
    rw [readOwn_eq i (by simpa using hconf) (by simp_all), opened_rd s h 0 i (by rintro rfl; simp at hr)]
  refine ⟨_, exec_scpRead h s, ?_⟩
  dsimp only
  rw [hreq, readRun_one (by rwa [opened_placeOf]) (by rwa [opened_inRecovery]), hword, settle_sent, respond_sent]
  exact ⟨_, List.mem_append_right _ (List.mem_singleton_self _), rfl, rfl, rfl, _, rfl⟩

/-- The word of GRAPH_ARG after a write, read as its argument. -/
theorem written_graphArg (s : State) (w : Word) : getBits (s.written .GRAPH_ARG 0 w) 0 32 = getBits w 0 32 := by
  have hlow : ∀ x : Word, getBits x 0 32 = (x &&& writable .GRAPH_ARG 0).toNat := by
    intro x
    rw [BitVec.toNat_and, show (writable .GRAPH_ARG 0).toNat = 2 ^ 32 - 1 from rfl, Nat.and_two_pow_sub_one_eq_mod]
    simp [getBits]
  rw [hlow, hlow, written_and_writable]

/-- A WRITE of one word of a read-write register stores it. -/
theorem scpWrite_graphArg (h : ScpHdr) (w : Word) (s : State) (hs : s.serves ⟨.write, h, [w], []⟩ = true) (hb : h.b = 1)
    (hp : s.placeOf h.a = .own .GRAPH_ARG 0) (hpass : s.passive = false) (hrec : s.inRecovery = false) :
    Yields (.scpWrite h [w]) s (fun t => t.g F.GRAPH_ARG_ARG = getBits w 0 32 ∧ Responded t h Status.ok 0 1) := by
  obtain ⟨hok, hgraph, hrd⟩ := (s.opened h).writeOwn_graphArg h.sess w
  have hrun := writeRun_one (by rwa [opened_placeOf]) (by rwa [opened_passive]) (by rwa [opened_inRecovery]) hok
  have hreq := request_write_here hs (by simp) (by simp) (by simpa using hb) (by rw [hp]; rfl)
  rw [hrun] at hreq
  generalize (s.opened h).writeOwn h.sess .GRAPH_ARG 0 w = u at hgraph hrd hreq
  have hafter : (s.request ⟨.write, h, [w], []⟩).graph = s.graph := by
    rw [hreq, respond_graph]; exact hgraph.trans (s.opened_graph h)
  refine ⟨_, exec_scpWrite h [w] s, ?_, ?_⟩
  · rw [g_eq, settle_ga _ _ _ _ (by decide), ga, after_rd hafter, hreq, respond_rd _ _ _ _ (by decide)]
    exact (congrArg (fun x => getBits x 0 32) hrd).trans (written_graphArg _ w)
  · refine Responded.of_sent (s := { u.ok with answer := { u.ok.answer with b := 1 } }) ?_ rfl
    rw [settle_sent, after_sent hafter, hreq]

/-- A write to a register of this module runs as its register has it. -/
theorem registerWrite_own (sess addr : Nat) (r : Reg) (i : Nat) (w : Word) (s : State)
    (hp : s.placeOf (addr % 2 ^ 48) = .own r i) :
    Yields (.registerWrite sess addr w) s (fun t => t = (s.after (s.writeOwn sess r i w)).settle) :=
  ⟨_, exec_registerWrite sess addr w s, by rw [writeAt_own sess w hp]⟩

/-- A write that is no command leaves in its register what the access types say. -/
theorem registerWrite_written (sess addr : Nat) (r : Reg) (i : Nat) (w : Word) (s : State)
    (hp : s.placeOf (addr % 2 ^ 48) = .own r i) (hnone : s.ok.commandWrite sess r i w = none)
    (hm : r.rwMask ≠ 0 ∨ r.w1cMask ≠ 0) (haddr : r ≠ .ETH_ADDR ∨ i ≠ 11)
    (hchk : r = .CHK_CFG → 96 ≤ i ∧ s.chkState i = Chan.idle) (hsite : r = .PWR_SITE → s.plan.cur = none)
    (hl : s.legalWrite r i w = true) :
    Yields (.registerWrite sess addr w) s (fun t => t.answer.status = Status.ok ∧ t.rd r 0 i = s.written r i w) := by
  obtain ⟨hok, hgraph, hrd⟩ := writeOwn_spec hnone hm haddr hchk hsite hl
  refine (registerWrite_own sess addr r i w s hp).imp ?_
  rintro t rfl
  rw [settle_answer, after_answer hgraph, settle_rd _ _ _ _ (Reg.settled_of_masks hm), after_rd hgraph]
  exact ⟨hok, hrd⟩

/-- The RW bits of the register take the value and its W1C bits written 1 clear. -/
theorem registerWrite_fields (sess addr : Nat) (r : Reg) (i : Nat) (w : Word) (s : State)
    (hp : s.placeOf (addr % 2 ^ 48) = .own r i) (hnone : s.ok.commandWrite sess r i w = none)
    (hm : r.rwMask ≠ 0 ∨ r.w1cMask ≠ 0) (haddr : r ≠ .ETH_ADDR ∨ i ≠ 11)
    (hchk : r = .CHK_CFG → 96 ≤ i ∧ s.chkState i = Chan.idle) (hsite : r = .PWR_SITE → s.plan.cur = none)
    (hl : s.legalWrite r i w = true) :
    Yields (.registerWrite sess addr w) s (fun t => t.answer.status = Status.ok ∧
      t.rd r 0 i &&& writable r i = w &&& writable r i ∧
      t.rd r 0 i &&& BitVec.ofNat 64 r.w1cMask = s.rd r 0 i &&& ~~~w &&& BitVec.ofNat 64 r.w1cMask) := by
  refine (registerWrite_written sess addr r i w s hp hnone hm haddr hchk hsite hl).imp ?_
  rintro t ⟨hok, hrd⟩
  rw [hrd]
  exact ⟨hok, s.written_and_writable r i w, s.written_and_w1c r i w⟩

theorem registerWrite_graphArg (sess addr : Nat) (w : Word) (s : State) (hp : s.placeOf (addr % 2 ^ 48) = .own .GRAPH_ARG 0) :
    Yields (.registerWrite sess addr w) s (fun t => t.g F.GRAPH_ARG_ARG = getBits w 0 32 ∧ t.answer.status = Status.ok) := by
  refine (registerWrite_written sess addr _ _ w s hp rfl (by decide) (.inl (by decide)) nofun nofun rfl).imp ?_
  rintro t ⟨hok, hrd⟩
  exact ⟨by rw [g_eq, ga, hrd, written_graphArg], hok⟩

/-- Events clear where 1 is written (R16). -/
theorem registerWrite_grdEvent (sess addr : Nat) (w : Word) (s : State) (hp : s.placeOf (addr % 2 ^ 48) = .own .GRD_EVENT 0) :
    Yields (.registerWrite sess addr w) s (fun t => t.answer.status = Status.ok ∧
      t.rd .GRD_EVENT 0 0 = s.rd .GRD_EVENT 0 0 &&& ~~~(w &&& BitVec.ofNat 64 Reg.GRD_EVENT.w1cMask)) := by
  refine (registerWrite_written sess addr _ _ w s hp rfl (by decide) (.inl (by decide)) nofun nofun rfl).imp ?_
  rintro t ⟨hok, hrd⟩
  have hw : writable .GRD_EVENT 0 = 0#64 := rfl
  exact ⟨hok, by rw [hrd, written, hw, BitVec.and_zero, BitVec.zero_or, BitVec.not_zero, BitVec.and_allOnes]⟩

theorem registerWrite_graphStatus (sess addr : Nat) (w : Word) (s : State)
    (hp : s.placeOf (addr % 2 ^ 48) = .own .GRAPH_STATUS 0) :
    Yields (.registerWrite sess addr w) s (fun t => t.answer.status = Status.readOnly) := by
  refine (registerWrite_own sess addr _ _ w s hp).imp ?_
  rintro t rfl
  rw [settle_answer, writeOwn_graphStatus, after_answer (err_graph s _ _), err_status]

/-- A write into an agent window changes nothing (R391). -/
theorem registerWrite_agentWindow (sess addr : Nat) (w : Word) (s : State) (h1 : agentBase ≤ addr) (h2 : addr < agentEnd)
    (h3 : addr % 8 = 0) :
    Yields (.registerWrite sess addr w) s (fun t => t.answer.status = Status.readOnly ∧ Frame [] [] [.answer, .eth] s t) := by
  refine ⟨_, exec_registerWrite sess addr w s, ?_⟩
  rw [writeAt_agentWindow s sess w h1 h2 h3]
  refine ⟨by rw [settle_answer, after_answer (err_graph s _ _), err_status], Within.frame ?_⟩
  exact (Within.refl.err Status.readOnly 0 (by decide)).after rfl (by decide)

/-- A READ that is carried to another spire leaves as an access, and its session waits for it (R47, R271). -/
theorem scpRead_far (h : ScpHdr) (spire off : Nat) (s : State) (hs : s.serves ⟨.read, h, [], []⟩ = true) (h1 : 1 ≤ h.b)
    (h2 : h.b ≤ 1024) (hp : s.placeOf h.a = .far spire off) :
    Yields (.scpRead h) s (fun t =>
      (t.sessionOf h.sess).bind (fun x => x.remote) = some ⟨h.tag, h.a, h.b, false, s.round, true⟩ ∧
      t.sent = s.sent ++ [⟨.carried, 1, spire, [h.a, h.b, 0], []⟩]) := by
  refine ⟨_, exec_scpRead h s, ?_, ?_⟩
  · rw [sessionOf_of_sessions (congrArg Eth.sessions (settle_eth _)), request_read_far hs h1 h2 hp,
      carry_remote _ _ _ _ _ _ _ (Option.isSome_iff_exists.mpr (s.sessionOf_opened h)), opened_round]
  · rw [settle_sent, request_read_far hs h1 h2 hp, carry_sent, opened_sent]
    rfl

/-- A WRITE that is carried to another spire (R47, R271). -/
theorem scpWrite_far (h : ScpHdr) (ws : List Word) (spire off : Nat) (s : State) (hs : s.serves ⟨.write, h, ws, []⟩ = true)
    (h1 : ws ≠ []) (h2 : ws.length ≤ 1024) (h3 : h.b = ws.length) (hp : s.placeOf h.a = .far spire off) :
    Yields (.scpWrite h ws) s (fun t =>
      (t.sessionOf h.sess).bind (fun x => x.remote) = some ⟨h.tag, h.a, h.b, true, s.round, true⟩) := by
  have hreq := request_write_far hs h1 h2 h3 hp
  have hgraph : (s.request ⟨.write, h, ws, []⟩).graph = s.graph := by rw [hreq, carry_graph, opened_graph]
  refine ⟨_, exec_scpWrite h ws s, ?_⟩
  dsimp only
  rw [sessionOf_of_sessions ((congrArg Eth.sessions (settle_eth _)).trans (after_sessions hgraph)), hreq,
    carry_remote _ _ _ _ _ _ _ (Option.isSome_iff_exists.mpr (s.sessionOf_opened h)), opened_round]

/-- Settles O9: a request that is served at once runs its operation on the opened state, and a write that is no command
leaves in its register what the access types say. -/
theorem registerAccessComplete : Obligations.RegisterAccessComplete := by
  refine ⟨scpRead_one, scpWrite_graphArg, registerWrite_graphArg, registerWrite_grdEvent, registerWrite_graphStatus,
    registerWrite_agentWindow, ?_, scpRead_far, ?_, scpWrite_far, registerWrite_own, registerWrite_fields,
    fun h s => ⟨_, exec_scpRead h s, rfl⟩, fun h ws s => ⟨_, exec_scpWrite h ws s, rfl⟩⟩
  · intro h s hs h1 h2 hp
    exact ⟨_, exec_scpRead h s, by rw [request_read_inModule hs h1 h2 hp]⟩
  · intro h ws s hs h1 h2 h3 hp
    exact ⟨_, exec_scpWrite h ws s, by rw [request_write_here hs h1 h2 h3 hp]⟩

end Sys2Proof.Machine
end

section
/-! SUPPORT. The map of the registers (R12, R45): each address of the grid names one register, and any other names none. -/
namespace Sys2Proof.Machine
open State

namespace Reg

theorem mem_all (r : Reg) : r ∈ all := by
  cases r <;> decide

/-- A register lies in its block's window, on the grid of 8 bytes (R12). -/
theorem base_window (r : Reg) (hr : r.isAgent = false) : r.base % 8 = 0 ∧ r.first ≤ r.last ∧
    (r.base + 8 * r.last) / 0x100000 = r.base / 0x100000 ∧ r.base / 0x100000 ≤ 0x11 := by
  have hall : ∀ r ∈ all, r.isAgent = false → r.base % 8 = 0 ∧ r.first ≤ r.last ∧
      (r.base + 8 * r.last) / 0x100000 = r.base / 0x100000 ∧ r.base / 0x100000 ≤ 0x11 := by decide +kernel
  exact hall r r.mem_all hr

/-- The elements of one register all come before those of another. -/
def Before (r r' : Reg) : Prop := r.base + 8 * r.last < r'.base + 8 * r'.first

/-- A register takes its place among others in the order of their addresses. -/
def insertByAddress (r : Reg) : List Reg → List Reg
  | [] => [r]
  | q :: l => if r.base ≤ q.base then r :: q :: l else q :: insertByAddress r l

theorem mem_insertByAddress {r x : Reg} (l : List Reg) (h : x = r ∨ x ∈ l) : x ∈ insertByAddress r l := by
  induction l with
  | nil => exact List.mem_singleton.mpr (h.resolve_right List.not_mem_nil)
  | cons q l ih =>
    unfold insertByAddress
    split
    · exact List.mem_cons.mpr h
    · rcases h with h | h
      · exact List.mem_cons_of_mem q (ih (.inl h))
      · rcases List.mem_cons.mp h with rfl | h
        · exact List.mem_cons_self
        · exact List.mem_cons_of_mem q (ih (.inr h))

/-- The registers of the module in the order of their addresses. -/
def inOrder : List Reg := (all.filter (fun r => !r.isAgent)).foldr insertByAddress []

theorem mem_inOrder {r : Reg} (hr : r.isAgent = false) : r ∈ inOrder := by
  have hall : ∀ l : List Reg, r ∈ l → r ∈ l.foldr insertByAddress [] := by
    intro l hl
    induction l with
    | nil => exact absurd hl List.not_mem_nil
    | cons q l ih => exact mem_insertByAddress _ ((List.mem_cons.mp hl).imp id ih)
  exact hall _ (List.mem_filter.mpr ⟨r.mem_all, by rw [hr]; rfl⟩)

/-- Each register of a list has an element, and ends before the next begins. -/
def ascending : List Reg → Bool
  | [] => true
  | [r] => decide (r.first ≤ r.last)
  | r :: q :: l => decide (r.first ≤ r.last) && decide (r.base + 8 * r.last < q.base + 8 * q.first) && ascending (q :: l)

/-- In an ascending list the first register ends before every other begins. -/
theorem before_of_ascending {r : Reg} {l : List Reg} (h : ascending (r :: l) = true) : ∀ q ∈ l, r.Before q := by
  induction l generalizing r with
  | nil => exact fun q hq => absurd hq List.not_mem_nil
  | cons p l ih =>
    simp only [ascending, Bool.and_eq_true, decide_eq_true_eq] at h
    obtain ⟨⟨-, hrp⟩, hp⟩ := h
    have hlen : p.first ≤ p.last := by
      cases l with
      | nil => exact of_decide_eq_true hp
      | cons p' l =>
        simp only [ascending, Bool.and_eq_true, decide_eq_true_eq] at hp
        exact hp.1.1
    intro q hq
    rcases List.mem_cons.mp hq with rfl | hq
    · exact hrp
    · have hpq := ih hp q hq
      unfold Before at hpq ⊢
      omega

theorem ascending_tail {r : Reg} {l : List Reg} (h : ascending (r :: l) = true) : ascending l = true := by
  cases l with
  | nil => rfl
  | cons q l => exact (Bool.and_eq_true_iff.mp h).2

/-- Of two registers of an ascending list one ends before the other begins. -/
theorem before_or_before_of_ascending {l : List Reg} (h : ascending l = true) {r r' : Reg} (hr : r ∈ l) (hr' : r' ∈ l)
    (hne : r ≠ r') : r.Before r' ∨ r'.Before r := by
  induction l with
  | nil => exact absurd hr List.not_mem_nil
  | cons q l ih =>
    rcases List.mem_cons.mp hr with rfl | hmem
    · exact .inl (before_of_ascending h r' ((List.mem_cons.mp hr').resolve_left (Ne.symm hne)))
    · rcases List.mem_cons.mp hr' with rfl | hmem'
      · exact .inr (before_of_ascending h r hmem)
      · exact ih (ascending_tail h) hmem hmem'

/-- Two registers of the module share no address. -/
theorem before_or_before_of_ne {r r' : Reg} (hr : r.isAgent = false) (hr' : r'.isAgent = false) (hne : r ≠ r') :
    r.Before r' ∨ r'.Before r :=
  before_or_before_of_ascending (by decide +kernel) (mem_inOrder hr) (mem_inOrder hr') hne

end Reg

/-- An address that names a register lies on its grid. -/
theorem onGrid_of_regAt {addr : Nat} {r : Reg} {i : Nat} (h : regAt false addr = some (r, i)) :
    r.isAgent = false ∧ r.first ≤ i ∧ i ≤ r.last ∧ addr = r.base + 8 * i := by
  obtain ⟨q, -, hq⟩ := List.exists_of_findSome?_eq_some h
  simp only [Option.ite_none_right_eq_some, Bool.and_eq_true, beq_iff_eq, decide_eq_true_eq, Option.some.injEq,
    Prod.mk.injEq] at hq
  obtain ⟨⟨⟨⟨⟨hag, hle⟩, h8⟩, hfirst⟩, hlast⟩, rfl, rfl⟩ := hq
  have hb := (q.base_window hag).1
  exact ⟨hag, hfirst, hlast, by omega⟩

/-- The address of a register's element names it, and no other (R12, R45). -/
theorem regAt_base (r : Reg) (i : Nat) (hr : r.isAgent = false) (h1 : r.first ≤ i) (h2 : i ≤ r.last) :
    regAt false (r.base + 8 * i) = some (r, i) := by
  have hsome : (regAt false (r.base + 8 * i)).isSome = true := by
    have h8 : (r.base + 8 * i) % 8 = 0 := by have := (r.base_window hr).1; omega
    rw [regAt, List.findSome?_isSome_iff]
    exact ⟨r, r.mem_all, by simp [h8, hr, h1, h2]⟩
  obtain ⟨⟨q, j⟩, hq⟩ := Option.isSome_iff_exists.mp hsome
  obtain ⟨hag, hfirst, hlast, haddr⟩ := onGrid_of_regAt hq
  have hqr : q = r := Classical.byContradiction fun hne => by
    rcases Reg.before_or_before_of_ne hag hr hne with hbefore | hbefore
    · unfold Reg.Before at hbefore
      omega
    · unfold Reg.Before at hbefore
      omega
  subst hqr
  have hij : j = i := by omega
  rw [hq, hij]

/-- An address off the grid names no register. -/
theorem regAt_none {addr : Nat}
    (h : ∀ (r : Reg) (i : Nat), r.isAgent = false → r.first ≤ i → i ≤ r.last → addr ≠ r.base + 8 * i) :
    regAt false addr = none := by
  rw [Option.eq_none_iff_forall_ne_some]
  rintro ⟨r, i⟩ hsome
  obtain ⟨hag, hfirst, hlast, haddr⟩ := onGrid_of_regAt hsome
  exact h r i hag hfirst hlast haddr

namespace State

/-- An address of the module outside the agent windows and off the grid is a hole (R45). -/
theorem placeOf_hole (s : State) {addr : Nat} (hlt : addr < 2 ^ 47) (hout : addr < agentBase ∨ agentEnd ≤ addr)
    (h : ∀ (r : Reg) (i : Nat), r.isAgent = false → r.first ≤ i → i ≤ r.last → addr ≠ r.base + 8 * i) :
    s.placeOf addr = .hole (windowOffset addr) := by
  have hmod : addr % 2 ^ 48 = addr := Nat.mod_eq_of_lt (by omega)
  have hwin : ¬(decide (agentBase ≤ addr) && decide (addr < agentEnd)) = true := by
    simp only [Bool.and_eq_true, decide_eq_true_eq]; omega
  simp only [placeOf, hmod, if_pos hlt, placeLocal, if_neg hwin, regAt_none h]

/-- A write to a hole outside the agent windows is answered with ADDRESS. -/
theorem writeAt_hole (s : State) (sess : Nat) {addr d : Nat} (w : Word) (hlt : addr < 2 ^ 47)
    (hout : addr < agentBase ∨ agentEnd ≤ addr) (hp : s.placeOf addr = .hole d) :
    s.writeAt sess addr w = s.err Status.address d := by
  have hmod : addr % 2 ^ 48 = addr := Nat.mod_eq_of_lt (by omega)
  have hwin : ¬(decide (agentBase ≤ addr) && decide (addr < agentEnd) && decide (addr % 8 = 0)) = true := by
    simp only [Bool.and_eq_true, decide_eq_true_eq]; omega
  simp only [writeAt, hmod, hp, if_neg hwin]

/-- A READ that begins at a hole ends there (R45). -/
theorem readRun_hole {s : State} {n addr d : Nat} (hn : 1 ≤ n) (hp : s.placeOf addr = .hole d) :
    readRun n addr [] s = s.answerWords Status.address d [] := by
  cases n with
  | zero => omega
  | succ n => simp only [readRun, hp]

-- What follows a write where no task has ended

/-- A write that touches no session, no queue and no task leaves at most operations of ended tasks forgotten. -/
theorem after_err_eth (s : State) (x d : Nat) : (s.after (s.err x d)).eth =
    { s.eth with ops := s.eth.ops.filter (fun o => s.graph.tasks.any (fun x => x.idx == o.idx)),
                 waiting := s.eth.waiting.filter (fun o => s.graph.tasks.any (fun x => x.idx == o.idx)) } := by
  rw [after_eq (err_graph s x d)]; rfl

/-- The operations of tasks that are still there are kept. -/
theorem filter_ops_eq_self {s : State} {l : List RdmaOp} (h : ∀ o ∈ l, ∃ x ∈ s.graph.tasks, x.idx = o.idx) :
    l.filter (fun o => s.graph.tasks.any (fun x => x.idx == o.idx)) = l := by
  rw [List.filter_eq_self]
  intro o ho
  simpa using h o ho

end State

-- Frames of a request

section
variable {fs : List Fld} {ps : List (Fld × Nat × Nat)} {parts : List Part} {s y : State}

/-- A change of one listed part. -/
theorem Within.change {z : State} (q : Part) (hq : q ∈ parts) (h : Within fs ps parts s y) (hregs : z.regs = y.regs)
    (hz : ∀ p, p ≠ q → p.same y z) : Within fs ps parts s z :=
  ⟨fun f n i hf hp => (State.ga_of_regs hregs f n i).trans (h.1 f n i hf hp),
   fun p hp => Part.same_trans (h.2 p hp) (hz p (fun hpq => hp (hpq ▸ hq)))⟩

theorem Within.setAnswer (a : Answer) (ha : Part.answer ∈ parts) (h : Within fs ps parts s y) :
    Within fs ps parts s { y with answer := a } :=
  h.change .answer ha rfl (fun p hp => by cases p <;> first | exact rfl | contradiction)

theorem Within.setEth (e : Eth) (he : Part.eth ∈ parts) (h : Within fs ps parts s y) :
    Within fs ps parts s { y with eth := e } :=
  h.change .eth he rfl (fun p hp => by cases p <;> first | exact rfl | contradiction)

/-- A request that is accepted touches a counter of the port, the sessions and the answer. -/
theorem Within.opened (h : ScpHdr) (hc : fs.any (fun e => e.covers (whole .ETH_COUNT)) = true) (he : Part.eth ∈ parts)
    (ha : Part.answer ∈ parts) : Within fs ps parts s (s.opened h) := by
  obtain ⟨l, a, e⟩ := s.opened_eq h
  rw [e]
  exact ((Within.refl.bump _ _ _ _ hc).setEth { s.eth with sessions := l } he).setAnswer a ha

/-- A response touches counters of the port, the sessions, the answer and what has left. -/
theorem Within.respond (h : ScpHdr) (hc : fs.any (fun e => e.covers (whole .ETH_COUNT)) = true) (he : Part.eth ∈ parts)
    (ha : Part.answer ∈ parts) (hs : Part.sent ∈ parts) (hy : Within fs ps parts s y) :
    Within fs ps parts s (y.respond h) := by
  have hkept : ∀ l, Within fs ps parts s ((y.addressed h).updSession h.sess l) := fun l => (hy.setAnswer _ ha).setEth _ he
  have hcount := fun l => (hkept l).bump .ETH_COUNT 0 1 1 hc
  refine Within.emit _ _ _ _ _ hs (.inl rfl) (Within.ite (fun _ => ?_) (fun _ => hcount _))
  exact (hcount _).bump .ETH_COUNT 0 3 1 hc

end

/-- A write to an address off the grid is answered with ADDRESS and has no effect (R45). -/
theorem registerWrite_hole (sess addr : Nat) (w : Word) (s : State) (hlt : addr < 2 ^ 47)
    (hout : addr < agentBase ∨ agentEnd ≤ addr)
    (hgrid : ∀ (r : Reg) (i : Nat), r.isAgent = false → r.first ≤ i → i ≤ r.last → addr ≠ r.base + 8 * i) :
    Yields (.registerWrite sess addr w) s (fun t => t.answer.status = Status.address ∧
      Frame [] [] [.answer, .eth] s t ∧ t.eth = { s.eth with ops := t.eth.ops, waiting := t.eth.waiting } ∧
      ((∀ o ∈ s.eth.ops ++ s.eth.waiting, ∃ x ∈ s.graph.tasks, x.idx = o.idx) → t.eth = s.eth)) := by
  have hwrite : s.writeAt sess addr w = s.err Status.address (windowOffset addr) :=
    s.writeAt_hole sess w hlt hout (s.placeOf_hole hlt hout hgrid)
  refine ⟨_, exec_registerWrite sess addr w s, ?_⟩
  dsimp only
  rw [hwrite, settle_answer, settle_eth, after_answer (err_graph s _ _), after_err_eth]
  refine ⟨err_status s _ _, Within.frame ?_, rfl, fun hops => ?_⟩
  · exact (Within.refl.err _ _ (by decide)).after rfl (by decide)
  · rw [filter_ops_eq_self (fun o ho => hops o (List.mem_append_left _ ho)),
      filter_ops_eq_self (fun o ho => hops o (List.mem_append_right _ ho))]

/-- A READ at an address off the grid is answered with ADDRESS and has no effect (R45). -/
theorem scpRead_hole (h : ScpHdr) (s : State) (hs : s.serves ⟨.read, h, [], []⟩ = true) (h1 : 1 ≤ h.b) (h2 : h.b ≤ 1024)
    (hlt : h.a < 2 ^ 47) (hout : h.a < agentBase ∨ agentEnd ≤ h.a)
    (hgrid : ∀ (r : Reg) (i : Nat), r.isAgent = false → r.first ≤ i → i ≤ r.last → h.a ≠ r.base + 8 * i) :
    Yields (.scpRead h) s (fun t => (∃ e ∈ t.sent, e.kind = .response ∧ e.a = h.sess ∧ e.b = h.tag ∧
      ∃ d ep, e.data = [Status.address, d, ep, 0, 0]) ∧ Frame [whole .ETH_COUNT] [] [.eth, .answer, .sent] s t) := by
  have hp := s.placeOf_hole hlt hout hgrid
  have hreq := request_read_inModule hs h1 h2 (by rw [hp]; rfl)
  rw [readRun_hole h1 (by rwa [opened_placeOf])] at hreq
  refine ⟨_, exec_scpRead h s, ?_⟩
  dsimp only
  rw [hreq]
  refine ⟨?_, Within.frame ?_⟩
  · rw [settle_sent, respond_sent]
    exact ⟨_, List.mem_append_right _ (List.mem_singleton_self _), rfl, rfl, rfl, _, _, rfl⟩
  · exact ((Within.opened h (by decide) (by decide) (by decide)).setAnswer _ (by decide)).respond h (by decide) (by decide)
      (by decide) (by decide)

/-- Settles O6: an address of the grid names its register, since no two registers share one; any other is a hole, where a
write and a READ end with ADDRESS. -/
theorem registerMap : Obligations.RegisterMap :=
  ⟨Reg.base_window, regAt_base, registerWrite_hole, scpRead_hole⟩

end Sys2Proof.Machine
end

section
/-! SUPPORT. Power: what the recorder, the twin mailbox and a cold start leave alone, and what the voltage loop, the pace
deficits and the feed limit do (R31, R32, R36, R412, R439). -/
namespace Sys2Proof.Machine
open State

/-- A value that has been saturated to `n` bits fits them. -/
@[simp] theorem sat_mod_two_pow (n v : Nat) : sat n v % 2 ^ n = sat n v := by
  have hpos := Nat.two_pow_pos n
  refine Nat.mod_eq_of_lt ?_
  rw [sat]
  omega

theorem sat_of_lt {n v : Nat} (h : v < 2 ^ n) : sat n v = v := by
  rw [sat]
  omega

-- Frames of the recorder and of a twin word

section
variable {fs : List Fld} {ps : List (Fld × Nat × Nat)} {parts : List Part} {s y : State}

theorem Within.setBelf (x : Belf) (hb : Part.belf ∈ parts) (h : Within fs ps parts s y) :
    Within fs ps parts s { y with belf := x } :=
  h.change .belf hb rfl (fun p hp => by cases p <;> first | exact rfl | contradiction)

theorem Within.setMbx (x : Mbx) (hm : Part.mbx ∈ parts) (h : Within fs ps parts s y) :
    Within fs ps parts s { y with mbx := x } :=
  h.change .mbx hm rfl (fun p hp => by cases p <;> first | exact rfl | contradiction)

theorem Within.setPwr (x : Pwr) (hw : Part.pwr ∈ parts) (h : Within fs ps parts s y) :
    Within fs ps parts s { y with pwr := x } :=
  h.change .pwr hw rfl (fun p hp => by cases p <;> first | exact rfl | contradiction)

/-- What lies within some fields and parts lies within more. -/
theorem Within.weaken {fs' : List Fld} {parts' : List Part} (hf : ∀ f ∈ fs, fs'.any (fun e => e.covers f) = true)
    (hp : ∀ p ∈ parts, p ∈ parts') (h : Within fs [] parts s y) : Within fs' ps parts' s y := by
  refine ⟨fun g n i ha _ => h.1 g n i (fun f hmem => ?_) nofun, fun p hn => h.2 p (mt (hp p) hn)⟩
  obtain ⟨e, he, hcov⟩ := List.any_eq_true.mp (hf f hmem)
  exact Fld.apart_of_covers hcov (ha e he)

/-- A value that is kept from one state to the next of a frame. -/
theorem Within.ga_eq {f : Fld} (h : Within fs [] parts s y) (hf : fs.all (fun e => e.apart f) = true) (n i : Nat) :
    y.ga f n i = s.ga f n i :=
  h.1 f n i (List.all_eq_true.mp hf) nofun

end

/-- The registers in which the recorder shows what it sheds and folds. -/
def recorderFields : List Fld := [whole .BELF_SHED, whole .BELF_OVERFLOW, whole .BELF_EVENT]

/-- The frame of the recorder: its registers, its own part and what has left. -/
def RecorderOnly (s t : State) : Prop := Within recorderFields [] [.belf, .sent] s t

theorem RecorderOnly.shed {s y : State} (h : RecorderOnly s y) (i n : Nat) : RecorderOnly s (y.shed i n) :=
  Within.ite (fun _ => h) (fun _ => (h.bump _ _ _ _ (by decide)).raise _ _ _ (by decide) (by decide))

theorem foldOverflow_recorderOnly (s : State) (r : Record) : RecorderOnly s (s.foldOverflow r) := by
  have hbelf : ∀ x, RecorderOnly s { s with belf := x } := fun x => Within.refl.setBelf x (by decide)
  have hshown := fun x a b => ((hbelf x).pa F.BELF_OVERFLOW_RECORDS 0 r.sev a (by decide)).pa F.BELF_OVERFLOW_LAST_SOURCE 0
    r.sev b (by decide)
  exact (RecorderOnly.shed (hshown _ _ _) 5 1).raise _ _ _ (by decide) (by decide)

/-- A record that is written is queued, staged or folded. -/
theorem writeRecord_recorderOnly (s : State) (r : Record) : RecorderOnly s (s.writeRecord r) := by
  unfold writeRecord
  dsimp only
  split
  · exact Within.refl
  · split
    · split
      · exact Within.refl.setBelf _ (by decide)
      · exact ((foldOverflow_recorderOnly s _).raise _ _ _ (by decide) (by decide)).setBelf _ (by decide)
    · split
      · exact Within.refl.setBelf _ (by decide)
      · exact foldOverflow_recorderOnly s _

theorem record_recorderOnly (s : State) (rtype sev source inst : Nat) (body : Bytes) :
    RecorderOnly s (s.record rtype sev source inst body) := writeRecord_recorderOnly s _

/-- A word to the partner waits in a mailbox or leaves. -/
theorem postTwin_within (s : State) (i type payload : Nat) : Within [] [] [.mbx, .sent] s (s.postTwin i type payload) := by
  unfold postTwin post postWord
  split
  · exact Within.refl.setMbx _ (by decide)
  · unfold deliver
    dsimp only
    rw [if_neg (by decide), if_neg (by decide), if_pos rfl]
    exact (Within.refl.setMbx _ (by decide)).send _ _ _ _ (by decide) (.inl rfl)

namespace State

-- The core rail (R32)

@[simp] theorem setCore_pwr (s : State) (mv : Nat) : (s.setCore mv).pwr = s.pwr := by
  rw [setCore, p_eq, pi_eq, pa_pwr, pa_pwr]

/-- The core rail at a voltage: PWR_STATUS and the rail's own register show it. -/
theorem setCore_mv (s : State) {mv : Nat} (h : mv < 1024) :
    (s.setCore mv).ga F.PWR_STATUS_CORE_MV 0 0 = mv ∧ (s.setCore mv).ga F.PWR_RAIL_MV 0 4 = mv := by
  constructor
  · rw [setCore, p_eq, pi_eq, ga_pa_apart _ _ _ _ _ _ _ _ (by decide), ga_pa_same _ _ _ _ _ (by decide)]
    exact Nat.mod_eq_of_lt h
  · rw [setCore, p_eq, pi_eq, ga_pa_same _ _ _ _ _ (by decide)]
    exact Nat.mod_eq_of_lt (Nat.lt_trans h (by decide))

theorem setCore_ga (s : State) (mv : Nat) {f : Fld} (n i : Nat) (h1 : F.PWR_STATUS_CORE_MV.apart f = true)
    (h2 : F.PWR_RAIL_MV.apart f = true) : (s.setCore mv).ga f n i = s.ga f n i := by
  rw [setCore, p_eq, pi_eq, ga_pa_apart _ _ _ _ _ _ _ _ h2, ga_pa_apart _ _ _ _ _ _ _ _ h1]

theorem ceilingMv_le (s : State) : s.ceilingMv ≤ 820 := by
  unfold ceilingMv
  repeat' split
  all_goals omega

end State

-- A pace monitor over a window (R31, R32)

theorem Pace.extreme_keeps (m : Pace) (band pace tj mv : Nat) : (m.extreme band pace tj mv).engine = m.engine ∧
    (m.extreme band pace tj mv).done = m.done ∧ (m.extreme band pace tj mv).row = m.row ∧
    (m.extreme band pace tj mv).fast = m.fast := by
  unfold Pace.extreme
  dsimp only
  split <;> exact ⟨rfl, rfl, rfl, rfl⟩

/-- A monitor counts on, and a window below target lengthens its row of such windows. -/
theorem Pace.window_eq (m : Pace) (want count tj mv : Nat) : (m.window want count tj mv).engine = m.engine ∧
    (m.window want count tj mv).done = m.done + count ∧
    (m.window want count tj mv).row = (if count < want then m.row + 1 else 0) ∧
    (m.window want count tj mv).fast = (m.fast && decide (want * 110 ≤ count * 100)) := by
  unfold Pace.window
  dsimp only
  simp only [decide_eq_true_eq]
  split
  · exact ⟨rfl, rfl, rfl, rfl⟩
  · exact Pace.extreme_keeps _ _ _ _ _

namespace State

/-- The pace monitors after a window in which the engines counted `counts` (R31). -/
def monitors (s : State) (counts : List Nat) : List Pace :=
  s.pwr.pace.map (fun m => m.window (s.paceWant m.engine) (counts.getD (m.engine - 1) 0) (s.g F.PWR_STATUS_TJ_MAX)
    (s.g F.PWR_STATUS_CORE_MV))

/-- The window is counted; the rail stays where it is. -/
def windowed (s : State) (counts : List Nat) : State :=
  { s with pwr := { s.pwr with pace := s.monitors counts, windows := s.pwr.windows + 1 } }

/-- A monitor that read below target four windows in a row asks for a higher rail (R32). -/
def asksMore (s : State) (counts : List Nat) : Bool := (s.monitors counts).any (fun m => decide (4 ≤ m.row))

/-- R32: the rail is raised by 5 mV, and every monitor begins a new row. -/
theorem paceWindow_raises {s : State} {counts : List Nat} (hask : s.asksMore counts = true) (hbar : s.raiseBarred = false)
    (hceil : s.g F.PWR_STATUS_CORE_MV + 5 ≤ s.ceilingMv) :
    (s.paceWindow counts).regs = ((s.windowed counts).setCore (s.g F.PWR_STATUS_CORE_MV + 5)).regs ∧
      (s.paceWindow counts).pwr =
        { (s.windowed counts).pwr with pace := (s.monitors counts).map (fun m => { m with row := 0 }) } := by
  have hcond : (s.asksMore counts && !s.raiseBarred && decide (s.g F.PWR_STATUS_CORE_MV + 5 ≤ s.ceilingMv)) = true := by
    simp only [hask, hbar, decide_eq_true hceil, Bool.not_false, Bool.and_self]
  have hrun : s.paceWindow counts = { (s.windowed counts).setCore (s.g F.PWR_STATUS_CORE_MV + 5) with
      pwr := { (s.windowed counts).pwr with pace := (s.monitors counts).map (fun m => { m with row := 0 }) } } := if_pos hcond
  rw [hrun]
  exact ⟨rfl, rfl⟩

/-- R32: where no monitor asks for more, and some monitor reads no excess over the round, the rail stays. -/
theorem paceWindow_stays {s : State} {counts : List Nat} (hask : s.asksMore counts = false)
    (hfast : (s.monitors counts).all (fun m => m.fast) = false) : s.paceWindow counts = s.windowed counts := by
  have hraise : ¬(s.asksMore counts && !s.raiseBarred && decide (s.g F.PWR_STATUS_CORE_MV + 5 ≤ s.ceilingMv)) = true := by
    simp only [hask, Bool.false_and, Bool.false_eq_true, not_false_eq_true]
  have hlower : ¬(!s.asksMore counts && s.pwr.windows + 1 == s.windowsPerRound && (s.monitors counts).all (fun m => m.fast)
      && decide (555 ≤ s.g F.PWR_STATUS_CORE_MV)) = true := by
    simp only [hfast, Bool.and_false, Bool.false_and, Bool.false_eq_true, not_false_eq_true]
  exact (if_neg hraise).trans (if_neg hlower)

/-- Whatever the rail does, the window is counted and the monitors are those after it, perhaps with new rows. -/
theorem paceWindow_pwr (s : State) (counts : List Nat) : (s.paceWindow counts).pwr = (s.windowed counts).pwr ∨
    (s.paceWindow counts).pwr =
      { (s.windowed counts).pwr with pace := (s.monitors counts).map (fun m => { m with row := 0 }) } := by
  unfold paceWindow
  dsimp only
  split
  · exact .inr rfl
  · split <;> exact .inl rfl

theorem monitors_engine (s : State) (counts : List Nat) :
    (s.monitors counts).map (fun x => x.engine) = s.pwr.pace.map (fun x => x.engine) := by
  rw [monitors, List.map_map]
  exact List.map_congr_left (fun m _ => (m.window_eq _ _ _ _).1)

theorem monitors_done (s : State) (counts : List Nat) :
    (s.monitors counts).map (fun x => x.done) = s.pwr.pace.map (fun x => x.done + counts.getD (x.engine - 1) 0) := by
  rw [monitors, List.map_map]
  exact List.map_congr_left (fun m _ => (m.window_eq _ _ _ _).2.1)

-- The junction (R32)

/-- The junction's temperature, saturated to its field. -/
theorem junctionTemperature_tj (s : State) (deciC : Nat) :
    (s.junctionTemperature deciC).ga F.PWR_STATUS_TJ_MAX 0 0 = sat 12 deciC := by
  have hshown : (s.pa F.PWR_STATUS_TJ_MAX 0 0 (sat 12 deciC)).ga F.PWR_STATUS_TJ_MAX 0 0 = sat 12 deciC :=
    (ga_pa_same _ _ _ _ _ (by decide)).trans (sat_mod_two_pow 12 deciC)
  unfold junctionTemperature
  dsimp only
  split
  · rw [setCore_ga _ _ _ _ (by decide) (by decide), p_eq, hshown]
  · rw [p_eq, hshown]

/-- R32: from 105 °C on the rail is at economy at most. -/
theorem junctionTemperature_core (s : State) (deciC : Nat) : (s.junctionTemperature deciC).ga F.PWR_STATUS_CORE_MV 0 0 =
    if 1050 ≤ deciC then min 600 (s.ga F.PWR_STATUS_CORE_MV 0 0) else s.ga F.PWR_STATUS_CORE_MV 0 0 := by
  unfold junctionTemperature
  dsimp only
  split
  · exact (setCore_mv _ (by omega)).1
  · rw [p_eq, ga_pa_apart _ _ _ _ _ _ _ _ (by decide)]

-- Pace deficits (R36)

/-- What a PACE record shows draws at most free values. -/
theorem paceShown_eq (s : State) (m : Pace) : (s.paceShown m).2 = { s with free := (s.paceShown m).2.free } := by
  unfold paceShown
  split <;> rfl

/-- The report of a deficit in PWR (R36). -/
def reportDeficit (s : State) (engine : Nat) : State :=
  ((s.pi F.PWR_PACE_DEFICIT engine 1).pi F.PWR_PACE_DEFICITS engine (sat 32 (s.gi F.PWR_PACE_DEFICITS engine + 1))).p
    F.PWR_STATUS_DEFICIT 1

theorem reportDeficit_ga (s : State) (engine : Nat) : (s.reportDeficit engine).ga F.PWR_PACE_DEFICIT 0 engine = 1 ∧
    (s.reportDeficit engine).ga F.PWR_PACE_DEFICITS 0 engine = sat 32 (s.gi F.PWR_PACE_DEFICITS engine + 1) ∧
    (s.reportDeficit engine).ga F.PWR_STATUS_DEFICIT 0 0 = 1 := by
  unfold reportDeficit
  refine ⟨?_, ?_, ?_⟩
  · simp (disch := decide)
  · simp only [p_eq, pi_eq]
    rw [ga_pa_apart _ _ _ _ _ _ _ _ (by decide), ga_pa_same _ _ _ _ _ (by decide)]
    exact sat_mod_two_pow 32 _
  · simp (disch := decide)

/-- The deficit event of a reported deficit; what it shows may have drawn free values. -/
def raiseDeficit (s : State) (engine : Nat) (m : Pace) : State :=
  ((s.reportDeficit engine).paceShown m).2.raise F.PWR_EVENT_DEFICIT engine 1

/-- The event of a deficit leaves its report, and sets its bit. -/
theorem raiseDeficit_ga (s : State) (engine : Nat) (m : Pace) : (s.raiseDeficit engine m).ga F.PWR_EVENT_DEFICIT 0 0 = 1 ∧
    ∀ f : Fld, F.PWR_EVENT_DEFICIT.apart f = true → ∀ n i, (s.raiseDeficit engine m).ga f n i = (s.reportDeficit engine).ga f n i := by
  unfold raiseDeficit
  refine ⟨?_, fun f hf n i => ?_⟩
  · exact raise_ga_same _ _ _ _ (by decide)
  · rw [raise_ga_apart _ _ _ _ _ _ _ hf, paceShown_eq, ga_mk]

/-- After the event of a deficit come its PACE record and a fresh monitor, and no register of PWR changes. -/
theorem paceDeficit_within {s : State} {engine : Nat} {m : Pace} (hm : s.paceOf engine = some m)
    (hshort : s.paceShort engine = true) (hspent : s.railSpent = true) :
    Within recorderFields [] [.belf, .sent, .pwr] (s.raiseDeficit engine m) (s.paceDeficit engine) := by
  unfold paceDeficit raiseDeficit reportDeficit
  -- What the record shows is no matter here, and would be costly to compute.
  obtain ⟨shown, drawn, hpair⟩ : ∃ shown drawn, paceShown = fun s m => (shown s m, drawn s m) :=
    ⟨fun s m => (s.paceShown m).1, fun s m => (s.paceShown m).2, rfl⟩
  rw [hm, hpair]
  dsimp only
  rw [if_neg (by simp [hshort, hspent])]
  generalize drawn _ m = u
  have hrecord := record_recorderOnly (u.raise F.PWR_EVENT_DEFICIT engine 1)
  exact ((hrecord _ _ _ _ _).weaken (by decide) (by decide)).setPwr _ (by decide)

-- The feed limit (R439)

/-- One feed alone conducts. -/
def oneFeed (s : State) : Bool := decide (s.gi F.TWIN_FEED_STATE 0 < 2) != decide (s.gi F.TWIN_FEED_STATE 1 < 2)

theorem oneFeed_of_first {s : State} (h0 : s.gi F.TWIN_FEED_STATE 0 < 2) (h1 : 2 ≤ s.gi F.TWIN_FEED_STATE 1) :
    s.oneFeed = true := by
  rw [oneFeed, decide_eq_true h0, decide_eq_false (Nat.not_lt.mpr h1)]
  rfl

theorem oneFeed_of_second {s : State} (h0 : 2 ≤ s.gi F.TWIN_FEED_STATE 0) (h1 : s.gi F.TWIN_FEED_STATE 1 < 2) :
    s.oneFeed = true := by
  rw [oneFeed, decide_eq_true h1, decide_eq_false (Nat.not_lt.mpr h0)]
  rfl

/-- Below 14 A the calm begins, or goes on. -/
theorem feedCurrent_calm {s : State} {ma : Nat} (h : ma < 14000) (hcalm : s.pwr.feedCalm = none) :
    (s.feedCurrent ma).pwr.feedCalm = some s.round := by
  unfold feedCurrent
  dsimp only
  rw [if_pos h, hcalm]

/-- At 16 A through one feed the rail goes to economy, and is held there. -/
theorem feedCurrent_economy {s : State} {ma : Nat} (hone : s.oneFeed = true) (h : 16000 ≤ ma) : s.feedCurrent ma =
    { s with pwr := { s.pwr with feedCalm := none, feedHold := true, feedEconomy := true } }.setCore
      (min 600 (s.g F.PWR_STATUS_CORE_MV)) := by
  have hcond : (s.oneFeed && decide (16000 ≤ ma)) = true := by rw [hone, decide_eq_true h]; rfl
  unfold feedCurrent
  dsimp only
  rw [if_neg (by omega)]
  exact if_pos hcond

/-- From 14 A on no calm is left, and from 15.5 A through one feed the rail is held. -/
theorem feedCurrent_loaded {s : State} {ma : Nat} (h : 14000 ≤ ma) : (s.feedCurrent ma).pwr.feedCalm = none ∧
    (15500 ≤ ma → s.oneFeed = true → (s.feedCurrent ma).pwr.feedHold = true) := by
  by_cases h16 : (s.oneFeed && decide (16000 ≤ ma)) = true
  · obtain ⟨hone, hma⟩ := Bool.and_eq_true_iff.mp h16
    rw [feedCurrent_economy hone (of_decide_eq_true hma), setCore_pwr]
    exact ⟨rfl, fun _ _ => rfl⟩
  · have hcut : s.feedCurrent ma = if (s.oneFeed && decide (15500 ≤ ma)) = true then
        { s with pwr := { s.pwr with feedCalm := none, feedHold := true } }
        else { s with pwr := { s.pwr with feedCalm := none } } := by
      unfold feedCurrent
      dsimp only
      rw [if_neg (by omega)]
      exact if_neg h16
    rw [hcut]
    split
    · exact ⟨rfl, fun _ _ => rfl⟩
    · next h15 => exact ⟨rfl, fun hma hone => absurd (by rw [hone, decide_eq_true hma]; rfl) h15⟩

/-- Before the rail has been lowered, and below 16 A, the feed's current takes no module down. -/
theorem feedLimit_eq {s : State} {ma : Nat} (h : s.pwr.feedEconomy = false ∨ ma < 16000) :
    s.feedLimit ma = s.feedCurrent ma := by
  unfold feedLimit
  dsimp only
  refine if_neg ?_
  simp only [Bool.and_eq_true, decide_eq_true_eq]
  rintro ⟨⟨⟨hecon, -⟩, hma⟩, -⟩
  rcases h with h | h
  · exact absurd (h.symm.trans hecon) Bool.false_ne_true
  · omega

/-- At economy a draw of 16 A through one feed is as a power failure. -/
theorem feedLimit_down {s : State} {ma : Nat} (hecon : s.pwr.feedEconomy = true) (hone : s.oneFeed = true)
    (hma : 16000 ≤ ma) (hcore : s.g F.PWR_STATUS_CORE_MV ≤ 600) : s.feedLimit ma = s.powerFail := by
  have hcond : (s.pwr.feedEconomy && s.oneFeed && decide (16000 ≤ ma) && decide (s.g F.PWR_STATUS_CORE_MV ≤ 600)) = true := by
    rw [hecon, hone, decide_eq_true hma, decide_eq_true hcore]
    rfl
  exact if_pos hcond

theorem powerOff_started (s : State) (clean : Bool) : (s.powerOff clean).pwr.started = false := by
  unfold powerOff
  split
  · next h => simpa using h
  · rfl

-- A cold start, and the ENABLE that is held (R412, R413, R441)

theorem showOverflow_pwr (s : State) : s.showOverflow.pwr = s.pwr := by
  have h : Within [whole .BELF_OVERFLOW] [] [] s s.showOverflow :=
    Within.foldl _ _ (fun x i hx => (hx.pa F.BELF_OVERFLOW_RECORDS 0 i _ (by decide)).pa F.BELF_OVERFLOW_LAST_SOURCE 0 i _
      (by decide)) Within.refl
  exact h.2 .pwr (by decide)

/-- A rail that comes into regulation is shown in its own register. -/
theorem railUp_within (s : State) (r : Nat) : Within [whole .PWR_RAIL] [] [.free] s (s.railUp r) := by
  have hdrawn : Within [whole .PWR_RAIL] [] [.free] s { s with free := s.free + 1 + 1 } :=
    Within.refl.change .free (by decide) rfl (fun p hp => by cases p <;> first | exact rfl | contradiction)
  exact ((hdrawn.pa F.PWR_RAIL_MV 0 r _ (by decide)).pa F.PWR_RAIL_MA 0 r _ (by decide)).pa F.PWR_RAIL_STATE 0 r 2 (by decide)

/-- A cold start begins at stage 0 of bring-up. -/
theorem coldStart_spec (s : State) : s.coldStart.pwr.started = true ∧ s.coldStart.ga F.PWR_STATUS_STAGE 0 0 = 0 := by
  unfold coldStart
  dsimp only
  generalize (if s.pwr.counted = true then _ else _ : State) = u
  generalize hv : State.showOverflow _ = v
  have hstarted : v.pwr.started = true := by rw [← hv, showOverflow_pwr]
  have hrail := railUp_within ((v.p F.PWR_STATUS_STAGE 0).p F.PWR_STATUS_STAGE_FAIL 0) 0
  rw [pi_eq, pa_pwr]
  refine ⟨?_, ?_⟩
  · rw [hrail.2 .pwr (by decide), p_eq, p_eq, pa_pwr, pa_pwr, hstarted]
  · rw [ga_pa_apart _ _ _ _ _ _ _ _ (by decide), hrail.ga_eq (by decide), p_eq, p_eq,
      ga_pa_apart _ _ _ _ _ _ _ _ (by decide), ga_pa_same _ _ _ _ _ (by decide), Nat.zero_mod]

/-- An ENABLE that stands is acted upon while a feed is OK. -/
theorem heldEnable_starts {s : State} {f : Nat} (henable : s.pwr.enable = true) (hstarted : s.pwr.started = false)
    (htripped : s.pwr.tripped = false) (hup : s.pwr.standbyUp = true) (hf : f < 2) (hok : s.gi F.TWIN_FEED_STATE f = 0) :
    s.heldEnable = { s with pwr := { s.pwr with enable := true } }.coldStart := by
  have hany : (List.range 2).any (fun k => s.gi F.TWIN_FEED_STATE k == 0) = true :=
    List.any_eq_true.mpr ⟨f, List.mem_range.mpr hf, by rw [hok]; rfl⟩
  rw [heldEnable, if_pos henable]
  unfold enableAssert
  dsimp only
  rw [hany, hstarted, htripped, hup]
  rfl

-- A feed (R374, R375)

/-- A feed is shown at a voltage, with the state that follows (Table 14.8). -/
def feedShown (s : State) (feed mv : Nat) : State :=
  let st := feedState (s.gi F.TWIN_FEED_STATE feed) mv
  let s1 := (s.pi F.TWIN_FEED_MV feed (sat 17 mv)).pi F.TWIN_FEED_STATE feed st
  if 2 ≤ st then s1.pi F.TWIN_FEED_MA feed 0 else s1

theorem feedShown_within (s : State) (feed mv : Nat) : Within [whole .TWIN_FEED] [] [] s (s.feedShown feed mv) := by
  have hshown := fun v w => (Within.refl (fs := [whole .TWIN_FEED]) (ps := []) (parts := []) (s := s)).pa F.TWIN_FEED_MV 0
    feed v (by decide) |>.pa F.TWIN_FEED_STATE 0 feed w (by decide)
  exact Within.ite (fun _ => (hshown _ _).pa F.TWIN_FEED_MA 0 feed 0 (by decide)) (fun _ => hshown _ _)

theorem feedState_lt (old mv : Nat) : feedState old mv < 4 := by
  unfold feedState
  repeat' split
  all_goals omega

theorem feedShown_state (s : State) (feed mv : Nat) :
    (s.feedShown feed mv).gi F.TWIN_FEED_STATE feed = feedState (s.gi F.TWIN_FEED_STATE feed) mv := by
  have hst := feedState_lt (s.gi F.TWIN_FEED_STATE feed) mv
  unfold feedShown
  generalize feedState _ mv = st at hst ⊢
  dsimp only
  simp only [gi_eq, pi_eq]
  split
  · rw [ga_pa_apart _ _ _ _ _ _ _ _ (by decide), ga_pa_same _ _ _ _ _ (by decide)]
    exact Nat.mod_eq_of_lt hst
  · rw [ga_pa_same _ _ _ _ _ (by decide)]
    exact Nat.mod_eq_of_lt hst

/-- A change of a feed's state is an event, a record and a word to the partner; the feed and the power state stay as shown. -/
theorem feedStateChange_within (s : State) {feed : Nat} (mv : Nat) (hf : feed < 2) :
    Within (F.TWIN_EVENT_FEED_CHANGE :: recorderFields) [] [.belf, .mbx, .sent] (s.feedShown feed mv)
      (s.feedStateChange feed mv) := by
  have hrun : s.feedStateChange feed mv = if feedState (s.gi F.TWIN_FEED_STATE feed) mv = s.gi F.TWIN_FEED_STATE feed then
      s.feedShown feed mv else _ := if_neg (Nat.not_le.mpr hf)
  rw [hrun]
  refine Within.ite (fun _ => Within.refl) (fun _ => ?_)
  exact (((((Within.refl (s := s.feedShown feed mv)).raise F.TWIN_EVENT_FEED_CHANGE feed _ (by decide) (by decide)).trans
    ((record_recorderOnly _ _ _ _ _ _).weaken (by decide) (by decide))).trans
    ((postTwin_within _ 0 0x1B _).weaken (by decide) (by decide))))

end State
end Sys2Proof.Machine
end

section
/-! Power and pace (R31, R32, R36, R412, R439), clause by clause. -/
namespace Sys2Proof.Machine
open State

-- What the rows of power run

theorem exec_paceWindow (counts : List Nat) (s : State) :
    exec (.paceWindow counts) s = .next (s.paceWindow counts).settle := rfl
theorem exec_junctionTemperatureThreshold (deciC : Nat) (s : State) :
    exec (.junctionTemperatureThreshold deciC) s = .next (s.junctionTemperature deciC).settle := rfl
theorem exec_paceDeficit (engine : Nat) (s : State) :
    exec (.paceDeficit engine) s = .next (s.paceDeficit engine).settle := rfl
theorem exec_fallbackApply (engine : Nat) (s : State) :
    exec (.fallbackApply engine) s = .next (s.fallbackApply engine).settle := rfl
theorem exec_feedCurrentLimit (ma : Nat) (s : State) :
    exec (.feedCurrentLimit ma) s = .next (s.feedLimit ma).settle := rfl
theorem exec_feedStateChange (f mv : Nat) (s : State) :
    exec (.feedStateChange f mv) s = .next (s.feedStateChange f mv).heldEnable.settle := rfl

/-- The voltage loop steps the core rail up by 5 mV where a monitor has read below target four windows in a row (R32). -/
theorem paceWindow_step (counts : List Nat) (m : Pace) (s : State) (hm : m ∈ s.pwr.pace) (hrow : 3 ≤ m.row)
    (hbar : s.raiseBarred = false) (hceil : s.g F.PWR_STATUS_CORE_MV + 5 ≤ s.ceilingMv) :
    Yields (.paceWindow counts) s (fun t => counts.getD (m.engine - 1) 0 < s.paceWant m.engine →
      t.g F.PWR_STATUS_CORE_MV = s.g F.PWR_STATUS_CORE_MV + 5 ∧
      t.gi F.PWR_RAIL_MV 4 = s.g F.PWR_STATUS_CORE_MV + 5 ∧ ∀ x ∈ t.pwr.pace, x.row = 0) := by
  refine ⟨_, exec_paceWindow counts s, fun hslow => ?_⟩
  have hask : s.asksMore counts = true := by
    refine List.any_eq_true.mpr ⟨_, List.mem_map_of_mem hm, decide_eq_true ?_⟩
    rw [(m.window_eq _ _ _ _).2.2.1, if_pos hslow]
    omega
  have hle := s.ceilingMv_le
  have hmv := (s.windowed counts).setCore_mv (mv := s.g F.PWR_STATUS_CORE_MV + 5) (by omega)
  obtain ⟨hregs, hpwr⟩ := paceWindow_raises hask hbar hceil
  rw [g_eq, gi_eq, settle_ga _ _ _ _ (by decide), settle_ga _ _ _ _ (by decide), ga_of_regs hregs, ga_of_regs hregs, settle_pwr,
    hpwr]
  refine ⟨hmv.1, hmv.2, fun x hx => ?_⟩
  obtain ⟨y, -, rfl⟩ := List.mem_map.mp hx
  rfl

/-- Where every monitor is at its target, and none has read an excess over the round, the rail stays (R32). -/
theorem paceWindow_idle (counts : List Nat) (s : State)
    (hall : ∀ m ∈ s.pwr.pace, s.paceWant m.engine ≤ counts.getD (m.engine - 1) 0 ∧ m.row = 0 ∧ m.fast = false)
    (hne : s.pwr.pace ≠ []) :
    Yields (.paceWindow counts) s (fun t => t.pwr.windows = s.pwr.windows + 1 ∧
      t.g F.PWR_STATUS_CORE_MV = s.g F.PWR_STATUS_CORE_MV) := by
  have hask : s.asksMore counts = false := by
    refine List.any_eq_false.mpr fun x hx => ?_
    obtain ⟨m, hm, rfl⟩ := List.mem_map.mp hx
    rw [(m.window_eq _ _ _ _).2.2.1, if_neg (Nat.not_lt.mpr (hall m hm).1)]
    decide
  have hfast : (s.monitors counts).all (fun m => m.fast) = false := by
    obtain ⟨m, hm⟩ := List.exists_mem_of_ne_nil _ hne
    refine List.all_eq_false.mpr ⟨_, List.mem_map_of_mem hm, ?_⟩
    rw [(m.window_eq _ _ _ _).2.2.2, (hall m hm).2.2, Bool.false_and]
    exact Bool.false_ne_true
  refine ⟨_, exec_paceWindow counts s, ?_⟩
  dsimp only
  rw [paceWindow_stays hask hfast, settle_pwr, g_eq, settle_ga _ _ _ _ (by decide)]
  exact ⟨rfl, rfl⟩

/-- A window is counted, and every monitor counts on (R31). -/
theorem paceWindow_counts (counts : List Nat) (s : State) :
    Yields (.paceWindow counts) s (fun t => t.pwr.windows = s.pwr.windows + 1 ∧
      t.pwr.pace.map (fun x => x.engine) = s.pwr.pace.map (fun x => x.engine) ∧
      t.pwr.pace.map (fun x => x.done) = s.pwr.pace.map (fun x => x.done + counts.getD (x.engine - 1) 0)) := by
  refine ⟨_, exec_paceWindow counts s, ?_⟩
  dsimp only
  rw [settle_pwr, ← s.monitors_engine counts, ← s.monitors_done counts]
  rcases s.paceWindow_pwr counts with h | h
  · rw [h]
    exact ⟨rfl, rfl, rfl⟩
  · rw [h, List.map_map, List.map_map]
    exact ⟨rfl, rfl, rfl⟩

/-- The junction's temperature is shown, saturated to its field. -/
theorem junctionTemperature_shown (deciC : Nat) (s : State) : Yields (.junctionTemperatureThreshold deciC) s
    (fun t => t.g F.PWR_STATUS_TJ_MAX = sat 12 deciC) := by
  refine ⟨_, exec_junctionTemperatureThreshold deciC s, ?_⟩
  dsimp only
  rw [g_eq, settle_ga _ _ _ _ (by decide), junctionTemperature_tj]

/-- Below 105 °C the rail stays. -/
theorem junctionTemperature_cool (deciC : Nat) (s : State) (h : deciC < 1050) : Yields (.junctionTemperatureThreshold deciC) s
    (fun t => t.g F.PWR_STATUS_TJ_MAX = deciC ∧ t.g F.PWR_STATUS_CORE_MV = s.g F.PWR_STATUS_CORE_MV) := by
  refine ⟨_, exec_junctionTemperatureThreshold deciC s, ?_⟩
  dsimp only
  rw [g_eq, g_eq, g_eq, settle_ga _ _ _ _ (by decide), settle_ga _ _ _ _ (by decide), junctionTemperature_tj,
    junctionTemperature_core, if_neg (by omega)]
  exact ⟨sat_of_lt (by omega), rfl⟩

/-- From 105 °C on the rail is at economy at most (R32). -/
theorem junctionTemperature_hot (deciC : Nat) (s : State) (h1 : 1050 ≤ deciC) (h2 : deciC < 4096) :
    Yields (.junctionTemperatureThreshold deciC) s
      (fun t => t.g F.PWR_STATUS_TJ_MAX = deciC ∧ t.g F.PWR_STATUS_CORE_MV = min 600 (s.g F.PWR_STATUS_CORE_MV)) := by
  refine ⟨_, exec_junctionTemperatureThreshold deciC s, ?_⟩
  dsimp only
  rw [g_eq, g_eq, g_eq, settle_ga _ _ _ _ (by decide), settle_ga _ _ _ _ (by decide), junctionTemperature_tj,
    junctionTemperature_core, if_pos h1]
  exact ⟨sat_of_lt h2, rfl⟩

/-- A deficit is reported, counted and raised as an event (R36). -/
theorem paceDeficit_reported (engine : Nat) (m : Pace) (s : State) (hm : s.paceOf engine = some m)
    (hshort : s.paceShort engine = true) (hspent : s.railSpent = true) :
    Yields (.paceDeficit engine) s (fun t => t.gi F.PWR_PACE_DEFICIT engine = 1 ∧ t.b F.PWR_STATUS_DEFICIT = true ∧
      t.b F.PWR_EVENT_DEFICIT = true ∧
      t.gi F.PWR_PACE_DEFICITS engine = sat 32 (s.gi F.PWR_PACE_DEFICITS engine + 1)) := by
  have hrest := paceDeficit_within hm hshort hspent
  obtain ⟨hevent, hkeep⟩ := s.raiseDeficit_ga engine m
  obtain ⟨hbit, hcount, hstatus⟩ := s.reportDeficit_ga engine
  refine ⟨_, exec_paceDeficit engine s, ?_, ?_, ?_, ?_⟩
  · rw [gi_eq, settle_ga _ _ _ _ (by decide), hrest.ga_eq (by decide), hkeep _ (by decide), hbit]
  · rw [b_eq, settle_ga _ _ _ _ (by decide), hrest.ga_eq (by decide), hkeep _ (by decide), hstatus, beq_self_eq_true]
  · rw [b_eq, settle_ga _ _ _ _ (by decide), hrest.ga_eq (by decide), hevent, beq_self_eq_true]
  · rw [gi_eq, settle_ga _ _ _ _ (by decide), hrest.ga_eq (by decide), hkeep _ (by decide), hcount]

theorem mem_addOnce (x : Nat) (l : List Nat) : x ∈ addOnce x l := by
  unfold addOnce
  split <;> simp_all

/-- The fallback of a deficit comes into force (R36). -/
theorem fallbackApply_inForce (engine : Nat) (s : State) (h : s.gi F.PWR_PACE_DEFICIT engine = 1) :
    Yields (.fallbackApply engine) s (fun t => engine ∈ t.pwr.fallback ∧ Frame [] [] [.pwr] s t) := by
  have hrun : s.fallbackApply engine = { s with pwr := { s.pwr with fallback := addOnce engine s.pwr.fallback } } := if_pos h
  refine ⟨_, exec_fallbackApply engine s, ?_⟩
  dsimp only
  rw [hrun, settle_pwr]
  exact ⟨mem_addOnce engine s.pwr.fallback, (Within.refl.setPwr _ (by decide)).frame⟩

/-- At 16 A the only feed that conducts brings the rail to economy (R439). -/
theorem feedCurrentLimit_economy (ma : Nat) (s : State) (hecon : s.pwr.feedEconomy = false) (hma : 16000 ≤ ma)
    (h0 : s.gi F.TWIN_FEED_STATE 0 < 2) (h1 : 2 ≤ s.gi F.TWIN_FEED_STATE 1) :
    Yields (.feedCurrentLimit ma) s (fun t => t.pwr.feedHold = true ∧ t.pwr.feedEconomy = true ∧
      t.g F.PWR_STATUS_CORE_MV = min 600 (s.g F.PWR_STATUS_CORE_MV)) := by
  refine ⟨_, exec_feedCurrentLimit ma s, ?_⟩
  dsimp only
  rw [feedLimit_eq (.inl hecon), feedCurrent_economy (oneFeed_of_first h0 h1) hma, settle_pwr, setCore_pwr, g_eq,
    settle_ga _ _ _ _ (by decide)]
  exact ⟨rfl, rfl, (setCore_mv _ (by omega)).1⟩

/-- Below 14 A the round is kept in which the calm began (R439). -/
theorem feedCurrentLimit_calm (ma : Nat) (s : State) (hma : ma < 14000) (hcalm : s.pwr.feedCalm = none) :
    Yields (.feedCurrentLimit ma) s (fun t => t.pwr.feedCalm = some s.round) := by
  refine ⟨_, exec_feedCurrentLimit ma s, ?_⟩
  dsimp only
  rw [feedLimit_eq (.inr (by omega)), settle_pwr, feedCurrent_calm hma hcalm]

/-- From 14 A on there is no calm, and from 15.5 A through one feed the loop may not raise the rail (R439). -/
theorem feedCurrentLimit_loaded (ma : Nat) (s : State) (hecon : s.pwr.feedEconomy = false) (hma : 14000 ≤ ma) :
    Yields (.feedCurrentLimit ma) s (fun t => t.pwr.feedCalm = none ∧
      (15500 ≤ ma → s.gi F.TWIN_FEED_STATE 0 < 2 → 2 ≤ s.gi F.TWIN_FEED_STATE 1 → t.pwr.feedHold = true) ∧
      (15500 ≤ ma → 2 ≤ s.gi F.TWIN_FEED_STATE 0 → s.gi F.TWIN_FEED_STATE 1 < 2 → t.pwr.feedHold = true)) := by
  obtain ⟨hcalm, hhold⟩ := feedCurrent_loaded (s := s) hma
  refine ⟨_, exec_feedCurrentLimit ma s, ?_⟩
  dsimp only
  rw [feedLimit_eq (.inl hecon), settle_pwr]
  exact ⟨hcalm, fun h h0 h1 => hhold h (oneFeed_of_first h0 h1), fun h h0 h1 => hhold h (oneFeed_of_second h0 h1)⟩

/-- At economy a draw of 16 A through the only feed takes the module down (R439). -/
theorem feedCurrentLimit_down (ma : Nat) (s : State) (hecon : s.pwr.feedEconomy = true)
    (hcore : s.g F.PWR_STATUS_CORE_MV ≤ 600) (hma : 16000 ≤ ma) (h0 : s.gi F.TWIN_FEED_STATE 0 < 2)
    (h1 : 2 ≤ s.gi F.TWIN_FEED_STATE 1) : Yields (.feedCurrentLimit ma) s (fun t => t.pwr.started = false) := by
  refine ⟨_, exec_feedCurrentLimit ma s, ?_⟩
  dsimp only
  rw [feedLimit_down hecon (oneFeed_of_first h0 h1) hma hcore, settle_pwr]
  exact s.powerOff_started false

/-- A feed that becomes OK starts bring-up where ENABLE stands (R412). -/
theorem feedStateChange_starts (f mv : Nat) (s : State) (henable : s.pwr.enable = true) (hstarted : s.pwr.started = false)
    (htripped : s.pwr.tripped = false) (hup : s.pwr.standbyUp = true) (hf : f < 2)
    (hok : feedState (s.gi F.TWIN_FEED_STATE f) mv = 0) :
    Yields (.feedStateChange f mv) s (fun t => t.pwr.started = true ∧ t.g F.PWR_STATUS_STAGE = 0) := by
  have hrest := s.feedStateChange_within mv hf
  have hpwr : (s.feedStateChange f mv).pwr = s.pwr :=
    (hrest.2 .pwr (by decide)).trans ((s.feedShown_within f mv).2 .pwr (by decide))
  have hfeed : (s.feedStateChange f mv).gi F.TWIN_FEED_STATE f = 0 :=
    (hrest.ga_eq (by decide) 0 f).trans ((s.feedShown_state f mv).trans hok)
  have hheld := heldEnable_starts (s := s.feedStateChange f mv) (by rwa [hpwr]) (by rwa [hpwr]) (by rwa [hpwr]) (by rwa [hpwr])
    hf hfeed
  refine ⟨_, exec_feedStateChange f mv s, ?_⟩
  dsimp only
  rw [hheld, settle_pwr, g_eq, settle_ga _ _ _ _ (by decide)]
  exact coldStart_spec _

/-- Settles O48: each row runs its operation, and what the operation does to the rail, the monitors, the feed limit and
bring-up is said once above. -/
theorem powerCommandsComplete : Obligations.PowerCommandsComplete :=
  ⟨paceWindow_step, paceWindow_idle, junctionTemperature_cool, junctionTemperature_hot, paceDeficit_reported,
    fallbackApply_inForce, feedCurrentLimit_economy, feedCurrentLimit_calm, paceWindow_counts, junctionTemperature_shown,
    feedCurrentLimit_loaded, feedCurrentLimit_down, feedStateChange_starts⟩

end Sys2Proof.Machine
end

section
/-! SUPPORT. Slots, beacons and notices: what an agent's slot sends, what a beacon leaves in a port's registers, what a fault
notice touches, and that a change of the topology forgets no beacon (R70, R72, R87, R95, R128). -/
namespace Sys2Proof.Machine

/-- What no step of a loop changes, the loop does not change. -/
theorem foldl_keeps {α β γ : Type} (q : β → γ) (g : β → α → β) (hg : ∀ x a, q (g x a) = q x) (l : List α) (x : β) :
    q (l.foldl g x) = q x := by
  induction l generalizing x with
  | nil => rfl
  | cons a l ih => exact (ih (g x a)).trans (hg x a)

/-- A choice between two states answers one of them. -/
theorem ite_cases (c : Prop) [Decidable c] (a b : State) : (if c then a else b) = a ∨ (if c then a else b) = b := by
  by_cases h : c
  · exact .inl (if_pos h)
  · exact .inr (if_neg h)

namespace State

-- Slots (R70, R95)

theorem sendBeacon_sent (s : State) (node port : Nat) : (s.sendBeacon node port).sent =
    s.sent ++ [⟨.beacon, node, port, s.beaconFields node port, beaconFrame 1 (s.beaconFields node port)⟩] :=
  emit_plain_sent _ _ _ _ _ _ rfl

theorem sendBeacon_within (s : State) (node port : Nat) : Within [] [] [.sent] s (s.sendBeacon node port) :=
  Within.refl.emit _ _ _ _ _ (by decide) (.inl rfl)

/-- A slot that no flow owns is idle. -/
theorem slotStart_idle {s : State} {node port slot : Nat} (hup : s.portUp node port = true)
    (hslots : (s.ag node).active.port port ≠ []) (hlit : s.ga F.AG_PORT_CFG_DARK node port = 0)
    (hmgmt : isMgmt (((s.ag node).active.port port).getD slot 0) = false)
    (hflow : slotFlow (((s.ag node).active.port port).getD slot 0) = 0) :
    s.slotStart node port slot = s.send .idle node port [] := by
  unfold slotStart
  dsimp only
  rw [if_neg (by simp [hup]), if_neg (by simpa using hslots), if_neg (by simp [hlit]), if_neg (Bool.eq_false_iff.mp hmgmt),
    if_pos (by rw [hflow]; rfl)]

/-- The boot pattern's beacon slots on an unscheduled port. -/
theorem slotStart_beacon {s : State} {node port slot : Nat} (hup : s.portUp node port = true)
    (hslots : (s.ag node).active.port port = []) (hslot : slot % 64 = 0) :
    s.slotStart node port slot = s.sendBeacon node port := by
  unfold slotStart
  dsimp only
  rw [if_neg (by simp [hup]), if_pos (by simp [hslots]), bootSlot, if_pos hslot, if_neg Bool.false_ne_true]

-- Fault notices (R128)

/-- A notice waits at the agent for its cause and port, and AG_FAULT shows it. -/
theorem notice_eq (s : State) (node cause port flow cupola : Nat) : ∃ l n, (∃ e ∈ l, e.1 = cause ∧ e.2.1 = port) ∧
    s.notice node cause port flow cupola = (((((s.setAg { s.ag node with notices := l }).pn F.AG_FAULT_CAUSE node cause).pn
      F.AG_FAULT_PORT node port).pn F.AG_FAULT_FLOW node flow).pn F.AG_FAULT_CUPOLA node cupola).pn F.AG_FAULT_COUNT node n := by
  refine ⟨_, _, ?_, rfl⟩
  split
  · next hany =>
    obtain ⟨e, he, hsame⟩ := List.any_eq_true.mp hany
    have hhit : e.1 = cause ∧ e.2.1 = port := by simpa using hsame
    exact ⟨_, List.mem_map_of_mem he, by simpa only [hsame, if_true] using hhit⟩
  · exact ⟨_, List.mem_append_right _ (List.mem_singleton_self _), rfl, rfl⟩

theorem notice_within (s : State) (node cause port flow cupola : Nat) :
    Within [whole .AG_FAULT] [] [.agents] s (s.notice node cause port flow cupola) := by
  obtain ⟨l, n, -, h⟩ := s.notice_eq node cause port flow cupola
  have hqueued := Within.refl (fs := [whole .AG_FAULT]) (ps := []) (s := s) |>.setAg { s.ag node with notices := l }
    (parts := [.agents]) (by decide)
  rw [h]
  exact ((((hqueued.pa _ node 0 _ (by decide)).pa _ node 0 _ (by decide)).pa _ node 0 _ (by decide)).pa _ node 0 _
    (by decide)).pa _ node 0 _ (by decide)

theorem notice_cause (s : State) (node cause port flow cupola : Nat) :
    (s.notice node cause port flow cupola).ga F.AG_FAULT_CAUSE node 0 = cause % 2 ^ 8 := by
  obtain ⟨l, n, -, h⟩ := s.notice_eq node cause port flow cupola
  rw [h]
  simp (disch := decide)

/-- Of what the agent keeps, a notice changes the waiting notices alone. -/
theorem notice_ag (s : State) (node cause port flow cupola : Nat) : ∃ l, (∃ e ∈ l, e.1 = cause ∧ e.2.1 = port) ∧
    (s.notice node cause port flow cupola).ag node = { s.ag node with notices := l } := by
  obtain ⟨l, n, hmem, h⟩ := s.notice_eq node cause port flow cupola
  refine ⟨l, hmem, ?_⟩
  rw [h]
  simp

-- A beacon at an agent (R72)

/-- The state after a valid beacon at an agent: its port's registers show the far end. -/
def beaconShown (s : State) (node port : Nat) (b : Beacon) : State :=
  let a := s.ag node
  let inter := b.boundNode != 0xFFFFFFFF && b.boundNode / 512 != s.spire
  let s1 := s.setAg { a with seen := a.seen.filter (fun e => e.1 != port) ++ [(port, b.epoch, b.boundNode)],
                             heard := setKey a.heard port s.round }
  let s2 := ((s1.pa F.AG_PORT_STATE node port (s.trainedState node port)).pa F.AG_PORT_LEVEL node port
    (min b.level (s.ga F.AG_IDENT_LEVEL node 0))).pa F.AG_PORT_FAR_PORT node port b.port
  let s3 := (s2.pa F.AG_PORT_FAR_KIND node port b.kind).pa F.AG_PORT_INTERSPIRE node port (if inter then 1 else 0)
  (s3.pa F.AG_PORT_FAR_ID node (2 * port) (b.elementId % 2 ^ 64)).pa F.AG_PORT_FAR_ID node (2 * port + 1) (b.elementId / 2 ^ 64)

/-- A valid beacon is shown; one that tells of a change also queues a notice. -/
theorem agentBeacon_valid (s : State) (node port : Nat) {b : Beacon} (hcrc : b.crcOk = true) (hres : b.reserved = 0) :
    s.agentBeacon node port b = (s.beaconShown node port b).notice node Cause.beaconChange port 0 0 ∨
      s.agentBeacon node port b = s.beaconShown node port b := by
  unfold agentBeacon
  rw [if_neg (by simp [hcrc, hres])]
  exact ite_cases _ _ _

/-- A beacon whose check fails is counted. -/
theorem agentBeacon_bad (s : State) (node port : Nat) {b : Beacon} (hcrc : b.crcOk = false) :
    s.agentBeacon node port b = s.pa F.AG_PORT_BEACON_ERR node port (sat 16 (s.ga F.AG_PORT_BEACON_ERR node port + 1)) :=
  if_pos (by simp [hcrc])

theorem beaconShown_ga (s : State) (node port : Nat) (b : Beacon) :
    (s.beaconShown node port b).ga F.AG_PORT_LEVEL node port = min b.level (s.ga F.AG_IDENT_LEVEL node 0) % 2 ^ 4 ∧
    (s.beaconShown node port b).ga F.AG_PORT_FAR_PORT node port = b.port % 2 ^ 8 ∧
    (s.beaconShown node port b).ga F.AG_PORT_FAR_KIND node port = b.kind % 2 ^ 4 := by
  unfold beaconShown
  refine ⟨?_, ?_, ?_⟩ <;> simp (disch := decide) only [ga_pa_apart, ga_pa_same]

theorem beaconShown_heard (s : State) (node port : Nat) (b : Beacon) :
    ((s.beaconShown node port b).ag node).heard = setKey (s.ag node).heard port s.round := by
  simp [beaconShown]

-- A beacon on one of Varlor's own ports: a change of the topology forgets no beacon (R87, R88)

theorem sendProbe_beacons (s : State) (route : List Nat) (tries id : Nat) :
    (s.sendProbe route tries id).disc.beacons = s.disc.beacons := by
  rw [sendProbe, send_disc]

theorem probeAround_beacons (s : State) (ids : List Nat) : (s.probeAround ids).disc.beacons = s.disc.beacons := by
  unfold probeAround
  dsimp only
  rw [foldl_keeps (fun t : State => t.disc.beacons)]
  · split <;> rfl
  · intro t id
    split
    · split
      · rfl
      · exact sendProbe_beacons _ _ _ _
    · rfl

theorem ownPortChange_beacons (s : State) (port id : Nat) : (s.ownPortChange port id).disc.beacons = s.disc.beacons := by
  unfold ownPortChange
  split
  · exact probeAround_beacons _ _
  · exact sendProbe_beacons _ _ _ _

theorem topologyChange_beacons (s : State) (node port : Nat) :
    (s.topologyChange node port).disc.beacons = s.disc.beacons := by
  unfold topologyChange
  dsimp only
  split
  · rfl
  split
  · rfl
  split
  · rfl
  split
  · split
    · exact probeAround_beacons _ _
    · split
      · split
        · rfl
        · exact ownPortChange_beacons _ _ _
      · rfl
  · rfl

/-- A valid beacon of an element on one of Varlor's own ports is kept. -/
theorem beaconReceive_own (s : State) {node : Nat} (port : Nat) {b : Beacon} (hnode : 510 ≤ node) (hcrc : b.crcOk = true)
    (hres : b.reserved = 0) (hkind : b.kind ≠ 3) : (port, b) ∈ (s.beaconReceive node port b).disc.beacons := by
  have hkept : ∀ (c : Bool) (u : State), (port, b) ∈ u.disc.beacons →
      (port, b) ∈ (if c then u.topologyChange node port else u).disc.beacons := by
    intro c u hu
    cases c with
    | false => exact hu
    | true => exact (u.topologyChange_beacons node port).symm ▸ hu
  unfold beaconReceive
  dsimp only
  rw [if_neg (Nat.not_lt.mpr hnode), if_neg (by simp [hcrc, hres])]
  refine hkept _ _ ?_
  rw [if_neg (by simp [hkind])]
  exact List.mem_append_right _ (List.mem_singleton_self _)

-- Reports and probes

theorem agentIdentityUnknown_due {s : State} {node port : Nat} (hup : s.portUp node port = true)
    (hlate : lookupD (s.ag node).heard port 0 + 4 ≤ s.round) :
    s.agentIdentityUnknown node port = s.pa F.AG_PORT_STATE node port 4 := if_pos (by simp [hup, hlate])

theorem neighbourSilent_due {s : State} {node port : Nat} (hup : s.portUp node port = true)
    (hsched : s.scheduled node port = true) (hlate : lookupD (s.ag node).heard port 0 + 2 ≤ s.round) :
    s.neighbourSilent node port = s.notice node Cause.neighbourSilent port 0 0 := if_pos (by simp [hup, hsched, hlate])

theorem queueFrame_ag (s : State) (node : Nat) (f : MgmtFrame) :
    (s.queueFrame node f).ag node = { s.ag node with mgmt := (s.ag node).mgmt ++ [f] } :=
  s.ag_updAg (s.ag_node node)

end State
end Sys2Proof.Machine
end

section
/-! Slots, beacons and probes (R70, R72, R73, R95, R128), clause by clause. -/
namespace Sys2Proof.Machine
open State

-- What the rows of slots, beacons and probes run

theorem exec_slotStart (node port slot : Nat) (s : State) :
    exec (.slotStart node port slot) s = .next (s.slotStart node port slot).settle := rfl
theorem exec_beaconReceive (node port : Nat) (b : Beacon) (s : State) :
    exec (.beaconReceive node port b) s = .next (s.beaconReceive node port b).settle := rfl
theorem exec_identityUnknown (node port : Nat) (s : State) :
    exec (.identityUnknown node port) s = .next (s.identityUnknown node port).settle := rfl
theorem exec_neighbourSilent (node port : Nat) (s : State) :
    exec (.neighbourSilent node port) s = .next (s.neighbourSilent node port).settle := rfl
theorem exec_probe (node ingress : Nat) (route : List Nat) (s : State) :
    exec (.probe node ingress route) s = .next (s.probe node ingress route).settle := rfl

/-- A beacon at an agent is the agent's. -/
theorem exec_beaconReceive_agent {node : Nat} (port : Nat) (b : Beacon) (s : State) (h : node < 510) :
    exec (.beaconReceive node port b) s = .next (s.agentBeacon node port b).settle := by
  rw [exec_beaconReceive, beaconReceive, if_pos h]

theorem slotStart_sendsIdle (node port slot : Nat) (s : State) (hup : s.portUp node port = true)
    (hslots : (s.ag node).active.port port ≠ []) (hlit : s.ga F.AG_PORT_CFG_DARK node port = 0)
    (hmgmt : isMgmt (((s.ag node).active.port port).getD slot 0) = false)
    (hflow : slotFlow (((s.ag node).active.port port).getD slot 0) = 0) :
    Yields (.slotStart node port slot) s (fun t => t.sent = s.sent ++ [⟨.idle, node, port, [], []⟩] ∧
      Frame [] [] [.sent] s t) := by
  refine ⟨_, exec_slotStart node port slot s, ?_⟩
  dsimp only
  rw [slotStart_idle hup hslots hlit hmgmt hflow]
  refine ⟨?_, Within.frame (Within.refl.send _ _ _ _ (by decide) (.inl rfl))⟩
  rw [settle_sent, send_plain_sent _ _ _ _ _ rfl]

theorem slotStart_sendsBeacon (node port slot : Nat) (s : State) (hup : s.portUp node port = true)
    (hslots : (s.ag node).active.port port = []) (hslot : slot % 64 = 0) :
    Yields (.slotStart node port slot) s (fun t =>
      t.sent = s.sent ++ [⟨.beacon, node, port, s.beaconFields node port, beaconFrame 1 (s.beaconFields node port)⟩] ∧
      Frame [] [] [.sent] s t) := by
  refine ⟨_, exec_slotStart node port slot s, ?_⟩
  dsimp only
  rw [slotStart_beacon hup hslots hslot]
  exact ⟨(settle_sent _).trans (s.sendBeacon_sent node port), (s.sendBeacon_within node port).frame⟩

/-- A notice of the change leaves the port's registers as the beacon set them. -/
theorem beaconReceive_sets (node port : Nat) (b : Beacon) (s : State) (hnode : node < 510) (hcrc : b.crcOk = true)
    (hres : b.reserved = 0) : Yields (.beaconReceive node port b) s (fun t =>
      t.ga F.AG_PORT_LEVEL node port = min b.level (s.ga F.AG_IDENT_LEVEL node 0) % 16 ∧
      t.ga F.AG_PORT_FAR_PORT node port = b.port % 2 ^ F.AG_PORT_FAR_PORT.len ∧
      t.ga F.AG_PORT_FAR_KIND node port = b.kind % 2 ^ F.AG_PORT_FAR_KIND.len ∧
      (t.ag node).heard = setKey (s.ag node).heard port s.round) := by
  obtain ⟨hlevel, hport, hkind⟩ := s.beaconShown_ga node port b
  have hheard := s.beaconShown_heard node port b
  refine ⟨_, exec_beaconReceive_agent port b s hnode, ?_⟩
  dsimp only
  rw [settle_ga _ _ _ _ (by decide), settle_ga _ _ _ _ (by decide), settle_ga _ _ _ _ (by decide), ag_settle]
  rcases s.agentBeacon_valid node port hcrc hres with h | h
  · have hrest := (s.beaconShown node port b).notice_within node Cause.beaconChange port 0 0
    obtain ⟨l, -, hag⟩ := (s.beaconShown node port b).notice_ag node Cause.beaconChange port 0 0
    rw [h, hrest.ga_eq (by decide), hrest.ga_eq (by decide), hrest.ga_eq (by decide), hag]
    exact ⟨hlevel, hport, hkind, hheard⟩
  · rw [h]
    exact ⟨hlevel, hport, hkind, hheard⟩

theorem beaconReceive_countsBad (node port : Nat) (b : Beacon) (s : State) (hnode : node < 510) (hcrc : b.crcOk = false) :
    Yields (.beaconReceive node port b) s (fun t =>
      t.ga F.AG_PORT_BEACON_ERR node port = sat 16 (s.ga F.AG_PORT_BEACON_ERR node port + 1) ∧
      Frame [] [(F.AG_PORT_BEACON_ERR, node, port)] [] s t) := by
  refine ⟨_, exec_beaconReceive_agent port b s hnode, ?_⟩
  dsimp only
  rw [agentBeacon_bad s node port hcrc]
  refine ⟨?_, Within.frame (Within.refl.paAt _ _ _ _ (List.mem_singleton_self _))⟩
  rw [settle_ga _ _ _ _ (by decide), ga_pa_same _ _ _ _ _ (by decide)]
  exact sat_mod_two_pow 16 _

theorem beaconReceive_kept (node port : Nat) (b : Beacon) (s : State) (hnode : 510 ≤ node) (hcrc : b.crcOk = true)
    (hres : b.reserved = 0) (hkind : b.kind ≠ 3) :
    Yields (.beaconReceive node port b) s (fun t => (port, b) ∈ t.disc.beacons) := by
  refine ⟨_, exec_beaconReceive node port b s, ?_⟩
  dsimp only
  rw [settle_disc]
  exact s.beaconReceive_own port hnode hcrc hres hkind

theorem identityUnknown_shown (node port : Nat) (s : State) (hnode : node < 510) (hup : s.portUp node port = true)
    (hlate : lookupD (s.ag node).heard port 0 + 4 ≤ s.round) :
    Yields (.identityUnknown node port) s (fun t => t.ga F.AG_PORT_STATE node port = 4 ∧
      Frame [] [(F.AG_PORT_STATE, node, port)] [] s t) := by
  refine ⟨_, exec_identityUnknown node port s, ?_⟩
  dsimp only
  rw [identityUnknown, if_pos hnode, agentIdentityUnknown_due hup hlate]
  refine ⟨?_, Within.frame (Within.refl.paAt _ _ _ _ (List.mem_singleton_self _))⟩
  rw [settle_ga _ _ _ _ (by decide), ga_pa_same _ _ _ _ _ (by decide)]
  rfl

theorem neighbourSilent_noticed (node port : Nat) (s : State) (hup : s.portUp node port = true)
    (hsched : s.scheduled node port = true) (hlate : lookupD (s.ag node).heard port 0 + 2 ≤ s.round) :
    Yields (.neighbourSilent node port) s (fun t => t.ga F.AG_FAULT_CAUSE node 0 = Cause.neighbourSilent ∧
      ∃ e ∈ (t.ag node).notices, e.1 = Cause.neighbourSilent ∧ e.2.1 = port) := by
  obtain ⟨l, hmem, hag⟩ := s.notice_ag node Cause.neighbourSilent port 0 0
  refine ⟨_, exec_neighbourSilent node port s, ?_⟩
  dsimp only
  rw [neighbourSilent_due hup hsched hlate, settle_ga _ _ _ _ (by decide), notice_cause, ag_settle, hag]
  exact ⟨rfl, hmem⟩

/-- A probe with a route goes on through its next port. -/
theorem probe_forwarded (node ingress p : Nat) (rest : List Nat) (s : State) (hup : s.portUp node p = true) :
    Yields (.probe node ingress (p :: rest)) s (fun t =>
      (t.ag node).mgmt = (s.ag node).mgmt ++ [⟨p, 4, 64, some ingress, ⟨.probe, node, p, rest, []⟩⟩] ∧
      Frame [] [] [.agents] s t) := by
  have hrun : s.probe node ingress (p :: rest) = s.queueFrame node ⟨p, 4, 64, some ingress, ⟨.probe, node, p, rest, []⟩⟩ :=
    if_pos hup
  refine ⟨_, exec_probe node ingress (p :: rest) s, ?_⟩
  dsimp only
  rw [hrun, ag_settle, queueFrame_ag]
  exact ⟨rfl, Within.frame (Within.refl.updAg _ _ (by decide))⟩

/-- A probe at the end of its route is answered on the port that it came by. -/
theorem probe_answered (node ingress : Nat) (s : State) : Yields (.probe node ingress []) s (fun t =>
      ∃ f ∈ (t.ag node).mgmt, f.port = ingress ∧ f.order = 4 ∧ f.out.kind = .probeReply ∧
        f.out.data = s.beaconFields node ingress ++
          ((List.range (s.ga F.AG_IDENT_PORTS node 0)).map (s.portRecord node)).flatten) := by
  refine ⟨_, exec_probe node ingress [] s, ?_⟩
  dsimp only
  rw [ag_settle, probe, ag_updAg _ (ag_node _ node), queueFrame_ag]
  exact ⟨_, List.mem_append_right _ (List.mem_singleton_self _), rfl, rfl, rfl, rfl⟩

/-- Settles O15: each row runs its operation, and what a slot, a beacon, a notice and a probe do is said once above. -/
theorem beaconCommandsComplete : Obligations.BeaconCommandsComplete :=
  ⟨slotStart_sendsIdle, slotStart_sendsBeacon, beaconReceive_sets, beaconReceive_countsBad, beaconReceive_kept,
    identityUnknown_shown, neighbourSilent_noticed, probe_forwarded, probe_answered,
    fun node port slot s => ⟨_, exec_slotStart node port slot s, rfl⟩,
    fun node port b s => ⟨_, exec_beaconReceive node port b s, rfl⟩⟩

end Sys2Proof.Machine
end

section
/-! The agent registers that Varlor writes (R79, R113, R396, R400, R407, R408), clause by clause. -/
namespace Sys2Proof.Machine
open State

-- What the rows of the agent registers run

theorem exec_agFilterWrite (node i : Nat) (v : Word) (s : State) :
    exec (.agFilterWrite node i v) s = .next (s.agFilterWrite node i v).settle := rfl
theorem exec_filterActivation (node : Nat) (s : State) :
    exec (.filterActivation node) s = .next (s.filterActivation node).settle := rfl
theorem exec_agTreeWrite (node : Nat) (v : Word) (s : State) :
    exec (.agTreeWrite node v) s = .next (s.agTreeWrite node v).settle := rfl
theorem exec_agAllowWrite (node : Nat) (v : Word) (s : State) :
    exec (.agAllowWrite node v) s = .next (s.agAllowWrite node v).settle := rfl
theorem exec_agCfgCoarse (node : Nat) (v : Word) (s : State) :
    exec (.agCfgCoarse node v) s = .next (s.agCfgCoarse node v).settle := rfl
theorem exec_agTblWordAdvance (node : Nat) (s : State) :
    exec (.agTblWordAdvance node) s = .next (s.agTblWordAdvance node).settle := rfl
theorem exec_agPortDarkWrite (node port : Nat) (dark : Bool) (s : State) :
    exec (.agPortDarkWrite node port dark) s = .next (s.agPortDark node port dark).settle := rfl

namespace State

/-- A filter word whose cupola no other entry will hold waits for the round boundary (R400). -/
theorem agFilterWrite_free {s : State} {node i : Nat} {v : Word} (hi : i < 64)
    (hfree : getBits v 48 16 = 0 ∨ ∀ j < 64, j ≠ i → getBits (s.filterWord node j) 48 16 ≠ getBits v 48 16) :
    s.agFilterWrite node i v =
      (s.updAg node (fun a => { a with filterNext := a.filterNext ++ [(i, v, s.round)] })).err Status.ok 0 := by
  have hnone : ¬(decide (getBits v 48 16 ≠ 0) && (List.range 64).any (fun j =>
      j != i && getBits (s.filterWord node j) 48 16 == getBits v 48 16)) = true := by
    rw [Bool.and_eq_true, decide_eq_true_eq, List.any_eq_true]
    rintro ⟨hne, j, hj, hheld⟩
    simp only [Bool.and_eq_true, bne_iff_ne, ne_eq, beq_iff_eq] at hheld
    exact hfree.elim hne (fun h => h j (List.mem_range.mp hj) hheld.1 hheld.2)
  unfold agFilterWrite
  dsimp only
  rw [if_neg (Nat.not_le.mpr hi), if_neg hnone, ok_eq]

/-- The only filter write that waits, of an earlier round, takes effect (R400). -/
theorem filterActivation_one {s : State} {node i r : Nat} {v : Word} (hnext : (s.ag node).filterNext = [(i, v, r)])
    (hr : r < s.round) (hv : getBits v 48 16 ≠ 0) :
    s.filterActivation node = (s.updAg node (fun a => { a with filterNext := [] })).wr .AG_FILTER node i v := by
  simp only [filterActivation, updAg, hnext, List.filter_cons, List.filter_nil, decide_eq_true hr, Bool.not_true, if_true,
    Bool.false_eq_true, if_false, List.foldl_cons, List.foldl_nil, if_neg hv]

/-- A trained port also shows that it is dark, or no longer, in its state and in a beacon (R70). -/
theorem agPortDark_cases (s : State) (node port : Nat) (dark : Bool) :
    (∃ v, s.agPortDark node port dark = ((s.pa F.AG_PORT_CFG_DARK node port (if dark then 1 else 0)).pa F.AG_PORT_STATE node
      port v).sendBeacon node port) ∨
    s.agPortDark node port dark = s.pa F.AG_PORT_CFG_DARK node port (if dark then 1 else 0) :=
  (ite_cases _ _ _).imp_left (fun h => ⟨_, h⟩)

end State

theorem agFilterWrite_waits (node i : Nat) (v : Word) (s : State) (hi : i < 64)
    (hfree : getBits v 48 16 = 0 ∨ ∀ j < 64, j ≠ i → getBits (s.filterWord node j) 48 16 ≠ getBits v 48 16) :
    Yields (.agFilterWrite node i v) s (fun t => (t.ag node).filterNext = (s.ag node).filterNext ++ [(i, v, s.round)] ∧
      t.answer.status = Status.ok ∧ Frame [] [] [.agents, .answer] s t) := by
  refine ⟨_, exec_agFilterWrite node i v s, ?_⟩
  dsimp only
  rw [agFilterWrite_free hi hfree, ag_settle, ag_err, ag_updAg _ (ag_node s node), settle_answer, err_status]
  exact ⟨rfl, rfl, Within.frame ((Within.refl.updAg _ _ (by decide)).err _ _ (by decide))⟩

theorem filterActivation_takesEffect (node i : Nat) (v : Word) (r : Nat) (s : State)
    (hnext : (s.ag node).filterNext = [(i, v, r)]) (hr : r < s.round) (hv : getBits v 48 16 ≠ 0) :
    Yields (.filterActivation node) s (fun t => t.rd .AG_FILTER node i = v ∧ (t.ag node).filterNext = [] ∧
      Frame [] [(whole .AG_FILTER, node, i)] [.agents] s t) := by
  refine ⟨_, exec_filterActivation node s, ?_⟩
  dsimp only
  rw [filterActivation_one hnext hr hv, settle_rd _ _ _ _ (by decide), rd_wr_same, ag_settle, ag_wr,
    ag_updAg _ (ag_node s node)]
  exact ⟨rfl, rfl, Within.frame ((Within.refl.updAg _ _ (by decide)).wrAt _ _ _ _ (List.mem_singleton_self _))⟩

/-- The tree mask waits for the round boundary (R408). -/
theorem agTreeWrite_waits (node : Nat) (v : Word) (s : State) : Yields (.agTreeWrite node v) s
    (fun t => (t.ag node).treeNext = some v ∧ Frame [] [] [.agents] s t) := by
  refine ⟨_, exec_agTreeWrite node v s, ?_⟩
  dsimp only
  rw [agTreeWrite, ag_settle, ag_updAg _ (ag_node s node)]
  exact ⟨rfl, Within.frame (Within.refl.updAg _ _ (by decide))⟩

/-- The allowances wait for the round boundary (R408). -/
theorem agAllowWrite_waits (node : Nat) (v : Word) (s : State) : Yields (.agAllowWrite node v) s
    (fun t => (t.ag node).allowNext = some v ∧ Frame [] [] [.agents] s t) := by
  refine ⟨_, exec_agAllowWrite node v s, ?_⟩
  dsimp only
  rw [agAllowWrite, ag_settle, ag_updAg _ (ag_node s node)]
  exact ⟨rfl, Within.frame (Within.refl.updAg _ _ (by decide))⟩

/-- Coarse mode is set at once (R407). -/
theorem agCfgCoarse_sets (node : Nat) (v : Word) (s : State) (hv : getBits v 0 1 = 1) :
    Yields (.agCfgCoarse node v) s (fun t => t.ga F.AG_CFG_COARSE node 0 = 1 ∧ t.ga F.AG_STATUS_COARSE node 0 = 1 ∧
      Frame [] [(F.AG_CFG_COARSE, node, 0), (F.AG_STATUS_COARSE, node, 0)] [] s t) := by
  refine ⟨_, exec_agCfgCoarse node v s, ?_⟩
  dsimp only
  rw [agCfgCoarse, if_pos hv, pn_eq, pn_eq, settle_ga _ _ _ _ (by decide), settle_ga _ _ _ _ (by decide),
    ga_pa_apart _ _ _ _ _ _ _ _ (by decide), ga_pa_same _ _ _ _ _ (by decide), ga_pa_same _ _ _ _ _ (by decide)]
  exact ⟨rfl, rfl, Within.frame ((Within.refl.paAt _ _ _ _ (by simp)).paAt _ _ _ _ (by simp))⟩

/-- Coarse mode cannot be cleared by a write (R407). -/
theorem agCfgCoarse_ignores (node : Nat) (v : Word) (s : State) (hv : getBits v 0 1 = 0) :
    Yields (.agCfgCoarse node v) s (fun t => Frame [] [] [] s t) := by
  refine ⟨_, exec_agCfgCoarse node v s, ?_⟩
  dsimp only
  rw [agCfgCoarse, if_neg (by omega)]
  exact Within.refl.frame

theorem agTblWordAdvance_next (node : Nat) (s : State) : Yields (.agTblWordAdvance node) s (fun t =>
      t.ga F.AG_TBL_SEL_PAGE node 0 = (s.ga F.AG_TBL_SEL_PAGE node 0 + 1) % 65536 ∧
      Frame [] [(F.AG_TBL_SEL_PAGE, node, 0)] [] s t) := by
  refine ⟨_, exec_agTblWordAdvance node s, ?_⟩
  dsimp only
  rw [agTblWordAdvance, pn_eq]
  refine ⟨?_, Within.frame (Within.refl.paAt _ _ _ _ (List.mem_singleton_self _))⟩
  rw [settle_ga _ _ _ _ (by decide), ga_pa_same _ _ _ _ _ (by decide)]
  exact Nat.mod_mod _ _

/-- DARK is set at once (R79, R113). -/
theorem agPortDarkWrite_sets (node port : Nat) (dark : Bool) (s : State) : Yields (.agPortDarkWrite node port dark) s (fun t =>
      t.ga F.AG_PORT_CFG_DARK node port = (if dark then 1 else 0) ∧
      Frame [] [(F.AG_PORT_CFG_DARK, node, port), (F.AG_PORT_STATE, node, port)] [.sent] s t) := by
  have hdark : (s.pa F.AG_PORT_CFG_DARK node port (if dark then 1 else 0)).ga F.AG_PORT_CFG_DARK node port =
      if dark then 1 else 0 := by
    rw [ga_pa_same _ _ _ _ _ (by decide)]
    cases dark <;> rfl
  have hwritten : Within [] [(F.AG_PORT_CFG_DARK, node, port), (F.AG_PORT_STATE, node, port)] [.sent] s
      (s.pa F.AG_PORT_CFG_DARK node port (if dark then 1 else 0)) := Within.refl.paAt _ _ _ _ (by simp)
  refine ⟨_, exec_agPortDarkWrite node port dark s, ?_⟩
  dsimp only
  rw [settle_ga _ _ _ _ (by decide)]
  rcases s.agPortDark_cases node port dark with ⟨v, h⟩ | h
  · rw [h]
    refine ⟨?_, Within.frame ((hwritten.paAt _ _ _ _ (by simp)).emit _ _ _ _ _ (by decide) (.inl rfl))⟩
    rw [sendBeacon, emit_ga, ga_pa_apart _ _ _ _ _ _ _ _ (by decide), hdark]
  · rw [h]
    exact ⟨hdark, hwritten.frame⟩

/-- Settles O23: what waits for a round boundary is kept at the agent, and what acts at once is a write of its own fields. -/
theorem agentRegistersComplete : Obligations.AgentRegistersComplete :=
  ⟨agFilterWrite_waits, filterActivation_takesEffect, agTreeWrite_waits, agAllowWrite_waits, agCfgCoarse_sets,
    agCfgCoarse_ignores, agTblWordAdvance_next, agPortDarkWrite_sets,
    fun node s => ⟨_, exec_filterActivation node s, rfl⟩⟩

end Sys2Proof.Machine
end

section
/-! The re-solve at binding (R84, R85): its end is BOUND wherever a binding stands, which an install in progress is as well as
tables in force. The statement asks for NOT_VIABLE unless tables are in force, and so fails in a first install. -/
namespace Sys2Proof.Machine
open State

/-- What a command yields holds of the state that it answers. -/
theorem Yields.of_exec {c : Instr} {s u : State} {q : State → Prop} (h : Yields c s q) (hu : exec c s = .next u) : q u := by
  obtain ⟨t, ht, hq⟩ := h
  cases hu.symm.trans ht
  exact hq

/-- Tables that hold nothing. -/
def emptyTables : Tables := ⟨10, 1, [], [], []⟩

/-- A plan of two accelerators of which one must be active: with both absent it is not viable (R85). -/
def twoAcceleratorPlan : Plan :=
  { planId := 1, flags := 0, digest := [], ports := [], fold := 0, graph := 0, sentinel := 0, stage := 0, tasks := 0,
    journal := 0, exportStage := 0, recon := 0, margin := 0, ceiling := 0, rates := [],
    elements := [⟨0, 1, 0, 0, 0, 0, 8, 0⟩, ⟨1, 1, 0, 0, 1, 0, 8, 0⟩], links := [], tables := emptyTables, templates := [],
    guard := [], policy := 0, rowCut := 0, minActive := 1, minRows := 0, minCols := 0, wraps := 0, minEdges := 0,
    twinRequired := 0, variants := [], spires := 1, coordinator := 0, peers := [], lends := [], tensors := [], rules := [] }

/-- The first install of the plan, without targets. -/
def firstInstall : Install :=
  { id := 1, kind := 0, first := 0, phaseEnd := 0, h := 0, s := 0, e := 0, targets := [], lacks := [], tables := emptyTables,
    cupolas := [], planned := false, fenced := [], held := [], discarded := false, action := 0 }

/-- Both positions are absent, and MATCHING waits for their re-solve while the first tables are being installed: a binding
stands, and no tables are in force. -/
def resolvingInFirstInstall : State :=
  ({ State.reset with plan := { State.reset.plan with cur := some twoAcceleratorPlan }
                      disc := { State.reset.disc with unserved := [0, 1] }
                      bell := { State.reset.bell with install := some firstInstall } }).p F.DISC_STATUS_STATE DState.matching

/-- The matching array's result that changes nothing. -/
def noChange : Assignment := ⟨[], [], [], [], none⟩

theorem resolvingInFirstInstall_waits : resolvingInFirstInstall.plan.cur = some twoAcceleratorPlan ∧
    resolvingInFirstInstall.discState = DState.matching ∧ resolvingInFirstInstall.disc.unserved ≠ [] ∧
    resolvingInFirstInstall.disc.changes = [] ∧ resolvingInFirstInstall.tablesRun = false := by
  decide +kernel

/-- The re-solve ends BOUND though the criterion has failed. -/
theorem resolvingInFirstInstall_bound :
    (resolvingInFirstInstall.bindingResolve noChange).settle.discState = DState.bound ∧
    (resolvingInFirstInstall.bindingResolve noChange).settle.g F.DISC_VIABLE_FAILED ≠ 0 := by
  decide +kernel

theorem exec_bindingResolveComplete (a : Assignment) (s : State) :
    exec (.bindingResolveComplete a) s = .next (s.bindingResolve a).settle := rfl

/-- Refutes O16: in MATCHING with the first tables still being installed, a re-solve of a plan that is not viable ends BOUND,
where the clause on BINDING_RESOLVE_COMPLETE, which looks for tables in force, asks for NOT_VIABLE. -/
theorem not_discoveryCommandsComplete : ¬ Obligations.DiscoveryCommandsComplete := by
  unfold Obligations.DiscoveryCommandsComplete
  rintro ⟨-, -, -, -, -, hresolve, -⟩
  obtain ⟨hplan, hstate, hwaits, hchanges, htables⟩ := resolvingInFirstInstall_waits
  obtain ⟨hbound, hfailed⟩ := resolvingInFirstInstall_bound
  obtain ⟨-, hends⟩ := (hresolve noChange twoAcceleratorPlan resolvingInFirstInstall hplan hstate hwaits hchanges).of_exec
    (exec_bindingResolveComplete noChange resolvingInFirstInstall)
  rw [hbound, if_neg (not_or.mpr ⟨hfailed, Bool.eq_false_iff.mp htables⟩)] at hends
  exact absurd hends (by decide)

end Sys2Proof.Machine
end

section
/-! The drain bound (R100) runs from the round in which the flow's source last started an item, and the statement counts it from a
frame's arrival: it fails where the source still starts items. -/
namespace Sys2Proof.Machine
open State

/-- A frame of flow 0x100. -/
def flowFrame : DataFrame := ⟨0x100, 0, false, true, true, false, 0, 0, 0, [1], false, 0, 0, none⟩

/-- Agent 0 has held a frame of flow 0x100 since round 0, and agent 1, the flow's source, starts an item in round 9, the present
one: the bound of 8 rounds has not begun. -/
def heldWhileSourceStarts : State :=
  ((State.reset.p F.BELL_ROUND_ROUND 9).updAg 0 (fun a => { a with queue := [⟨3, 0x100, 0, flowFrame, 0, true, 0⟩] })).updAg 1
    (fun a => { a with started := [(0x100, 9)] })

theorem heldWhileSourceStarts_waits : (heldWhileSourceStarts.ag 0).queue.any (fun q => q.flow == 0x100 &&
    decide (q.since + drainBound (heldWhileSourceStarts.tables.classOfFlow 0x100) < heldWhileSourceStarts.round)) = true := by
  decide +kernel

/-- The frame is kept, and no excess is reported. -/
theorem heldWhileSourceStarts_kept :
    (heldWhileSourceStarts.drainBoundExpiry 0 0x100).settle.ga F.AG_EVENT_DRAIN_EXCEEDED 0 0 = 0 := by
  decide +kernel

theorem exec_drainBoundExpiry (node flow : Nat) (s : State) :
    exec (.drainBoundExpiry node flow) s = .next (s.drainBoundExpiry node flow).settle := rfl

/-- Refutes O18: a frame that has waited longer than its flow's drain bound is kept while the source of the flow still starts
items, since the bound runs from the last start (R100); the clause on DRAIN_BOUND_EXPIRY counts from the frame's arrival. -/
theorem not_frameCommandsComplete : ¬ Obligations.FrameCommandsComplete := by
  unfold Obligations.FrameCommandsComplete
  rintro ⟨-, -, -, -, -, -, hexpiry, -⟩
  obtain ⟨hevent, -⟩ := (hexpiry 0 0x100 heldWhileSourceStarts heldWhileSourceStarts_waits).of_exec
    (exec_drainBoundExpiry 0 0x100 heldWhileSourceStarts)
  exact absurd (heldWhileSourceStarts_kept.symm.trans hevent) (by decide)

end Sys2Proof.Machine
end

section
/-! FENCE_NODE marks the element that plays the named node (R99, R114), and the statement asks for the node's own position: it fails
where another element stands in. -/
namespace Sys2Proof.Machine
open State

/-- The L2P entry of node 1 holds row 3 and column 0. -/
def substitutedTables : Tables := ⟨10, 1, [], [], [0, 0x2000300000001]⟩

/-- The accelerator in row 3 and column 0 stands at position 5. -/
def substitutePlan : Plan := { twoAcceleratorPlan with elements := [⟨5, 1, 0, 3, 0, 0, 8, 0⟩] }

/-- FENCE_NODE names node 1, whose role the element at position 5 plays; an element is placed at either position. -/
def fencingSubstituted : State :=
  ({ State.reset with plan := { State.reset.plan with cur := some substitutePlan }
                      disc := { State.reset.disc with placed := [(1, 1), (5, 5)] }
                      bell := { State.reset.bell with tables := some substitutedTables } }).p F.BELL_ARG_ARG 1

theorem fencingSubstituted_named : fencingSubstituted.g F.BELL_ARG_ARG / 512 = fencingSubstituted.spire ∧
    fencingSubstituted.placedAt (localOf (fencingSubstituted.g F.BELL_ARG_ARG)) = true := by
  decide +kernel

/-- The element at position 5 is marked, and the one at position 1 is not. -/
theorem fencingSubstituted_marks : fencingSubstituted.fenceNode.settle.bell.fenceMarks = [5] ∧
    localOf (fencingSubstituted.g F.BELL_ARG_ARG) = 1 := by
  decide +kernel

theorem exec_fenceNode (s : State) : exec .fenceNode s = .next s.fenceNode.settle := rfl

/-- Refutes O19: FENCE_NODE marks the element that plays the named node under the tables in force (R99, R114); where another
element stands in for it, the position that the clause on FENCE_NODE names stays unmarked. -/
theorem not_flowCommandsComplete : ¬ Obligations.FlowCommandsComplete := by
  unfold Obligations.FlowCommandsComplete
  rintro ⟨-, -, -, hfence, -⟩
  obtain ⟨hspire, hplaced⟩ := fencingSubstituted_named
  obtain ⟨hmarks, hnode⟩ := fencingSubstituted_marks
  obtain ⟨hmarked, -⟩ := (hfence fencingSubstituted hspire hplaced).of_exec (exec_fenceNode fencingSubstituted)
  rw [hmarks, hnode] at hmarked
  exact absurd hmarked (by decide)

end Sys2Proof.Machine
end

section
/-! SUPPORT. The agent's side of an install: what its checks, a receipt, the frames that it passes on and a bank switch leave
alone (R103 to R109, R398). -/
namespace Sys2Proof.Machine

section
variable {fs : List Fld} {ps : List (Fld × Nat × Nat)} {parts : List Part} {s y : State}

/-- An event of an agent. -/
theorem Within.raiseAgent (f : Fld) (node : Nat) (hc : fs.any (fun e => e.covers f) = true) (ha : Part.agents ∈ parts)
    (hs : Part.sent ∈ parts) (h : Within fs ps parts s y) : Within fs ps parts s (y.raiseAgent f node) :=
  ((h.updAg node _ ha).pa f node 0 1 hc).send _ _ _ _ hs (.inl rfl)

theorem Within.queueFrame (node : Nat) (f : MgmtFrame) (ha : Part.agents ∈ parts) (h : Within fs ps parts s y) :
    Within fs ps parts s (y.queueFrame node f) := h.updAg node _ ha

/-- Beacons leave. -/
theorem Within.sendBeacons (node : Nat) (hs : Part.sent ∈ parts) (h : Within fs ps parts s y) :
    Within fs ps parts s (y.sendBeacons node) := Within.foldl _ _ (fun _ _ h => h.emit _ _ _ _ _ hs (.inl rfl)) h

/-- What lies within parts without the agents leaves every agent as it was. -/
theorem Within.ag_eq (h : Within fs ps parts s y) (ha : Part.agents ∉ parts) (n : Nat) : y.ag n = s.ag n :=
  State.ag_of_agents (h.2 .agents ha) n

end

namespace State

theorem raiseAgent_ag (s : State) (f : Fld) (node : Nat) : (s.raiseAgent f node).ag node =
    { s.ag node with telemetry := (s.ag node).telemetry ++ [(0, s.round)] } := by
  rw [raiseAgent, ag_send, pn_eq, ag_pa, ag_updAg _ (s.ag_node node)]

-- The checks of R108

/-- The checks of R108 end PREPARED, with new shadow tables, or REFUSED, and a receipt goes up the tree. -/
theorem prepare_cases (s : State) (node : Nat) (m : ManifestP) :
    (∃ bank flows, s.prepare node m =
      ((s.setAg { s.ag node with shadow := bank, flows := flows }).pn F.AG_INSTALL_STATE node 2).sendReceipt node) ∨
    (∃ code table, s.prepare node m = ((((s.pn F.AG_INSTALL_STATE node 3).pn F.AG_INSTALL_REFUSAL node code).pn
      F.AG_INSTALL_TABLE node table).raiseAgent F.AG_EVENT_REFUSED node).sendReceipt node) := by
  unfold prepare
  dsimp only
  split
  · exact .inl ⟨_, _, rfl⟩
  · exact .inr ⟨_, _, rfl⟩

/-- The fields that the checks of R108 write. -/
def checkFields : List Fld := [F.AG_INSTALL_STATE, F.AG_INSTALL_REFUSAL, F.AG_INSTALL_TABLE, F.AG_EVENT_REFUSED]

theorem prepare_within (s : State) (node : Nat) (m : ManifestP) :
    Within checkFields [] [.agents, .sent] s (s.prepare node m) := by
  rcases s.prepare_cases node m with ⟨bank, flows, h⟩ | ⟨code, table, h⟩
  · rw [h]
    exact ((Within.refl.setAg _ (by decide)).pa _ node 0 _ (by decide)).queueFrame node _ (by decide)
  · rw [h]
    exact ((((Within.refl.pa _ node 0 _ (by decide)).pa _ node 0 _ (by decide)).pa _ node 0 _ (by decide)).raiseAgent _ node
      (by decide) (by decide) (by decide)).queueFrame node _ (by decide)

theorem prepare_manifest (s : State) (node : Nat) (m : ManifestP) :
    ((s.prepare node m).ag node).manifest = (s.ag node).manifest := by
  rcases s.prepare_cases node m with ⟨bank, flows, h⟩ | ⟨code, table, h⟩
  · rw [h, sendReceipt, queueFrame_ag, pn_eq, ag_pa, ag_setAg]
    exact s.ag_node node
  · rw [h, sendReceipt, queueFrame_ag, raiseAgent_ag, pn_eq, pn_eq, pn_eq, ag_pa, ag_pa, ag_pa]

/-- A manifest at an agent without an install opens one; where it lists nothing more than itself the checks follow (R105). -/
theorem manifest_opens {s : State} {node : Nat} (m : ManifestP) (hst : s.ga F.AG_INSTALL_STATE node 0 = 0) :
    ∃ u, ((u.ag node).manifest = some m ∧ u.ga F.AG_INSTALL_INSTALL_ID node 0 = m.installId % 2 ^ 16 ∧
        u.ga F.AG_INSTALL_KIND node 0 = m.kind % 2 ^ 2 ∧ u.ga F.AG_INSTALL_SEGMENTS node 0 = m.segments % 2 ^ 8 ∧
        u.ga F.AG_ACT_ROUND_ROUND node 0 = m.actRound % 2 ^ 48) ∧
      (s.manifest node m = u.prepare node m ∨ s.manifest node m = u) := by
  rw [manifest, if_neg (by simp [hst])]
  extract_lets a copy listed shadow flows s1 s2 s3 s4
  have hag : s4.ag node = s1.ag node := by simp only [s4, s3, s2, markSegment, pn_eq, ag_pa]
  refine ⟨s4, ⟨?_, ?_⟩, ite_cases _ _ _⟩
  · rw [hag, ag_setAg]
    exact s.ag_node node
  · simp (disch := decide) only [s4, s3, s2, markSegment, pn_eq, ga_pa_apart, ga_pa_same, and_self]

/-- A segment of the install that is being received is held; after the last one the checks follow (R103, R106). -/
theorem keepSegment_holds {s : State} {node : Nat} {seg : Segment} (hst : s.ga F.AG_INSTALL_STATE node 0 = 1)
    (hid : seg.installId = s.ga F.AG_INSTALL_INSTALL_ID node 0) :
    ∃ u, u.ga F.AG_INSTALL_MAP_MAP node (seg.index / 64) =
        setBit (s.ga F.AG_INSTALL_MAP_MAP node (seg.index / 64)) (seg.index % 64) true % 2 ^ 64 ∧
      ((∃ m, s.keepSegment node seg = u.prepare node m) ∨ s.keepSegment node seg = u) := by
  rw [keepSegment, if_neg (by simp [hst, hid])]
  extract_lets s1
  refine ⟨s1, ?_, ?_⟩
  · exact ga_pa_same _ _ _ _ _ (by decide)
  · split
    · exact (ite_cases _ _ _).imp_left (fun h => ⟨_, h⟩)
    · exact .inr rfl

/-- A DISCARD of the agent's own install leaves the active bank and its flow entries (R115, Table 4.9). -/
theorem activateDiscard_own {s : State} {node : Nat} {f : ActivateP} (hdiscard : f.discard = true)
    (h1 : 1 ≤ s.ga F.AG_INSTALL_STATE node 0) (h3 : s.ga F.AG_INSTALL_STATE node 0 ≤ 3)
    (hid : f.installId = s.ga F.AG_INSTALL_INSTALL_ID node 0) :
    (s.activateDiscard node f).ga F.AG_INSTALL_STATE node 0 = 0 ∧ ((s.activateDiscard node f).ag node).manifest = none ∧
      ((s.activateDiscard node f).ag node).active = (s.ag node).active ∧
      ∀ e ∈ ((s.activateDiscard node f).ag node).flows, e.active = true ∧ e.shadow = false := by
  rw [activateDiscard, if_pos (by simp [hdiscard, h1, h3, hid])]
  dsimp only
  rw [pn_eq, ga_pa_same _ _ _ _ _ (by decide), ag_pa, ag_updAg _ (s.ag_node node)]
  refine ⟨rfl, rfl, rfl, fun e he => ?_⟩
  obtain ⟨e', he', rfl⟩ := List.mem_map.mp he
  exact ⟨(List.mem_filter.mp he').2, rfl⟩

-- Frames that go on down the install tree (R104, R109)

/-- A frame that goes on waits at the agent, and nothing else changes. -/
theorem relayActivate_within (s : State) (node : Nat) (f : ActivateP) :
    Within [] [] [.agents] s (s.relayActivate node f) :=
  Within.foldl _ _ (fun _ _ h => h.queueFrame node _ (by decide)) Within.refl

/-- Of what an agent keeps, a frame that it passes on changes the waiting frames alone. -/
theorem relayActivate_ag (s : State) (node : Nat) (f : ActivateP) :
    { (s.relayActivate node f).ag node with mgmt := [] } = { s.ag node with mgmt := [] } :=
  foldl_keeps (fun t : State => { t.ag node with mgmt := [] }) _ (fun t _ => by rw [queueFrame_ag]) _ s

-- The bank switch (R398)

theorem holdMerge_node (a : Agent) (cup : Nat → Nat) : (holdMerge a cup).node = a.node := by
  unfold holdMerge
  split <;> rfl

/-- Frames whose entry retired are counted and reported; the agent's own part of it is a frame of telemetry. -/
theorem entryRetired_ag (s : State) (node n : Nat) : ∃ l,
    (if n = 0 then s else (s.bump .AG_COUNT node 15 n).raiseAgent F.AG_EVENT_ENTRY_RETIRED node).ag node =
      { s.ag node with telemetry := l } := by
  split
  · exact ⟨_, rfl⟩
  · exact ⟨_, by rw [raiseAgent_ag, ag_bump]⟩

theorem agPortDark_ag (s : State) (node port : Nat) (dark : Bool) (n : Nat) :
    (s.agPortDark node port dark).ag n = s.ag n := by
  rcases s.agPortDark_cases node port dark with ⟨v, h⟩ | h
  · rw [h, sendBeacon, ag_emit, ag_pa, ag_pa]
  · rw [h, ag_pa]

/-- The ports to fenced neighbours go dark (R113), and the agent keeps what it has. -/
theorem neighboursDark_ag (s : State) (node : Nat) (l : List (Nat × Nat × Nat)) :
    (l.foldl (fun (t : State) e => t.agPortDark node e.1 true) s).ag node = s.ag node := by
  rw [foldl_keeps (fun t : State => t.ag node)]
  intro t e
  exact t.agPortDark_ag node e.1 true node

/-- At its round an ARMED agent runs the shadow bank, merged with what is held, and its flow entries are those of that bank;
then it is in no install, its ports show their states, and beacons leave. -/
theorem bankSwitch_armed {s : State} {node : Nat} (hst : s.ga F.AG_INSTALL_STATE node 0 = 4)
    (hdue : s.ga F.AG_ACT_ROUND_ROUND node 0 ≤ s.round) :
    ∃ u : State, ((u.ag node).active = (holdMerge (s.ag node) s.flowCupola).shadow ∧ (u.ag node).hold = [] ∧
        ∀ e ∈ (u.ag node).flows, e.active = true ∧ e.shadow = false) ∧
      Within [F.AG_PORT_STATE] [] [.sent] (u.pn F.AG_INSTALL_STATE node 0) (s.bankSwitch node) := by
  rw [bankSwitch, if_pos (by simp [hst, hdue])]
  extract_lets a flows freed stale n s1 s2 s3 s4 s5
  have hnode : a.node = node := (holdMerge_node _ _).trans (s.ag_node node)
  have hswitched : s1.ag node = _ := ag_setAg s _ hnode
  obtain ⟨l, hretired⟩ := entryRetired_ag s1 node n
  have hdark : s3.ag node = s2.ag node := s2.neighboursDark_ag node _
  have hbound : s4.ag node = s3.ag node := by
    simp only [s4]
    split
    · split
      · rw [pn_eq, pn_eq, pn_eq, ag_pa, ag_pa, ag_pa]
      · rw [pn_eq, pn_eq, ag_pa, ag_pa]
    · rfl
  refine ⟨s4, ?_, ?_⟩
  · rw [hbound, hdark, hretired, hswitched]
    refine ⟨rfl, rfl, fun e he => ?_⟩
    obtain ⟨e', -, rfl⟩ := List.mem_map.mp he
    exact ⟨rfl, rfl⟩
  · exact Within.sendBeacons node (by decide) (Within.foldl _ _
      (fun t p h => Within.ite (fun _ => h.pa _ _ _ _ (by decide)) (fun _ => h)) Within.refl)

end State
end Sys2Proof.Machine
end

section
/-! An install at an agent (R103 to R105, R109, R112, R115, R398), clause by clause. -/
namespace Sys2Proof.Machine
open State

-- What the rows of an install at an agent run

theorem exec_manifest (node : Nat) (m : ManifestP) (s : State) :
    exec (.manifest node m) s = .next (s.manifest node m).settle := rfl
theorem exec_tableSegment (node : Nat) (seg : Segment) (s : State) :
    exec (.tableSegment node seg) s = .next (s.tableSegment node seg).settle := rfl
theorem exec_activateFrame (node : Nat) (f : ActivateP) (s : State) :
    exec (.activateFrame node f) s = .next ((s.activateFrame node f).relayActivate node f).settle := rfl
theorem exec_activateDiscard (node : Nat) (f : ActivateP) (s : State) :
    exec (.activateDiscard node f) s = .next ((s.activateDiscard node f).relayActivate node f).settle := rfl
theorem exec_bankSwitch (node : Nat) (s : State) : exec (.bankSwitch node) s = .next (s.bankSwitch node).settle := rfl

/-- The manifest opens the install at the agent (R105), whatever its checks then answer. -/
theorem manifest_shown (node : Nat) (m : ManifestP) (s : State) (hst : s.ga F.AG_INSTALL_STATE node 0 = 0) :
    Yields (.manifest node m) s (fun t => (t.ag node).manifest = some m ∧
      t.ga F.AG_INSTALL_INSTALL_ID node 0 = m.installId % 65536 ∧ t.ga F.AG_INSTALL_KIND node 0 = m.kind % 4 ∧
      t.ga F.AG_INSTALL_SEGMENTS node 0 = m.segments % 256 ∧ t.ga F.AG_ACT_ROUND_ROUND node 0 = m.actRound % 2 ^ 48) := by
  obtain ⟨u, ⟨hman, hid, hkind, hsegs, hround⟩, hrun⟩ := manifest_opens m hst
  refine ⟨_, exec_manifest node m s, ?_⟩
  dsimp only
  rw [ag_settle, settle_ga _ _ _ _ (by decide), settle_ga _ _ _ _ (by decide), settle_ga _ _ _ _ (by decide),
    settle_ga _ _ _ _ (by decide)]
  rcases hrun with h | h
  · have hrest := u.prepare_within node m
    rw [h, prepare_manifest, hrest.ga_eq (by decide), hrest.ga_eq (by decide), hrest.ga_eq (by decide), hrest.ga_eq (by decide)]
    exact ⟨hman, hid, hkind, hsegs, hround⟩
  · rw [h]
    exact ⟨hman, hid, hkind, hsegs, hround⟩

/-- A segment for the agent itself is held (R103). -/
theorem tableSegment_held (node : Nat) (seg : Segment) (s : State) (hcrc : seg.crcOk = true) (hroute : seg.route = [])
    (hall : seg.target ≠ 0xFFFFFFFF) (hmine : seg.target = s.agNode node) (hst : s.ga F.AG_INSTALL_STATE node 0 = 1)
    (hid : seg.installId = s.ga F.AG_INSTALL_INSTALL_ID node 0) :
    Yields (.tableSegment node seg) s (fun t => t.ga F.AG_INSTALL_MAP_MAP node (seg.index / 64) =
      setBit (s.ga F.AG_INSTALL_MAP_MAP node (seg.index / 64)) (seg.index % 64) true % 2 ^ 64) := by
  have hkept : s.tableSegment node seg = s.keepSegment node seg := by
    rw [tableSegment, if_neg (by simp [hcrc]), hroute]
    dsimp only
    rw [if_neg hall, if_pos (by simp [hmine])]
  obtain ⟨u, hmap, hrun⟩ := keepSegment_holds hst hid
  refine ⟨_, exec_tableSegment node seg s, ?_⟩
  dsimp only
  rw [settle_ga _ _ _ _ (by decide), hkept, ← hmap]
  rcases hrun with ⟨m, h⟩ | h
  · rw [h, (u.prepare_within node m).ga_eq (by decide)]
  · rw [h]

/-- A segment with a route goes on through its next port (R104). -/
theorem tableSegment_relayed (node p : Nat) (rest : List Nat) (seg : Segment) (s : State) (hcrc : seg.crcOk = true)
    (hroute : seg.route = p :: rest) :
    Yields (.tableSegment node seg) s (fun t => (∃ f ∈ (t.ag node).mgmt, f.port = p ∧ f.order = 6 ∧
      f.out = ⟨.relayed, node, p, [seg.installId, seg.target, seg.index, seg.epoch] ++ rest, seg.payload⟩) ∧
      Frame [] [] [.agents] s t) := by
  have hrun : s.tableSegment node seg = s.queueFrame node ⟨p, 6, 64 + seg.payload.length, some (s.treeIngress node),
      ⟨.relayed, node, p, [seg.installId, seg.target, seg.index, seg.epoch] ++ rest, seg.payload⟩⟩ := by
    rw [tableSegment, if_neg (by simp [hcrc]), hroute]
  refine ⟨_, exec_tableSegment node seg s, ?_⟩
  dsimp only
  rw [hrun, ag_settle, queueFrame_ag]
  exact ⟨⟨_, List.mem_append_right _ (List.mem_singleton_self _), rfl, rfl, rfl⟩,
    (Within.refl.queueFrame node _ (by decide)).frame⟩

/-- The first ACTIVATE for a round to come arms a PREPARED agent (R109). -/
theorem activateFrame_arms (node : Nat) (f : ActivateP) (s : State) (hst : s.ga F.AG_INSTALL_STATE node 0 = 2)
    (hid : f.installId = s.ga F.AG_INSTALL_INSTALL_ID node 0) (hkeep : f.discard = false) (hround : s.round < f.round) :
    Yields (.activateFrame node f) s (fun t => t.ga F.AG_INSTALL_STATE node 0 = 4 ∧
      t.ga F.AG_ACT_ROUND_ROUND node 0 = f.round % 2 ^ 48 ∧ (t.ag node).hold = f.held ∧ (t.ag node).fence = f.fence) := by
  have hrun : s.activateFrame node f = ((s.updAg node (fun a => { a with hold := f.held, fence := f.fence })).pn
      F.AG_INSTALL_STATE node 4).pn F.AG_ACT_ROUND_ROUND node f.round := if_pos (by simp [hst, hid, hkeep, hround])
  have hag : (s.activateFrame node f).ag node = { s.ag node with hold := f.held, fence := f.fence } := by
    rw [hrun, pn_eq, pn_eq, ag_pa, ag_pa, ag_updAg _ (s.ag_node node)]
  have hrelay := (s.activateFrame node f).relayActivate_ag node f
  have hrest := (s.activateFrame node f).relayActivate_within node f
  refine ⟨_, exec_activateFrame node f s, ?_, ?_, ?_, ?_⟩
  · rw [settle_ga _ _ _ _ (by decide), hrest.ga_eq rfl, hrun]
    simp (disch := decide)
  · rw [settle_ga _ _ _ _ (by decide), hrest.ga_eq rfl, hrun]
    simp (disch := decide)
  · rw [ag_settle, (congrArg Agent.hold hrelay :), hag]
  · rw [ag_settle, (congrArg Agent.fence hrelay :), hag]

/-- DISCARD drops the shadow banks of an agent in an install (R115). -/
theorem activateDiscard_drops (node : Nat) (f : ActivateP) (s : State) (hdiscard : f.discard = true)
    (h1 : 1 ≤ s.ga F.AG_INSTALL_STATE node 0) (h3 : s.ga F.AG_INSTALL_STATE node 0 ≤ 3)
    (hid : f.installId = s.ga F.AG_INSTALL_INSTALL_ID node 0) :
    Yields (.activateDiscard node f) s (fun t => t.ga F.AG_INSTALL_STATE node 0 = 0 ∧ (t.ag node).manifest = none ∧
      (t.ag node).active = (s.ag node).active ∧ ∀ e ∈ (t.ag node).flows, e.active = true ∧ e.shadow = false) := by
  have hrelay := (s.activateDiscard node f).relayActivate_ag node f
  refine ⟨_, exec_activateDiscard node f s, ?_⟩
  dsimp only
  rw [settle_ga _ _ _ _ (by decide), ((s.activateDiscard node f).relayActivate_within node f).ga_eq rfl, ag_settle,
    (congrArg Agent.manifest hrelay :), (congrArg Agent.active hrelay :), (congrArg Agent.flows hrelay :)]
  exact activateDiscard_own hdiscard h1 h3 hid

/-- The bank switch brings the merged shadow bank into force (R112, R398). -/
theorem bankSwitch_inForce (node : Nat) (s : State) (hst : s.ga F.AG_INSTALL_STATE node 0 = 4)
    (hdue : s.ga F.AG_ACT_ROUND_ROUND node 0 ≤ s.round) :
    Yields (.bankSwitch node) s (fun t => t.ga F.AG_INSTALL_STATE node 0 = 0 ∧
      (t.ag node).active = (State.holdMerge (s.ag node) s.flowCupola).shadow ∧ (t.ag node).hold = [] ∧
      ∀ e ∈ (t.ag node).flows, e.active = true ∧ e.shadow = false) := by
  obtain ⟨u, hagent, hrest⟩ := bankSwitch_armed hst hdue
  refine ⟨_, exec_bankSwitch node s, ?_⟩
  dsimp only
  rw [settle_ga _ _ _ _ (by decide), hrest.ga_eq (by decide), pn_eq, ga_pa_same _ _ _ _ _ (by decide), ag_settle,
    hrest.ag_eq (by decide), pn_eq, ag_pa]
  exact ⟨rfl, hagent⟩

/-- Settles O20: each row runs its operation, and what the operation leaves in the agent's registers and banks is said once
above. -/
theorem agentInstallComplete : Obligations.AgentInstallComplete :=
  ⟨manifest_shown, tableSegment_held, tableSegment_relayed, activateFrame_arms, activateDiscard_drops, bankSwitch_inForce,
    fun node seg s => ⟨_, exec_tableSegment node seg s, rfl⟩, fun node f s => ⟨_, exec_activateFrame node f s, rfl⟩,
    fun node f s => ⟨_, exec_activateDiscard node f s, rfl⟩⟩

end Sys2Proof.Machine
end

section
/-! A slot conflict that an agent has refused stops the install at its commit point (R25), and the statement asks for COMMITTED
whatever the targets have answered: it fails after such a refusal. -/
namespace Sys2Proof.Machine
open State

/-- The first install of a plan, with agent 0 as its target. -/
def conflictingInstall : Install := { firstInstall with targets := [0] }

/-- The commit point of round 2 is due, and agent 0 has refused its tables with SLOT_CONFLICT. -/
def commitAfterConflict : State :=
  ((({ State.reset with plan := { State.reset.plan with cur := some twoAcceleratorPlan }
                        bell := { State.reset.bell with install := some conflictingInstall } }).p
    F.BELL_ACT_ROUND_ROUND 2).pi F.BELL_AGENT_STATE 0 3).pi F.BELL_AGENT_REFUSAL 0 2

theorem commitAfterConflict_due : commitAfterConflict.bell.install = some conflictingInstall ∧
    commitAfterConflict.planFor conflictingInstall.kind = some twoAcceleratorPlan ∧ commitAfterConflict.committed = false ∧
    commitAfterConflict.g F.BELL_ACT_ROUND_ROUND = 2 ∧
    conflictingInstall.tables.code = commitAfterConflict.g F.BELL_STATUS_ROUND_CODE := by
  decide +kernel

/-- The install is cancelled. -/
theorem commitAfterConflict_cancels : commitAfterConflict.commitPoint.settle.g F.BELL_STATUS_INSTALL_STATE = 0 := by
  decide +kernel

theorem exec_commitPoint (s : State) : exec .commitPoint s = .next s.commitPoint.settle := rfl

/-- Refutes O21: an agent's SLOT_CONFLICT refusal cancels the install at its commit point (R25), where the clause on COMMIT_POINT
asks for COMMITTED whatever the targets have answered. -/
theorem not_installCommandsComplete : ¬ Obligations.InstallCommandsComplete := by
  unfold Obligations.InstallCommandsComplete
  rintro ⟨-, -, -, -, hcommit, -⟩
  obtain ⟨hinstall, hplan, hcommitted, hround, hcode⟩ := commitAfterConflict_due
  obtain ⟨hstate, -⟩ := (hcommit conflictingInstall twoAcceleratorPlan commitAfterConflict hinstall hplan (by decide) hcommitted
    (by rw [hround]; decide) (by rw [hround]; omega) (.inr hcode)).of_exec (exec_commitPoint commitAfterConflict)
  exact absurd (commitAfterConflict_cancels.symm.trans hstate) (by decide)

end Sys2Proof.Machine
end
